-- ==== Sys2Proof/Word.lean ====
section
/-! DEFINITION. The words of the 4120: the runs of bits its manual treats as bits (bytes on a link, the sets of a
request or a step body, stored steps, audio samples), and membership in a set. Everything else is a Nat or an inductive. -/

namespace Sys2Proof

/-- One byte of a link frame (R171). -/
abbrev Byte := BitVec 8

/-- One of two samples of an audio frame: signed, 16 bits (R59). -/
abbrev Sample := BitVec 16

/-- A jet set of six bytes: the member numbered `n` is bit `n` (section 11.7, R178). -/
abbrev JetSet := BitVec 48

/-- A pump set of two bytes, positions P0 to P15 (R4, R178). -/
abbrev PumpSet := BitVec 16

/-- A luminaire set of four bytes (R178). -/
abbrev LumSet := BitVec 32

/-- A channel mask: bits R, G, B, W from the lowest (R178, R179). -/
abbrev ChannelMask := BitVec 4

/-- The eight flags of the zone mask: bit `n` set for a masked zone `Zn` (R122, R179). -/
abbrev ZoneMask := BitVec 8

/-- One stored cue step, its sixteen bytes exactly as written (R3, R178): byte `i` is bits `8 * i` to `8 * i + 7`. -/
abbrev RawStep := BitVec 128

/-- The three Show Links SL0, SL1, SL2 (R170). -/
abbrev LinkId := Fin 3

/-- The twelve pumps P0 to P11 (R79). -/
abbrev PumpId := Fin 12

/-- The forty-eight jets J0 to J47 (R104). -/
abbrev JetId := Fin 48

/-- The thirty-two luminaires L0 to L31 (R132). -/
abbrev LumId := Fin 32

/-- The four channels R, G, B, W of a luminaire, in that order (R131). -/
abbrev ColourId := Fin 4

/-- The eight circulation zones Z0 to Z7 (R120). -/
abbrev ZoneId := Fin 8

/-- The four pages of the cue store (R1). -/
abbrev PageId := Fin 4

/-- The indices of the steps of a page (R1). -/
abbrev StepIndex := Fin 1024

/-- One stereo frame of the music (R59). -/
structure AudioFrame where
  left  : Sample
  right : Sample
deriving DecidableEq, Repr

/-- A silence frame: a pair of zeros (R59). -/
def AudioFrame.silence : AudioFrame := ⟨0, 0⟩

end Sys2Proof
end

