-- ==== Sys2Proof/Syntax.lean ====
section
/-! DEFINITION. The commands of the 4120: one constructor of `Instr` for each row of spec/opcode_table.json, with the
row's operands. A request carries the link it comes from; the fields of its payload follow in the order of R179. An
event of a line carries the level the line takes; an event of a timer carries the pump, switch or link it concerns. -/

namespace Sys2Proof

/-- The three strap pins of one link, each high (`true`) or low (R170). -/
structure StrapPins where
  role1 : Bool
  role0 : Bool
  fast  : Bool
deriving DecidableEq, Repr

/-- The levels of the input lines of the part (scope section 3.2, R81, R150 to R152, R170). The level switches and the
emergency stop are `true` when asserted; the other lines are `true` when high. -/
structure Lines where
  straps  : Vector StrapPins 3
  drvOk   : Vector Bool 12
  pressOk : Vector Bool 12
  lowWarn : Bool
  lowTrip : Bool
  eStop   : Bool
  dusk    : Bool
deriving DecidableEq, Repr

/-- The two float switches of the basin (R150). -/
inductive LevelSwitch where
  | lowWarn
  | lowTrip
deriving DecidableEq, Repr

/-- The commands. Numbers stand as Nat: their widths on the link are the business of `WellFormed`. -/
inductive Instr where
  /-- PAGE_OPEN (R8). -/
  | pageOpen (link : LinkId) (page : Nat)
  /-- STEP_WRITE (R9): start index, count, and the steps carried. -/
  | stepWrite (link : LinkId) (page start count : Nat) (steps : List RawStep)
  /-- SCENE_WRITE (R10): a start index, or none for EMPTY. -/
  | sceneWrite (link : LinkId) (page scene : Nat) (entry : Option Nat)
  /-- SLOT_WRITE (R11): source and sense as their codes. -/
  | slotWrite (link : LinkId) (page slot source sense threshold : Nat)
  /-- PAGE_CLOSE (R13). -/
  | pageClose (link : LinkId) (page : Nat)
  /-- The validation pass finishes (R13). -/
  | validationComplete
  /-- PAGE_FREE (R12). -/
  | pageFree (link : LinkId) (page : Nat)
  /-- CUE (R38). -/
  | cue (link : LinkId) (page : Nat) (music : Bool) (origin : Nat)
  /-- UNCUE (R39). -/
  | uncue (link : LinkId)
  /-- START (R40). -/
  | start (link : LinkId)
  /-- PAUSE (R41). -/
  | pause (link : LinkId)
  /-- CONTINUE (R42). -/
  | continueShow (link : LinkId)
  /-- HOLD_SET (R49): a scene, or none for NONE. -/
  | holdSet (link : LinkId) (scene : Option Nat)
  /-- AUDIO (R62): position, count, and the frames carried. -/
  | audio (link : LinkId) (position count : Nat) (frames : List AudioFrame)
  /-- AUDIO_END (R66). -/
  | audioEnd (link : LinkId) (position : Nat)
  /-- GAIN (R74). -/
  | gain (link : LinkId) (value : Nat)
  /-- DUCK (R74). -/
  | duck (link : LinkId) (value : Nat)
  /-- STOP (R43). -/
  | stop (link : LinkId)
  /-- TAKE (R162). -/
  | take (link : LinkId)
  /-- RELEASE (R163, R165). -/
  | release (link : LinkId)
  /-- TRIP (R166). -/
  | trip (link : LinkId)
  /-- CLEAR_TRIP (R168). -/
  | clearTrip (link : LinkId)
  /-- RESTART (R169). -/
  | restart (link : LinkId)
  /-- JET_SET (R113). -/
  | jetSet (link : LinkId) (jets : JetSet) (demand : Nat)
  /-- PUMP_START (R100). -/
  | pumpStart (link : LinkId) (pumps : PumpSet)
  /-- PUMP_STOP (R100). -/
  | pumpStop (link : LinkId) (pumps : PumpSet)
  /-- PUMP_POLICY (R100): the policy as its code, 0 FOLLOW, 1 EXPLICIT. -/
  | pumpPolicy (link : LinkId) (pumps : PumpSet) (policy : Nat)
  /-- CLEAR_PUMP (R98). -/
  | clearPump (link : LinkId) (pump : Nat)
  /-- LIGHT_SET (R135): luminaires, channels, the levels of R, G, B, W, and the fade in milliseconds. -/
  | lightSet (link : LinkId) (lums : LumSet) (mask : ChannelMask) (red green blue white fade : Nat)
  /-- ZONE_MASK (R122). -/
  | zoneMask (link : LinkId) (mask : ZoneMask)
  /-- FLUSH_ALL (R127). -/
  | flushAll (link : LinkId)
  /-- LIMIT_WRITE (R177): the section number and the section's entry bytes in the layout of R179. -/
  | limitWrite (link : LinkId) (sect : Nat) (entries : List Byte)
  /-- COMMISSION (R176). -/
  | commission (link : LinkId) (code : Nat)
  /-- RELAX (R176). -/
  | relax (link : LinkId) (code : Nat)
  /-- SLEEP (R160). -/
  | sleep (link : LinkId)
  /-- WAKE (R159). -/
  | wake (link : LinkId)
  /-- STATUS (R173). -/
  | status (link : LinkId)
  /-- READ_SHOW (R174). -/
  | readShow (link : LinkId)
  /-- READ_PUMPS (R174). -/
  | readPumps (link : LinkId)
  /-- READ_JETS (R174). -/
  | readJets (link : LinkId)
  /-- READ_LAMPS (R174). -/
  | readLamps (link : LinkId) (luminaire : Nat)
  /-- READ_SITE (R174). -/
  | readSite (link : LinkId)
  /-- READ_LIMITS (R174). -/
  | readLimits (link : LinkId) (sect : Nat)
  /-- READ_PAGE (R174). -/
  | readPage (link : LinkId) (page : Nat)
  /-- READ_STEPS (R174). -/
  | readSteps (link : LinkId) (page start count : Nat)
  /-- A frame's last byte has come (R171, R172): its kind, its payload, and the CRC it carried. -/
  | frameReceived (link : LinkId) (kind : Byte) (payload : List Byte) (crc : BitVec 16)
  /-- A frame's length field has come and exceeds 1,040 (R171): its kind and that length. -/
  | frameLengthFault (link : LinkId) (kind : Byte) (length : Nat)
  /-- 1 ms without a character in RECEIVING (R171): the kind byte if it had come. -/
  | frameGapTimeout (link : LinkId) (kind : Option Byte)
  /-- 1 ms of line idle after an over-length frame (R171). -/
  | discardIdleEnd (link : LinkId)
  /-- The oldest reply of a link has been sent (R172). -/
  | replyFrameSent (link : LinkId)
  /-- Power applied (R169), with the levels of the input lines at that moment. -/
  | powerOnReset (lines : Lines)
  /-- RESET_N asserted (R169). -/
  | lineResetAssert
  /-- RESET_N released (R169), with the straps as they are sampled then (R170). -/
  | lineResetRelease (straps : Vector StrapPins 3)
  /-- One millisecond of the LOCAL show clock (R76). -/
  | showClockTick
  /-- One audio frame period (R67, R73). -/
  | audioFramePeriod
  /-- The move of the applied gain, once every 48 frame periods (R75). -/
  | gainStep
  /-- A rising edge on the anemometer input (R146). -/
  | anemometerPulse
  /-- The one-second gate closes (R146). -/
  | windGateClose
  /-- A level switch input takes a level (R150). -/
  | levelInputChange (which : LevelSwitch) (asserted : Bool)
  /-- A level switch input has held its level for 2 s (R150). -/
  | levelDebounceExpiry (which : LevelSwitch)
  /-- E_STOP goes from CLEAR to ASSERTED (R151). -/
  | eStopAssert
  /-- E_STOP goes from ASSERTED to CLEAR (R151). -/
  | eStopRelease
  /-- The DUSK line takes a level (R152). -/
  | duskInputChange (high : Bool)
  /-- The DUSK line has held its level for 10 s (R152). -/
  | duskDebounceExpiry
  /-- The 20 ms hydraulic update (R114). -/
  | hydraulicUpdate
  /-- A time named in R87 is reached. -/
  | queueTimingExpiry
  /-- PRESS_OK of a pump rises (R89); `high` is the level at which the line then stands (log entry 3). -/
  | pressOkRise (pump : PumpId) (high : Bool)
  /-- t_prime_min passes since the grant (R89). -/
  | primeMinExpiry (pump : PumpId)
  /-- t_prime_max passes since the grant (R90). -/
  | primeTimeout (pump : PumpId)
  /-- t_run_min passes since the grant (R93). -/
  | runMinExpiry (pump : PumpId)
  /-- The idle expiry is reached (R95). -/
  | idleExpiry (pump : PumpId)
  /-- t_rest passes since entry into RESTING (R96). -/
  | restEnd (pump : PumpId)
  /-- DRV_OK of a pump falls (R97); `high` is the level at which the line then stands (log entry 3). -/
  | drvOkFall (pump : PumpId) (high : Bool)
  /-- The circulation period expires (R121). -/
  | flushPeriodExpiry
  /-- The open time of a single flush reaches its duration (R124). -/
  | flushEnd
  /-- The open time of a FLUSH_ALL zone reaches the run's duration (R128). -/
  | flushAllZoneDone
  /-- The dry time of a flush reaches 120 s (R125). -/
  | flushStall
  /-- The settle time has passed (R156). -/
  | settleExpiry
  /-- The dormancy timer's time has passed (R161). -/
  | dormancyExpiry
  /-- 30 s have passed since the RELEASE (R164). -/
  | restoreTimeout
  /-- The 25 ms lamp frame (R138). -/
  | lampFrame
  /-- The start byte A5 arrives on a link (R171). -/
  | startByteReceived (link : LinkId)
deriving DecidableEq, Repr

end Sys2Proof
end

