-- ==== Sys2Proof/Decode.lean ====
section
/-! DEFINITION. The rows of the opcode table that give bits: none does, since the commands of a block are not words of a
program. The frames of the links are read in Machine/Frames.lean, as R171 and R179 give them. -/

namespace Sys2Proof

/-- The command that a word spells by the table's bits: no row of the table has any. -/
def decodeTableWord (_nbits _w : Nat) : Option Instr := none

end Sys2Proof
end

