-- ==== Sys2Proof/Config.lean ====
section
/-! DEFINITION. What the manual leaves open, as constants without a body: nothing in Lean can evaluate one or prove a
value of it, so a claim holds whatever it is. Each is named in the assumption log. -/

namespace Sys2Proof.Config

/-- Log entry 6. Whether a request whose rule names no BAD_ARG test of its own (UNCUE, START, PAUSE and the other
requests without a payload) is tested for a payload of the wrong length before its rule's own tests (`true`) or after
them (`false`), by the kind byte of the request. R172 says only that the test follows in the rule's own order. -/
opaque lengthTestedFirst : Nat → Bool

/-- Log entry 8. Which of the events that are due comes next, as an index counted round the list `due` of them, in the
millisecond `now` of the local timebase with `left` audio frame periods of it still to come. The manual says of such events
that either may come first. -/
opaque nextDue (now left : Nat) (due : List (List Instr)) : Nat

/-- Log entry 8. Whether LOW_TRIP is taken before LOW_WARN where both debounced states change in the millisecond `now`: R150
says that either may be taken first. -/
opaque tripSwitchFirst (now : Nat) : Bool

/-- Log entry 9. Whether a validation pass still in progress completes in the millisecond `now`, with `left` audio frame periods
of it still to come: R13 says only that the pass takes time in proportion to the size of the page. -/
opaque validationCompletes (now left : Nat) : Bool

/-- Log entry 9. Whether the oldest of the `waiting` reply frames of link `link` finishes sending in the millisecond `now`, with
`left` audio frame periods of it still to come: the time depends on a payload layout and a line signalling that section 4 of
the scope puts outside the manual. -/
opaque replyFinishes (now left link waiting : Nat) : Bool

end Sys2Proof.Config
end

