-- ==== Sys2Proof/Machine/State.lean ====
section
/-! DEFINITION. The state of the 4120: every record the manual gives its eight blocks, the input lines, what its output
lines last carried, the local timebase, and the queue of waiting commands. All of it is plain data. A docstring names
the rule that gives the field; a field marked MODEL is the model's own, and its log entry is named. -/

namespace Sys2Proof.Machine

/-! ## Cue store (R1, R7, R17) -/

/-- The states of a page (R1). -/
inductive PageState where
  | free | loading | checking | ready | invalid | live
deriving DecidableEq, Repr

/-- Where the first fault of a page lies (R17). -/
inductive Locus where
  | step | scene | slot
deriving DecidableEq, Repr

/-- The reasons of a fault record (R17). -/
inductive FaultReason where
  | badKind | emptySet | range | badScene | badSlot | badCounter | interrupted
deriving DecidableEq, Repr

/-- The fault record of an INVALID page; locus and number are absent for INTERRUPTED (R17). -/
structure FaultRecord where
  locus  : Option Locus
  number : Option Nat
  reason : FaultReason
deriving DecidableEq, Repr

/-- A condition slot, its fields as written (R7, R11). -/
structure Slot where
  source    : Nat
  sense     : Nat
  threshold : Nat
deriving DecidableEq, Repr

/-- One page of the cue store (R1). A scene entry is a start index as written, or none for EMPTY (R6). -/
structure Page where
  state  : PageState
  steps  : Vector RawStep 1024
  scenes : Vector (Option Nat) 16
  slots  : Vector Slot 8
  fault  : Option FaultRecord
deriving DecidableEq, Repr

/-! ## Show record and show image (R21, R22) -/

/-- The cue states (R21). -/
inductive CueState where
  | idle | cued | running | holding | paused | restoring | ending
deriving DecidableEq, Repr

/-- Who paused the show (R21). -/
inductive PauseCause where
  | program | take
deriving DecidableEq, Repr

/-- The show record (R21). -/
structure ShowRecord where
  cue        : CueState
  livePage   : Option PageId
  mainCursor : Option StepIndex
  mainDue    : Option Nat
  holdCursor : Option StepIndex
  holdDue    : Option Nat
  counters   : Vector Nat 4
  shadow     : Option (Vector Nat 4)
  pauseCause : Option PauseCause
  lastMark   : Option Nat
  holdEntry  : Option Nat
deriving DecidableEq, Repr

/-- A pump's intent (R79). -/
inductive Intent where
  | run | stop
deriving DecidableEq, Repr

/-- A pump's policy (R79). -/
inductive Policy where
  | follow | explicit
deriving DecidableEq, Repr

/-- The jet part of the show image (R22). -/
structure ImageJet where
  demand   : Nat
  burstEnd : Option Nat
deriving DecidableEq, Repr

/-- The pump part of the show image (R22). -/
structure ImagePump where
  intent : Intent
  policy : Policy
deriving DecidableEq, Repr

/-- The show image (R22). -/
structure ShowImage where
  jets  : Vector ImageJet 48
  pumps : Vector ImagePump 12
deriving DecidableEq, Repr

/-! ## Audio and show clock (R59, R60, R74 to R76) -/

/-- The audio states (R60). -/
inductive AudioState where
  | off | filling | playing | starved | held | finished
deriving DecidableEq, Repr

/-- The playback record and the audio buffer (R59, R60). The buffer's head `h` is the play position `p` (R59 makes the
two equal in every audio state), so its tail is `p` plus the number of frames held. -/
structure Playback where
  state  : AudioState
  music  : Bool
  /-- play position p -/
  p      : Nat
  /-- origin p0 -/
  p0     : Nat
  /-- end position F -/
  endAt  : Option Nat
  held   : AudioFrame
  /-- mute ramp value r, 0..64 -/
  r      : Nat
  /-- the frames held, the head first -/
  buffer : List AudioFrame
deriving DecidableEq, Repr

/-- The gain record: master gain G, duck D, applied gain g, each 0..256 (R74, R75). -/
structure GainRecord where
  master  : Nat
  duck    : Nat
  applied : Nat
deriving DecidableEq, Repr

/-- The sources of the show clock (R76). -/
inductive ClockSource where
  | audio | localTime
deriving DecidableEq, Repr

/-- The show clock record (R76). -/
structure ShowClock where
  /-- value S -/
  value   : Nat
  source  : ClockSource
  running : Bool
  /-- MODEL (log entry 2): the local millisecond from which the next LOCAL advance is measured. -/
  stamp   : Nat
deriving DecidableEq, Repr

/-! ## Pumps, jets and the start arbiter (R79, R84, R85, R104) -/

/-- The pump states (R79). -/
inductive PumpState where
  | outOfService | stopped | priming | running | resting | faulted
deriving DecidableEq, Repr

/-- The fault causes of a pump (R79). -/
inductive PumpFault where
  | drive | primeTimeout
deriving DecidableEq, Repr

/-- One pump record (R79), with the ends of its running timers: R80 lets a timer already running keep the value it
started with, so the end is fixed when the timer starts. -/
structure Pump where
  state       : PumpState
  intent      : Intent
  policy      : Policy
  stopPending : Bool
  lastGrant   : Option Nat
  stateEntry  : Nat
  idleExpiry  : Option Nat
  faultCause  : Option PumpFault
  /-- target t_p -/
  target      : Nat
  /-- setpoint a_p -/
  setpoint    : Nat
  /-- the end of t_prime_min, from the grant (R80, R89) -/
  primeMinEnd : Nat
  /-- the end of t_prime_max, from the grant (R80, R90) -/
  primeMaxEnd : Nat
  /-- the end of t_run_min, from the grant (R80, R92) -/
  runMinEnd   : Nat
  /-- the end of t_rest, from entry into RESTING (R80, R96) -/
  restEnd     : Nat
deriving DecidableEq, Repr

/-- The requesters of a start (R83). -/
inductive Requester where
  | showRun | panel | follow | flush
deriving DecidableEq, Repr

/-- An entry of the start queue (R84). -/
structure StartEntry where
  pump      : PumpId
  requester : Requester
  enqueued  : Nat
deriving DecidableEq, Repr

/-- The states of a jet (R104). -/
inductive JetState where
  | closed | waiting | opened
deriving DecidableEq, Repr

/-- The owners of a jet (R104). -/
inductive Owner where
  | none | showRun | panel | flush
deriving DecidableEq, Repr

/-- The wait causes of a jet (R104, R108). -/
inductive WaitCause where
  | pumpStarting | pumpFault | pumpOut | noPower
deriving DecidableEq, Repr

/-- One jet record (R104). -/
structure Jet where
  state     : JetState
  owner     : Owner
  demand    : Nat
  burstEnd  : Option Nat
  waitCause : Option WaitCause
  /-- effective height h -/
  height    : Nat
deriving DecidableEq, Repr

/-! ## Circulation (R120) -/

/-- The two kinds of flush (R120). -/
inductive FlushMode where
  | single | all
deriving DecidableEq, Repr

/-- The flush record (R120): times in milliseconds, the duration in seconds. -/
structure Flush where
  mode     : FlushMode
  zone     : ZoneId
  start    : Nat
  height   : Nat
  duration : Nat
  openTime : Nat
  dryTime  : Nat
  started  : Vector Bool 12
deriving DecidableEq, Repr

/-- The circulation record (R120). -/
structure Circulation where
  debt        : Nat
  /-- milliseconds since the last period expiry -/
  periodTimer : Nat
  /-- the period, in seconds, that the running timer started with (R120, R121) -/
  period      : Nat
  pointer     : ZoneId
  mask        : ZoneMask
  flush       : Option Flush
deriving DecidableEq, Repr

/-! ## Lighting (R131, R132, R138, R140) -/

/-- The clocks of a fade (R131). -/
inductive FadeClock where
  | showTime | localTime
deriving DecidableEq, Repr

/-- A channel record: one fade (R131). -/
structure Fade where
  start    : Nat
  target   : Nat
  origin   : Nat
  duration : Nat
  clock    : FadeClock
deriving DecidableEq, Repr

/-- The layers (R131). -/
inductive Layer where
  | showLayer | panelLayer
deriving DecidableEq, Repr

/-- A release crossfade: the four start levels and the local millisecond of its origin (R140). -/
structure Crossfade where
  start  : Vector Nat 4
  origin : Nat
deriving DecidableEq, Repr

/-- One luminaire record (R132). -/
structure Luminaire where
  /-- gate value g, 0..256 -/
  gate      : Nat
  active    : Layer
  crossfade : Option Crossfade
deriving DecidableEq, Repr

/-! ## Sensing (R145) -/

/-- A debounced input: its state and the time since which the input has held its level (R145, R150, R152). -/
structure Debounced where
  state : Bool
  since : Nat
deriving DecidableEq, Repr

/-- The sensing record (R145). -/
structure Sensing where
  pulses    : Nat
  /-- milliseconds since the present gate opened -/
  gateTimer : Nat
  lastCount : Option Nat
  /-- empty or eight samples, oldest first -/
  ring      : List Nat
  vAvg      : Nat
  vPeak     : Nat
  previous  : Option Nat
  factors   : Vector Nat 4
  lowWarn   : Debounced
  lowTrip   : Debounced
  /-- LEVEL: 0 normal, 1 warn, 2 trip -/
  level     : Nat
  eStop     : Bool
  dusk      : Debounced
deriving DecidableEq, Repr

/-! ## Mode record (R155) -/

/-- The fountain modes (R155). -/
inductive FountainMode where
  | dormant | settling | standby | showMode | manual | tripped
deriving DecidableEq, Repr

/-- The power states (R156). -/
inductive PowerState where
  | off | settling | on
deriving DecidableEq, Repr

/-- The wake continuations (R155). -/
inductive WakeTo where
  | standby | manual
deriving DecidableEq, Repr

/-- The trip causes (R166). -/
inductive TripCause where
  | eStop | level | panel
deriving DecidableEq, Repr

/-- A running timer of the mode record: its start, and its length as the limit table gave it when it started
(seconds for the settle timer, minutes for the dormancy timer). -/
structure Timer where
  start  : Nat
  length : Nat
deriving DecidableEq, Repr

/-- The mode record (R155). The restore timeout holds its start; its length is 30 s. -/
structure ModeRecord where
  mode         : FountainMode
  power        : PowerState
  settle       : Option Timer
  wake         : Option WakeTo
  flushRunning : Bool
  dormancy     : Option Timer
  restore      : Option Nat
  /-- the trip cause set, each cause at most once -/
  causes       : List TripCause
deriving DecidableEq, Repr

/-! ## Limit table and protection (R175, R176) -/

/-- The entries of one jet (R105, R175). -/
structure JetLimit where
  /-- L_j -/
  height : Nat
  pump   : PumpId
  zone   : ZoneId
  wind   : Fin 4
deriving DecidableEq, Repr

/-- The entries of one pump (R80, R175). -/
structure PumpLimit where
  inService : Bool
  sMin      : Nat
  sMax      : Nat
  primeMin  : Nat
  primeMax  : Nat
  runMin    : Nat
  rest      : Nat
  cycle     : Nat
  idle      : Nat
  rUp       : Nat
  rDown     : Nat
deriving DecidableEq, Repr

/-- The site entries (R175). -/
structure SiteLimit where
  /-- N_w -/
  windowGrants  : Nat
  /-- T_w, seconds -/
  window        : Nat
  /-- t_space, milliseconds -/
  space         : Nat
  /-- settle time, seconds -/
  settle        : Nat
  /-- dormancy time, minutes; 0 for never -/
  dormancy      : Nat
  /-- level-warn factor m -/
  levelFactor   : Nat
  /-- anemometer scale K -/
  windScale     : Nat
  gust          : Nat
  /-- flush period, seconds -/
  period        : Nat
  flushHeight   : Nat
  /-- seconds -/
  flushDuration : Nat
  /-- lamp power cap C -/
  cap           : Nat
deriving DecidableEq, Repr

/-- The entries of one wind class (R149, R175). -/
structure WindLimit where
  calm : Nat
  gale : Nat
  wMin : Nat
deriving DecidableEq, Repr

/-- The couplings of a luminaire (R132). -/
inductive Coupling where
  | none | gate
deriving DecidableEq, Repr

/-- The entries of one luminaire (R132, R175). -/
structure LumLimit where
  jet      : Option JetId
  coupling : Coupling
deriving DecidableEq, Repr

/-- The limit table (R175). -/
structure Limits where
  jets  : Vector JetLimit 48
  pumps : Vector PumpLimit 12
  site  : SiteLimit
  wind  : Vector WindLimit 4
  lums  : Vector LumLimit 32
deriving DecidableEq, Repr

/-- One section of the limit table, as LIMIT_WRITE carries it and READ_LIMITS reports it (R175). -/
inductive LimitSection where
  | jets  (entries : Vector JetLimit 48)
  | pumps (entries : Vector PumpLimit 12)
  | site  (entries : SiteLimit)
  | wind  (entries : Vector WindLimit 4)
  | lums  (entries : Vector LumLimit 32)
deriving DecidableEq, Repr

/-- The protection levels (R176). -/
inductive Protection where
  | opened | guarded | locked
deriving DecidableEq, Repr

/-! ## Links (R170, R172, R173) -/

/-- The roles of a link (R170). -/
inductive Role where
  | program | panel | observer
deriving DecidableEq, Repr

/-- The receive states of a link (R170). -/
inductive Receive where
  | hunt | receiving
deriving DecidableEq, Repr

/-- The notice kinds (R173). -/
inductive Notice where
  | showState | mark | hold | gust | audioLow | audioStarved | pumpFault | trip | flushOverdue | flushStalled
  | pageChecked | mode
deriving DecidableEq, Repr

/-- The reply codes, in the order of section 11.3 (R172, R179). -/
inductive ReplyCode where
  | ok | trimmed | gapFilled | late | ahead | full | busy | badFrame | unknown | role | badArg | state | locked
  | notOwner | codeMismatch | notPrimed | badScene
deriving DecidableEq, Repr

/-- The playback record as READ_SHOW reports it (R60, R174). -/
structure PlaybackReport where
  state : AudioState
  music : Bool
  p     : Nat
  p0    : Nat
  endAt : Option Nat
  held  : AudioFrame
  r     : Nat
deriving DecidableEq, Repr

/-- The show clock record as READ_SHOW reports it (R76, R174). -/
structure ClockReport where
  value   : Nat
  source  : ClockSource
  running : Bool
deriving DecidableEq, Repr

/-- A pump record as READ_PUMPS reports it (R79, R174). -/
structure PumpReport where
  state       : PumpState
  intent      : Intent
  policy      : Policy
  stopPending : Bool
  lastGrant   : Option Nat
  stateEntry  : Nat
  idleExpiry  : Option Nat
  faultCause  : Option PumpFault
  target      : Nat
  setpoint    : Nat
deriving DecidableEq, Repr

/-- The circulation record as READ_SITE reports it (R120, R174). -/
structure CirculationReport where
  debt        : Nat
  periodTimer : Nat
  pointer     : ZoneId
  mask        : ZoneMask
  flush       : Option Flush
deriving DecidableEq, Repr

/-- The data of a reply, field by field: their byte layout is outside the manual (scope section 4), but for the
stored steps of READ_STEPS, which are the stored words themselves. -/
inductive ReplyData where
  /-- no data -/
  | none
  /-- PAGE_CLOSE (R13) -/
  | checked (state : PageState) (fault : Option FaultRecord)
  /-- CLEAR_TRIP refused: the trip cause set and the inputs that still stand (R168) -/
  | standing (causes : List TripCause) (eStop level : Bool)
  /-- STATUS (R173) -/
  | status (notices : List Notice) (lastMark : Option Nat) (causes : List TripCause) (faulted : List PumpId)
  /-- READ_SHOW (R174) -/
  | readShow (record : ShowRecord) (image : ShowImage) (playback : PlaybackReport) (fill : Nat) (gain : GainRecord)
      (clock : ClockReport)
  /-- READ_PUMPS (R174) -/
  | readPumps (pumps : Vector PumpReport 12) (queue : List StartEntry) (history : List Nat)
  /-- READ_JETS (R174) -/
  | readJets (jets : Vector Jet 48) (limits : Vector JetLimit 48)
  /-- READ_LAMPS (R174) -/
  | readLamps (luminaire : Luminaire) (showLayer panelLayer : Vector Fade 4) (outputs : Vector Nat 128)
  /-- READ_SITE (R174) -/
  | readSite (sense : Sensing) (circ : CirculationReport) (mode : ModeRecord)
  /-- READ_LIMITS (R174) -/
  | readLimits (entries : LimitSection) (level : Protection)
  /-- READ_PAGE (R174) -/
  | readPage (state : PageState) (scenes : Vector (Option Nat) 16) (slots : Vector Slot 8) (fault : Option FaultRecord)
  /-- READ_STEPS (R174) -/
  | readSteps (steps : List RawStep)
deriving DecidableEq, Repr

/-- A reply frame: the kind byte of the request it answers, its code, its data (R172). -/
structure Reply where
  kind : Nat
  code : ReplyCode
  data : ReplyData
deriving DecidableEq, Repr

/-- One link record (R170). -/
structure Link where
  role       : Role
  /-- 6 Mbit/s when `true`, 2 Mbit/s when `false` -/
  fast       : Bool
  receive    : Receive
  /-- the discarding of characters that follows an over-length frame (R171) -/
  discarding : Bool
  /-- the kind of the request whose reply is owed -/
  owed       : Option Nat
  /-- replies produced and not yet sent, oldest first -/
  replies    : List Reply
  /-- the notice set, each kind at most once -/
  notices    : List Notice
  /-- MODEL (log entry 12): the reply frames that the link sent last. -/
  sent       : List Reply
deriving DecidableEq, Repr

/-! ## The part -/

/-- The whole part, without the queue of waiting commands. -/
structure Chip where
  /-- the local timebase, in milliseconds (scope section 5.2) -/
  now        : Nat
  /-- RESET_N is asserted (R169) -/
  resetHeld  : Bool
  lines      : Lines
  links      : Vector Link 3
  pages      : Vector Page 4
  run        : ShowRecord
  image      : ShowImage
  playback   : Playback
  gain       : GainRecord
  /-- audio frame periods since the applied gain last moved, 0..48 (R75; from the reset on, log entry 21) -/
  gainPeriods : Nat
  clock      : ShowClock
  /-- the frame last sent to the DAC (R73, R75) -/
  dac        : AudioFrame
  /-- MODEL (log entry 2; from a reset on, log entry 21): audio frame periods still to come in the present millisecond, 0..48 -/
  framesLeft : Nat
  pumps      : Vector Pump 12
  /-- the start queue, in the order of joining (R84) -/
  queue      : List StartEntry
  /-- MODEL (log entry 14): start requests of the event in progress, in ascending pump order, that join the queue at its end; empty between commands -/
  joining    : List StartEntry
  /-- the grant history, oldest first, at most eight (R85) -/
  history    : List Nat
  /-- MODEL (log entry 21): milliseconds since the last hydraulic update, 0..20 -/
  hydTimer   : Nat
  /-- S_min in force for each pump: that of the limit table at the latest hydraulic update (R80, R101), and, before the
  first update after a reset, that of the table the reset leaves (log entry 33) -/
  sMinInForce : Vector Nat 12
  jets       : Vector Jet 48
  circ       : Circulation
  showLayer  : Vector Fade 128
  panelLayer : Vector Fade 128
  lums       : Vector Luminaire 32
  /-- the output record (R138) -/
  outputs    : Vector Nat 128
  /-- the frame last sent on the lamp line, none before the first (R138) -/
  lampLine   : Option (Vector Nat 128)
  /-- MODEL (log entry 21): milliseconds since the last lamp frame, 0..25 -/
  lampTimer  : Nat
  sense      : Sensing
  mode       : ModeRecord
  limits     : Limits
  protection : Protection
  siteCode   : Option Nat
deriving DecidableEq, Repr

/-- The machine: the part, and the commands that wait for it, first in, first out. -/
structure State where
  chip    : Chip
  pending : List Instr
deriving DecidableEq, Repr

/-- Nobody raises a fault: the manual names no command on which the part stops, so the type has no constructor. -/
inductive Fault where
deriving DecidableEq, Repr

/-- The refusals of the model. -/
inductive Refusal where
  /-- Raised by the dispatch alone, for a row of the opcode table that has no meaning yet; safe, since nothing is then
  claimed of it. No row is left in this state. -/
  | notModelled (mnemonic : String)
deriving DecidableEq, Repr

/-! ## Values after power-on reset -/

/-- The cleared contents of a step: EMPTY, ALWAYS, delay 0 (R1, R178). The twelve bytes of its body and the upper half of
byte 0, which the manual leaves open and READ_STEPS returns, are 0 (log entry 31). -/
def emptyStep : RawStep := 0

/-- A slot with source NONE (R1); its sense and threshold, which the manual leaves open, are 0 (log entry 5). -/
def emptySlot : Slot := ⟨0, 0, 0⟩

/-- A page FREE with the cleared contents (R1). -/
def clearedPage : Page where
  state  := .free
  steps  := Vector.replicate 1024 emptyStep
  scenes := Vector.replicate 16 none
  slots  := Vector.replicate 8 emptySlot
  fault  := none

/-- The show record after every reset (R47). -/
def idleShow : ShowRecord where
  cue := .idle
  livePage := none
  mainCursor := none
  mainDue := none
  holdCursor := none
  holdDue := none
  counters := Vector.replicate 4 0
  shadow := none
  pauseCause := none
  lastMark := none
  holdEntry := none

/-- The cleared show image (R22). -/
def clearedImage : ShowImage where
  jets  := Vector.replicate 48 ⟨0, none⟩
  pumps := Vector.replicate 12 ⟨.stop, .follow⟩

/-- The playback record after every reset (R78). -/
def silentPlayback : Playback where
  state := .off
  music := false
  p := 0
  p0 := 0
  endAt := none
  held := AudioFrame.silence
  r := 0
  buffer := []

/-- The gain record after every reset (R78). -/
def resetGain : GainRecord := ⟨256, 256, 0⟩

/-- A pump after power-on and line reset (R103). -/
def resetPump : Pump where
  state := .outOfService
  intent := .stop
  policy := .follow
  stopPending := false
  lastGrant := none
  stateEntry := 0
  idleExpiry := none
  faultCause := none
  target := 0
  setpoint := 0
  primeMinEnd := 0
  primeMaxEnd := 0
  runMinEnd := 0
  restEnd := 0

/-- A jet after every reset (R119). -/
def closedJet : Jet := ⟨.closed, .none, 0, none, none, 0⟩

/-- A channel record settled at 0 on a clock, as every reset leaves it (R131, R144). -/
def darkFade (clock : FadeClock) : Fade := ⟨0, 0, 0, 0, clock⟩

/-- A luminaire after every reset (R144). -/
def resetLuminaire : Luminaire := ⟨0, .showLayer, none⟩

/-- The default limit table (R175, R105). -/
def defaultLimits : Limits where
  jets  := Vector.ofFn fun j =>
    ⟨0, ⟨j.val / 4, Nat.div_lt_of_lt_mul j.isLt⟩, ⟨j.val / 6, Nat.div_lt_of_lt_mul j.isLt⟩, 0⟩
  pumps := Vector.replicate 12 ⟨false, 300, 1000, 2000, 10000, 30, 20, 120, 10, 20, 20⟩
  site  := ⟨4, 60, 2000, 16, 0, 500, 16, 150, 1800, 300, 60, 0⟩
  wind  := Vector.replicate 4 ⟨999, 999, 1000⟩
  lums  := Vector.replicate 32 ⟨none, .none⟩

/-- The mode record after every reset (R169). -/
def resetMode : ModeRecord := ⟨.dormant, .off, none, none, false, none, none, []⟩

/-- The circulation record after power-on and line reset (R130), with the default period running. -/
def resetCirculation : Circulation := ⟨0, 0, 1800, 0, 0, none⟩

/-- The sensing record after a reset at time `now` that finds the emergency stop line at `eStop` (R154). -/
def resetSensing (now : Nat) (eStop : Bool) : Sensing where
  pulses := 0
  gateTimer := 0
  lastCount := none
  ring := []
  vAvg := 0
  vPeak := 0
  previous := none
  factors := Vector.replicate 4 1000
  lowWarn := ⟨false, now⟩
  lowTrip := ⟨false, now⟩
  level := 0
  eStop := eStop
  dusk := ⟨false, now⟩

/-- A link record after a reset, with the role and rate it then has (R170). -/
def resetLink (role : Role) (fast : Bool) : Link where
  role := role
  fast := fast
  receive := .hunt
  discarding := false
  owed := none
  replies := []
  notices := []
  sent := []

/-- The part right after power is applied, with the input lines at `lines` and the link records `links` made from the
straps, before an asserted emergency stop line acts. The part counts its 20 ms, its 25 ms, its audio frame periods and the 48 of
them to a move of the gain from this moment (log entry 21). -/
def poweredChip (lines : Lines) (links : Vector Link 3) : Chip where
  now := 0
  resetHeld := false
  lines := lines
  links := links
  pages := Vector.replicate 4 clearedPage
  run := idleShow
  image := clearedImage
  playback := silentPlayback
  gain := resetGain
  gainPeriods := 0
  clock := ⟨0, .localTime, false, 0⟩
  dac := AudioFrame.silence
  framesLeft := 0
  pumps := Vector.replicate 12 resetPump
  queue := []
  joining := []
  history := []
  hydTimer := 0
  sMinInForce := Vector.replicate 12 300
  jets := Vector.replicate 48 closedJet
  circ := resetCirculation
  showLayer := Vector.replicate 128 (darkFade .showTime)
  panelLayer := Vector.replicate 128 (darkFade .localTime)
  lums := Vector.replicate 32 resetLuminaire
  outputs := Vector.replicate 128 0
  lampLine := none
  lampTimer := 0
  sense := resetSensing 0 lines.eStop
  mode := resetMode
  limits := defaultLimits
  protection := .opened
  siteCode := none

/-- The input lines of `State.reset` (log entry 4): SL0 strapped PROGRAM, SL1 PANEL, SL2 OBSERVER, all at 2 Mbit/s;
every drive healthy, no pressure, both level switches and the emergency stop clear, daylight. -/
def usualLines : Lines where
  straps := #v[⟨false, true, false⟩, ⟨true, false, false⟩, ⟨false, false, false⟩]
  drvOk := Vector.replicate 12 true
  pressOk := Vector.replicate 12 false
  lowWarn := false
  lowTrip := false
  eStop := false
  dusk := false

/-- The link records those straps give. -/
def usualLinks : Vector Link 3 :=
  #v[resetLink .program false, resetLink .panel false, resetLink .observer false]

/-- The machine right after power-on reset, with nothing waiting. -/
def State.reset : State := ⟨poweredChip usualLines usualLinks, []⟩

/-- The effect of a command that changes the part and leaves the queue alone. -/
def State.act (f : Chip → Chip) (s : State) : Host.Outcome State Fault Refusal :=
  .next { s with chip := f s.chip }

end Sys2Proof.Machine
end

