-- ==== Sys2Proof/Machine/Operands.lean ====
section
/-! DEFINITION. Operand forms: numbers and sets in a payload (R178, R179), the stored step of sixteen bytes (R178), and
the sections of the limit table with their ranges (R175, R179). -/

namespace Sys2Proof.Machine

/-! ## Bytes -/

/-- A multi-byte field, most significant byte first (section 11.7). -/
def beNat (bytes : List Byte) : Nat := bytes.foldl (fun n b => n * 256 + b.toNat) 0

/-- The same bytes with the first least significant: a set, whose member `n` is bit `n mod 8` of byte `n / 8` (R178). -/
def leNat (bytes : List Byte) : Nat := bytes.foldr (fun b n => b.toNat + 256 * n) 0

/-- The field of `len` bytes at `off` in a payload, most significant byte first. -/
def beAt (bytes : List Byte) (off len : Nat) : Nat := beNat ((bytes.drop off).take len)

/-- The set of `len` bytes at `off` in a payload. -/
def setAt (bytes : List Byte) (off len : Nat) : Nat := leNat ((bytes.drop off).take len)

/-- A step from its sixteen bytes. -/
def stepOfBytes (bytes : List Byte) : RawStep := BitVec.ofNat 128 (leNat bytes)

/-- The `count` steps carried by a run of bytes, sixteen each. -/
def stepsOfBytes (count : Nat) (bytes : List Byte) : List RawStep :=
  (List.range count).map fun k => stepOfBytes ((bytes.drop (16 * k)).take 16)

/-- The `count` audio frames carried by a run of bytes, four each: left sample, then right (section 11.7). -/
def framesOfBytes (count : Nat) (bytes : List Byte) : List AudioFrame :=
  (List.range count).map fun k =>
    ⟨BitVec.ofNat 16 (beAt bytes (4 * k) 2), BitVec.ofNat 16 (beAt bytes (4 * k + 2) 2)⟩

/-! ## The stored step (R3, R4, R178) -/

/-- The kinds of a step (R3). -/
inductive StepKind where
  | empty | jet | burst | cut | pump | light | jump | loopSet | loop | mark | endShow | resume
deriving DecidableEq, Repr

/-- The condition of a step (R3). -/
inductive Condition where
  | always
  | holds (slot : Fin 8)
  | fails (slot : Fin 8)
deriving DecidableEq, Repr

/-- The actions of a PUMP step (R4). -/
inductive PumpAction where
  | start | stop | follow | explicit
deriving DecidableEq, Repr

/-- Byte `i` of a step. -/
def stepByte (raw : RawStep) (i : Nat) : Nat := (raw.extractLsb' (8 * i) 8).toNat

/-- The two-byte field at byte `i` of a step. -/
def stepWord (raw : RawStep) (i : Nat) : Nat := stepByte raw i * 256 + stepByte raw (i + 1)

/-- The kind of a step; none for an unknown step (R3, R178). -/
def stepKind (raw : RawStep) : Option StepKind :=
  match (raw.extractLsb' 0 4).toNat with
  | 0 => some .empty
  | 1 => some .jet
  | 2 => some .burst
  | 3 => some .cut
  | 4 => some .pump
  | 5 => some .light
  | 6 => some .jump
  | 7 => some .loopSet
  | 8 => some .loop
  | 9 => some .mark
  | 10 => some .endShow
  | 11 => some .resume
  | _ => none

/-- The condition of a step; none for a malformed one (R3, R178). -/
def stepCondition (raw : RawStep) : Option Condition :=
  let code := stepByte raw 1
  if code = 0 then some .always
  else if 16 ≤ code ∧ code < 24 then some (.holds (Fin.ofNat 8 (code - 16)))
  else if 32 ≤ code ∧ code < 40 then some (.fails (Fin.ofNat 8 (code - 32)))
  else none

/-- The delay of a step, in show ticks (R3, R178). -/
def stepDelay (raw : RawStep) : Nat := stepWord raw 2

/-- The jet set of a JET, BURST or CUT step (R178). -/
def stepJets (raw : RawStep) : JetSet := raw.extractLsb' 32 48

/-- The demand of a JET or BURST step (R178). -/
def stepDemand (raw : RawStep) : Nat := stepWord raw 10

/-- The length of a BURST step (R178). -/
def stepLength (raw : RawStep) : Nat := stepWord raw 12

/-- The pump set of a PUMP step (R178). -/
def stepPumps (raw : RawStep) : PumpSet := raw.extractLsb' 32 16

/-- The action of a PUMP step; none when the byte names none (R178). -/
def stepAction (raw : RawStep) : Option PumpAction :=
  match stepByte raw 6 with
  | 0 => some .start
  | 1 => some .stop
  | 2 => some .follow
  | 3 => some .explicit
  | _ => none

/-- The luminaire set of a LIGHT step (R178). -/
def stepLums (raw : RawStep) : LumSet := raw.extractLsb' 32 32

/-- The channel mask of a LIGHT step: the upper half of byte 0 (R178). -/
def stepMask (raw : RawStep) : ChannelMask := raw.extractLsb' 4 4

/-- The level of a LIGHT step for one channel: twelve bits of the 48-bit field at bytes 8 to 13, R uppermost (R178). -/
def stepLevel (raw : RawStep) (k : ColourId) : Nat :=
  let field := stepWord raw 8 * 4294967296 + stepWord raw 10 * 65536 + stepWord raw 12
  field / 2 ^ (36 - 12 * k.val) % 4096

/-- The fade of a LIGHT step (R178). -/
def stepFade (raw : RawStep) : Nat := stepWord raw 14

/-- The scene of a JUMP step (R178). -/
def stepJumpScene (raw : RawStep) : Nat := stepByte raw 4

/-- The counter of a LOOP_SET or LOOP step (R178). -/
def stepCounter (raw : RawStep) : Nat := stepByte raw 4

/-- The value of a LOOP_SET step (R178). -/
def stepLoopValue (raw : RawStep) : Nat := stepWord raw 5

/-- The scene of a LOOP step (R178). -/
def stepLoopScene (raw : RawStep) : Nat := stepByte raw 5

/-- The mark number of a MARK step (R178). -/
def stepMark (raw : RawStep) : Nat := stepWord raw 4

/-- The lamp fade of an END step (R178). -/
def stepEndFade (raw : RawStep) : Nat := stepWord raw 4

/-! ## Limit table sections (R175, R179) -/

/-- `n` items of `size` bytes each, or none if the bytes are not exactly those or an item is out of range. -/
def itemsOfBytes {α : Type} (n size : Nat) (item : List Byte → Option α) (bytes : List Byte) : Option (Vector α n) :=
  let items := (List.range n).filterMap fun k => item ((bytes.drop (size * k)).take size)
  if h : bytes.length = size * n ∧ items.length = n then some ⟨items.toArray, by simpa using h.2⟩ else none

/-- One item of the jet section, in range (R175, R179). -/
def jetItem (b : List Byte) : Option JetLimit :=
  let height := beAt b 0 2
  let pump := beAt b 2 1
  let zone := beAt b 3 1
  let wind := beAt b 4 1
  if h : height ≤ 1000 ∧ pump < 12 ∧ zone < 8 ∧ wind < 4 then
    some ⟨height, ⟨pump, h.2.1⟩, ⟨zone, h.2.2.1⟩, ⟨wind, h.2.2.2⟩⟩
  else none

/-- One item of the pump section, in range (R175, R179). -/
def pumpItem (b : List Byte) : Option PumpLimit :=
  let service := beAt b 0 1
  let p : PumpLimit :=
    ⟨service == 1, beAt b 1 2, beAt b 3 2, beAt b 5 2, beAt b 7 2, beAt b 9 2, beAt b 11 2, beAt b 13 2, beAt b 15 2,
      beAt b 17 1, beAt b 18 1⟩
  if service ≤ 1 ∧ p.sMin ≤ 1000 ∧ p.sMin ≤ p.sMax ∧ p.sMax ≤ 1000 ∧
      500 ≤ p.primeMin ∧ p.primeMin ≤ 30000 ∧ p.primeMin ≤ p.primeMax ∧ p.primeMax ≤ 60000 ∧
      1 ≤ p.runMin ∧ p.runMin ≤ 600 ∧ 1 ≤ p.rest ∧ p.rest ≤ 600 ∧ 1 ≤ p.cycle ∧ p.cycle ≤ 1800 ∧
      p.idle ≤ 600 ∧ 1 ≤ p.rUp ∧ p.rUp ≤ 100 ∧ 1 ≤ p.rDown ∧ p.rDown ≤ 100 then some p
  else none

/-- The site section, in range (R175, R179). -/
def siteItem (b : List Byte) : Option SiteLimit :=
  let s : SiteLimit :=
    ⟨beAt b 0 1, beAt b 1 2, beAt b 3 2, beAt b 5 1, beAt b 6 1, beAt b 7 2, beAt b 9 1, beAt b 10 2, beAt b 12 2,
      beAt b 14 2, beAt b 16 2, beAt b 18 4⟩
  if 1 ≤ s.windowGrants ∧ s.windowGrants ≤ 8 ∧ 10 ≤ s.window ∧ s.window ≤ 600 ∧ s.space ≤ 30000 ∧
      (s.settle = 2 ∨ s.settle = 4 ∨ s.settle = 8 ∨ s.settle = 16) ∧ s.dormancy ≤ 240 ∧ s.levelFactor ≤ 1000 ∧
      1 ≤ s.windScale ∧ s.windScale ≤ 255 ∧ 1 ≤ s.gust ∧ s.gust ≤ 999 ∧ 60 ≤ s.period ∧ s.period ≤ 3600 ∧
      1 ≤ s.flushHeight ∧ s.flushHeight ≤ 1000 ∧ 5 ≤ s.flushDuration ∧ s.flushDuration ≤ 600 ∧
      s.cap ≤ 524160 then some s
  else none

/-- One item of the wind class section, in range (R175, R179). -/
def windItem (b : List Byte) : Option WindLimit :=
  let w : WindLimit := ⟨beAt b 0 2, beAt b 2 2, beAt b 4 2⟩
  if w.calm ≤ 999 ∧ w.gale ≤ 999 ∧ 100 ≤ w.wMin ∧ w.wMin ≤ 1000 then some w else none

/-- One item of the luminaire section, in range (R175, R179). -/
def lumItem (b : List Byte) : Option LumLimit :=
  let jet := beAt b 0 1
  let coupling := beAt b 1 1
  if coupling ≤ 1 then
    let k : Coupling := if coupling = 1 then .gate else .none
    if h : jet < 48 then some ⟨some ⟨jet, h⟩, k⟩ else if jet = 255 then some ⟨none, k⟩ else none
  else none

/-- The section that LIMIT_WRITE carries: none where the number names no section, the bytes are not exactly the
section's, or an entry is out of range (R177 tests 3 and 4). -/
def sectionOfBytes (sect : Nat) (bytes : List Byte) : Option LimitSection :=
  match sect with
  | 0 => (itemsOfBytes 48 5 jetItem bytes).map .jets
  | 1 => (itemsOfBytes 12 19 pumpItem bytes).map .pumps
  | 2 => if bytes.length = 22 then (siteItem bytes).map .site else none
  | 3 => (itemsOfBytes 4 6 windItem bytes).map .wind
  | 4 => (itemsOfBytes 32 2 lumItem bytes).map .lums
  | _ => none

/-- A section of the limit table as it stands (R174). -/
def Limits.sectionAt (l : Limits) (sect : Nat) : Option LimitSection :=
  match sect with
  | 0 => some (.jets l.jets)
  | 1 => some (.pumps l.pumps)
  | 2 => some (.site l.site)
  | 3 => some (.wind l.wind)
  | 4 => some (.lums l.lums)
  | _ => none

/-! ## Reply codes (R179) -/

/-- The byte value of a reply code, in the order of section 11.3 (R179). -/
def ReplyCode.value : ReplyCode → Nat
  | .ok => 0
  | .trimmed => 1
  | .gapFilled => 2
  | .late => 3
  | .ahead => 4
  | .full => 5
  | .busy => 6
  | .badFrame => 7
  | .unknown => 8
  | .role => 9
  | .badArg => 10
  | .state => 11
  | .locked => 12
  | .notOwner => 13
  | .codeMismatch => 14
  | .notPrimed => 15
  | .badScene => 16

/-- A success code: the request was taken (R172, section 11.3). -/
def ReplyCode.taken : ReplyCode → Bool
  | .ok | .trimmed | .gapFilled => true
  | .late | .ahead | .full | .busy | .badFrame | .unknown | .role | .badArg | .state | .locked | .notOwner | .codeMismatch
  | .notPrimed | .badScene => false

end Sys2Proof.Machine
end

