-- ==== Sys2Proof/Machine/Flags.lean ====
section
/-! DEFINITION. The flags and lines of the part that its records decide: the notice sets and ATTN (R173), the trip cause
set (R166), the role of each request (R172), and the field lines PWR_EN, RUN, setpoint and valve (R81, R110, R156).
PWR_EN, RUN, the valves, ATTN and the audio line are forced off while RESET_N is held (R169, R170). -/

namespace Sys2Proof.Machine

/-- A notice joins a notice set; one already present stays present once (R173). -/
def withNotice (n : Notice) (set : List Notice) : List Notice := if n ∈ set then set else set ++ [n]

/-- A cause joins the trip cause set, which holds each at most once (R167). -/
def withCause (t : TripCause) (set : List TripCause) : List TripCause := if t ∈ set then set else set ++ [t]

/-- The link ATTN output (R170, R173). -/
def Chip.attn (c : Chip) (l : LinkId) : Bool := !c.resetHeld && !(c.links[l]).notices.isEmpty

/-- The supply contactor output PWR_EN (R156, R169). -/
def Chip.pwrEn (c : Chip) : Bool := !c.resetHeld && decide (c.mode.power ≠ .off)

/-- A pump is up while it is PRIMING or RUNNING. -/
def PumpState.up (s : PumpState) : Bool := decide (s = .priming) || decide (s = .running)

/-- The RUN line of a pump (R81, R169). -/
def Chip.runLine (c : Chip) (p : PumpId) : Bool := !c.resetHeld && (c.pumps[p]).state.up

/-- The speed setpoint line of a pump, which carries a_p at all times (R81, R101). -/
def Chip.setpointLine (c : Chip) (p : PumpId) : Nat := (c.pumps[p]).setpoint

/-- The valve output of a jet, open while the jet is OPEN (R110, R169). -/
def Chip.valve (c : Chip) (j : JetId) : Bool := !c.resetHeld && decide ((c.jets[j]).state = .opened)

/-- The frame on the DAC line, silent while RESET_N is held (R73, R169). -/
def Chip.audioLine (c : Chip) : AudioFrame := if c.resetHeld then AudioFrame.silence else c.dac

/-- The pumps that are FAULTED, as STATUS reports them (R79, R173). -/
def Chip.faultedPumps (c : Chip) : List PumpId :=
  (List.finRange 12).filter fun p => decide ((c.pumps[p]).state = .faulted)

/-- No pump is PRIMING or RUNNING (R45, R156). -/
def Chip.pumpsDown (c : Chip) : Bool := (List.finRange 12).all fun p => !(c.pumps[p]).state.up

/-- All 128 lamp outputs are 0 (R45). -/
def Chip.lampsDark (c : Chip) : Bool := c.outputs.toList.all fun x => decide (x = 0)

/-- A kind byte names a request of the 4120 (R172, R179). -/
def kindKnown (kind : Nat) : Bool := decide (1 ≤ kind) && decide (kind ≤ 44)

/-- The table of R172: whether a role may make the request of a kind byte. -/
def permits (role : Role) (kind : Nat) : Bool :=
  match role with
  | .program => decide (kind ≤ 16) || decide (36 ≤ kind)
  | .panel => decide (16 ≤ kind)
  | .observer => decide (34 ≤ kind)

end Sys2Proof.Machine
end

