-- ==== Sys2Proof/Machine/Ops.lean ====
section
/-! DEFINITION. The operations every block shares: writing one record of a table, raising a notice (R173), producing a
reply and admitting a request (R172), and the passing of real time (scope section 5.2, log entry 2). -/

namespace Sys2Proof.Machine

/-! ## Tables -/

/-- Applies `f` to every member of `ids` in turn, in that order. -/
def Chip.forEach {α : Type} (ids : List α) (f : α → Chip → Chip) (c : Chip) : Chip := ids.foldl (fun c a => f a c) c

/-- Rewrites one pump record. -/
def Chip.updPump (c : Chip) (p : PumpId) (f : Pump → Pump) : Chip := { c with pumps := c.pumps.set p (f c.pumps[p]) }

/-- Rewrites one link record. -/
def Chip.updLink (c : Chip) (l : LinkId) (f : Link → Link) : Chip := { c with links := c.links.set l (f c.links[l]) }

/-- Rewrites every link record. -/
def Chip.updLinks (c : Chip) (f : Link → Link) : Chip := { c with links := Vector.ofFn fun l => f c.links[l] }

/-- Rewrites one page. -/
def Chip.updPage (c : Chip) (k : PageId) (f : Page → Page) : Chip := { c with pages := c.pages.set k (f c.pages[k]) }

/-! ## Notices (R173) -/

/-- Adds a notice kind to the notice set of every link (R173). -/
def Chip.notify (c : Chip) (n : Notice) : Chip := c.updLinks fun k => { k with notices := withNotice n k.notices }

/-! ## Replies and requests (R172) -/

/-- What a request's rule answers with. -/
inductive Reaction where
  /-- a reply, produced at once -/
  | answer (code : ReplyCode) (data : ReplyData)
  /-- a reply that the rule produces later: it becomes the link's owed reply -/
  | owe
  /-- a reply that the rule has produced itself -/
  | produced
deriving DecidableEq, Repr

/-- The reply OK without data. -/
def Reaction.ok : Reaction := .answer .ok .none

/-- A refusal without data. -/
def Reaction.refuse (code : ReplyCode) : Reaction := .answer code .none

/-- A rule: what a request does to the part, and its reaction. -/
abbrev Rule := Chip → Chip × Reaction

/-- A request that its rule refuses, with no effect on the part (scope section 5.5, R172). -/
def Chip.refuse (c : Chip) (code : ReplyCode) : Chip × Reaction := (c, .refuse code)

/-- A request that its rule takes. -/
def Chip.taken (c : Chip) : Chip × Reaction := (c, .ok)

/-- A reply joins the back of a link's reply queue (R172). -/
def Chip.reply (c : Chip) (l : LinkId) (kind : Nat) (code : ReplyCode) (data : ReplyData) : Chip :=
  c.updLink l fun k => { k with replies := k.replies ++ [⟨kind, code, data⟩] }

/-- Carries out a reaction on the link the request came from (R172). -/
def Chip.react (l : LinkId) (kind : Nat) (x : Chip × Reaction) : Chip :=
  match x.2 with
  | .answer code data => x.1.reply l kind code data
  | .owe => x.1.updLink l fun k => { k with owed := some kind }
  | .produced => x.1

/-- A complete request on a link, tested in the order of R172: discarded while four replies or more wait, then BUSY,
UNKNOWN, ROLE, then its rule. The links receive nothing while RESET_N is held (R170). -/
def Chip.request (l : LinkId) (kind : Nat) (rule : Rule) (c : Chip) : Chip :=
  if c.resetHeld then c
  else if 4 ≤ (c.links[l]).replies.length then c
  else if (c.links[l]).owed.isSome then c.reply l kind .busy .none
  else if !kindKnown kind then c.reply l kind .unknown .none
  else if !permits (c.links[l]).role kind then c.reply l kind .role .none
  else Chip.react l kind (rule c)

/-- A BAD_FRAME reply, not produced while four replies or more wait (R171, R172). -/
def Chip.badFrame (c : Chip) (l : LinkId) (kind : Nat) : Chip :=
  if 4 ≤ (c.links[l]).replies.length then c else c.reply l kind .badFrame .none

/-- A request whose rule has no test of its own for BAD_ARG, with a payload of the right length or not. Where both the
payload and the rule's own tests refuse it, the manual leaves open which code is given (log entry 6). -/
def withoutPayload (kind : Nat) (exact : Bool) (rule : Rule) (c : Chip) : Chip × Reaction :=
  if exact then rule c
  else if Config.lengthTestedFirst kind then c.refuse .badArg
  else match rule c with
    | (_, .answer code data) => if code.taken then c.refuse .badArg else (c, .answer code data)
    | _ => c.refuse .badArg

/-- An event of the part's own or of its field lines: nothing happens while RESET_N is held (R169). -/
def Chip.event (f : Chip → Chip) (c : Chip) : Chip := if c.resetHeld then c else f c

/-! ## Real time -/

/-- Some jet of the flush in progress is OPEN (R124): the jets of the flush are those with owner FLUSH. -/
def Chip.flushOpen (c : Chip) : Bool :=
  c.jets.toList.any fun j => decide (j.owner = .flush) && decide (j.state = .opened)

/-- The stall limit of a flush: 120 s, in milliseconds (R125). -/
def stallLimit : Nat := 120000

/-- The open time or the dry time of a flush grows by `k` milliseconds (R124). -/
def Flush.grow (f : Flush) (k : Nat) (isOpen : Bool) : Flush :=
  if isOpen then { f with openTime := min (f.duration * 1000) (f.openTime + k) }
  else { f with dryTime := min stallLimit (f.dryTime + k) }

/-- `k` milliseconds of real time pass: the local timebase, and every timer that the records hold as a count, move on. -/
def Chip.advance (c : Chip) (k : Nat) : Chip :=
  { c with
    now := c.now + k
    framesLeft := if k = 0 then c.framesLeft else 48
    hydTimer := min 20 (c.hydTimer + k)
    lampTimer := min 25 (c.lampTimer + k)
    sense := { c.sense with gateTimer := min 1000 (c.sense.gateTimer + k) }
    circ := { c.circ with
      periodTimer := min (c.circ.period * 1000) (c.circ.periodTimer + k)
      flush := c.circ.flush.map fun f => f.grow k c.flushOpen } }

/-- The local timebase reaches the moment `t`, if it has not passed it (log entry 2). -/
def Chip.reach (c : Chip) (t : Nat) : Chip := c.advance (t - c.now)

/-! ## The part's own description of the jets it feeds -/

/-- The pump that feeds a jet (R105). -/
def Chip.pumpOf (c : Chip) (j : JetId) : PumpId := (c.limits.jets[j]).pump

/-- The jets a pump feeds, J0 first (R82, R105). -/
def Chip.jetsOf (c : Chip) (p : PumpId) : List JetId := (List.finRange 48).filter fun j => decide (c.pumpOf j = p)

end Sys2Proof.Machine
end

