-- ==== Sys2Proof/Machine/Hydraulics.lean ====
section
/-! DEFINITION. HYD: run demand, start and stop requests, the start arbiter, the pump envelope, demand writes on the
jets, and the hydraulic update (chapters 5 and 6). -/

namespace Sys2Proof.Machine

/-! ## Run demand (R82) -/

/-- A jet wants water: its demand is above 0 and somebody owns it (R82). -/
def Jet.wants (j : Jet) : Bool := decide (0 < j.demand) && decide (j.owner ≠ .none)

/-- A jet wants water for a flush (R82). -/
def Jet.wantsFlush (j : Jet) : Bool := decide (0 < j.demand) && decide (j.owner = .flush)

/-- A circulation flush is using the pump (R82). -/
def Chip.flushUses (c : Chip) (p : PumpId) : Bool := (c.jetsOf p).any fun j => (c.jets[j]).wantsFlush

/-- The pump has run demand (R82). -/
def Chip.hasRunDemand (c : Chip) (p : PumpId) : Bool :=
  decide ((c.pumps[p]).intent = .run)
    || (decide ((c.pumps[p]).policy = .follow) && (c.jetsOf p).any fun j => (c.jets[j]).wants)
    || c.flushUses p

/-! ## The jets follow the pump (R108, R109) -/

/-- The wait cause of a WAITING jet on this pump: the first of R108 that applies. -/
def Chip.waitCauseOn (c : Chip) (p : PumpId) : WaitCause :=
  if (c.pumps[p]).state = .outOfService then .pumpOut
  else if (c.pumps[p]).state = .faulted then .pumpFault
  else if c.mode.power ≠ .on then .noPower
  else .pumpStarting

/-- A jet that is not CLOSED settled against its pump's state: OPEN on a RUNNING pump, WAITING on any other (R107, R109). -/
def Chip.settleJet (c : Chip) (p : PumpId) (j : Jet) : Jet :=
  if j.state = .closed then j
  else if (c.pumps[p]).state = .running then { j with state := .opened, waitCause := none }
  else { j with state := .waiting, waitCause := some (c.waitCauseOn p), height := 0 }

/-- The dry time returns to 0 while a jet of the flush is OPEN (R124). -/
def Chip.wetFlush (c : Chip) : Chip :=
  if c.flushOpen then
    { c with circ := { c.circ with flush := c.circ.flush.map fun f => { f with dryTime := 0 } } }
  else c

/-- The jets of one pump are settled against its new state (R109). -/
def Chip.followPump (c : Chip) (p : PumpId) : Chip :=
  Chip.wetFlush
    { c with jets := Vector.ofFn fun j => if c.pumpOf j = p then c.settleJet p c.jets[j] else c.jets[j] }

/-- Every WAITING jet takes the wait cause that now holds (R108), as at a change of the power state. -/
def Chip.recauseJets (c : Chip) : Chip :=
  { c with jets := Vector.ofFn fun j =>
      if (c.jets[j]).state = .waiting then { c.jets[j] with waitCause := some (c.waitCauseOn (c.pumpOf j)) } else c.jets[j] }

/-! ## The start queue (R83, R84) -/

/-- The pump has an entry in the start queue, or one that joins it at the end of the event in progress. -/
def Chip.queued (c : Chip) (p : PumpId) : Bool :=
  (c.queue ++ c.joining).any fun e => decide (e.pump = p)

/-- The pump's entry, if any, leaves the queue (R84). -/
def Chip.dequeue (c : Chip) (p : PumpId) : Chip :=
  { c with
    queue := c.queue.filter fun e => decide (e.pump ≠ p)
    joining := c.joining.filter fun e => decide (e.pump ≠ p) }

/-- An entry takes its place in ascending pump order among the requests of one event (R83). -/
def insertEntry (e : StartEntry) : List StartEntry → List StartEntry
  | [] => [e]
  | x :: xs => if e.pump < x.pump then e :: x :: xs else x :: insertEntry e xs

/-- A start request, taken by the pump's state (R83). -/
def Chip.startRequest (c : Chip) (p : PumpId) (r : Requester) : Chip :=
  if c.mode.mode = .tripped then c
  else match (c.pumps[p]).state with
    | .stopped | .resting =>
      if c.queued p then c else { c with joining := insertEntry ⟨p, r, c.now⟩ c.joining }
    | .outOfService | .priming | .running | .faulted => c

/-- The requester of a pump that re-enters the queue of its own accord (R83). -/
def Chip.ownRequester (c : Chip) (p : PumpId) : Requester :=
  if c.flushUses p then .flush
  else if (c.pumps[p]).intent = .run then (if c.mode.mode = .showMode then .showRun else .panel)
  else .follow

/-! ## Changes of a pump's state -/

/-- The pump enters a state, with what R101, R95, R93 and R109 attach to that: the setpoint by its state, no idle expiry
and no pending stop outside PRIMING and RUNNING, and its jets settled. -/
def Chip.enterState (c : Chip) (p : PumpId) (st : PumpState) (fault : Option PumpFault) : Chip :=
  Chip.followPump
    (c.updPump p fun r => { r with
      state := st
      stateEntry := c.now
      faultCause := fault
      setpoint := if st = .priming then c.sMinInForce[p] else if st = .running then r.setpoint else 0
      idleExpiry := if st.up then r.idleExpiry else none
      stopPending := if st = .running then r.stopPending else false }) p

/-- The pump enters FAULTED, its queue entry leaves, and PUMP_FAULT is noticed (R90, R97). -/
def Chip.enterFaulted (c : Chip) (p : PumpId) (cause : PumpFault) : Chip :=
  ((c.dequeue p).enterState p .faulted (some cause)).notify .pumpFault

/-- A pump that stands in a watched state with DRV_OK low enters FAULTED at once (R97). -/
def Chip.watchDrive (c : Chip) (p : PumpId) : Chip :=
  match (c.pumps[p]).state with
  | .priming | .running | .resting | .stopped => if c.lines.drvOk[p] then c else c.enterFaulted p .drive
  | .outOfService | .faulted => c

/-- The pump enters RESTING with a full t_rest (R96, R98, R102). -/
def Chip.enterResting (c : Chip) (p : PumpId) : Chip :=
  Chip.watchDrive
    ((c.enterState p .resting none).updPump p fun r =>
      { r with restEnd := c.now + (c.limits.pumps[p]).rest * 1000 }) p

/-- The pump enters STOPPED; with run demand standing and no entry it joins the queue (R96, R99). -/
def Chip.enterStopped (c : Chip) (p : PumpId) : Chip :=
  let d := (c.enterState p .stopped none).watchDrive p
  if (d.pumps[p]).state = .stopped ∧ d.hasRunDemand p then d.startRequest p (d.ownRequester p) else d

/-- A stop request, taken by the pump's state (R92). -/
def Chip.stopRequest (c : Chip) (p : PumpId) : Chip :=
  let d := c.updPump p fun r => { r with idleExpiry := none }
  match (c.pumps[p]).state with
  | .stopped | .resting => d.dequeue p
  | .priming => d.updPump p fun r => { r with stopPending := true }
  | .running =>
    if (c.pumps[p]).runMinEnd ≤ c.now then d.enterResting p else d.updPump p fun r => { r with stopPending := true }
  | .outOfService | .faulted => d

/-- The pump enters RUNNING: its jets open, and a pending stop whose minimum run time has passed is taken (R89, R93), before MOD
tests the restore pass (log entry 34). -/
def Chip.enterRunning (c : Chip) (p : PumpId) : Chip :=
  let d := c.enterState p .running none
  if (d.pumps[p]).stopPending ∧ (d.pumps[p]).runMinEnd ≤ d.now then d.enterResting p else d

/-! ## Run demand appears and disappears (R82, R94, R95) -/

/-- Run demand appears on a pump (R82). -/
def Chip.demandAppears (c : Chip) (p : PumpId) (r : Requester) : Chip :=
  match (c.pumps[p]).state with
  | .stopped | .resting => c.startRequest p r
  | .priming | .running => c.updPump p fun q => { q with stopPending := false, idleExpiry := none }
  | .outOfService | .faulted => c

/-- A FOLLOW pump has lost the last jet that wanted water: out of PRIMING and RUNNING a stop request, in them an idle
expiry, left as it stands if one is set; with t_idle 0 the stop request follows at once (R94, R95). -/
def Chip.idleOut (c : Chip) (p : PumpId) : Chip :=
  if (c.pumps[p]).state.up then
    if (c.pumps[p]).idleExpiry.isSome then c
    else if (c.limits.pumps[p]).idle = 0 then c.stopRequest p
    else c.updPump p fun r => { r with idleExpiry := some (c.now + (c.limits.pumps[p]).idle * 1000) }
  else c.stopRequest p

/-- The flush in progress started the pump (R88, R120). -/
def Chip.flushStarted (c : Chip) (p : PumpId) : Bool :=
  match c.circ.flush with
  | some f => f.started[p]
  | none => false

/-- Run demand disappears because a jet that had owner `was` lost its demand or its owner (R94). A pump that a flush
started is left to the hand-over of the started pumps (R124, R126, R128). -/
def Chip.demandLost (c : Chip) (p : PumpId) (was : Owner) : Chip :=
  if was = .flush then
    if c.flushStarted p then c
    else if (c.pumps[p]).policy = .follow then c.idleOut p
    else c.stopRequest p
  else c.idleOut p

/-- A stop request for a pump left without run demand (R91). -/
def Chip.stopUnlessDemanded (c : Chip) (p : PumpId) : Chip := if c.hasRunDemand p then c else c.stopRequest p

/-- Intent RUN, with the start request that lies behind it (R32, R82, R100). -/
def Chip.intentRun (c : Chip) (p : PumpId) (r : Requester) : Chip :=
  let d := c.updPump p fun q => { q with intent := .run }
  (if c.hasRunDemand p then d else d.demandAppears p r).startRequest p r

/-- Intent STOP, with a stop request if no run demand remains (R94, R100, R160). -/
def Chip.intentStop (c : Chip) (p : PumpId) : Chip :=
  (c.updPump p fun q => { q with intent := .stop }).stopUnlessDemanded p

/-- A policy, with run demand evaluated again (R82, R91, R94, R100). -/
def Chip.setPolicy (c : Chip) (p : PumpId) (policy : Policy) : Chip :=
  let d := c.updPump p fun q => { q with policy := policy }
  if d.hasRunDemand p then (if c.hasRunDemand p then d else d.demandAppears p .follow)
  else if (c.pumps[p]).policy = .follow ∧ policy = .explicit then d.stopRequest p
  else d

/-- Intent and policy handed over together: at START, at the end of a catch-up, and (with `atOnce` false) in the restore
pass, where a pump left without run demand gets its stop request only if its intent became STOP or its policy became
EXPLICIT, and keeps the idle expiry its jets set otherwise (R40, R56, R94, R163). -/
def Chip.handDrive (c : Chip) (p : PumpId) (intent : Intent) (policy : Policy) (atOnce : Bool) : Chip :=
  let d := c.updPump p fun q => { q with intent := intent, policy := policy }
  let r : Requester := if intent = .run then .showRun else .follow
  if d.hasRunDemand p then (if c.hasRunDemand p then d else d.demandAppears p r).startRequest p r
  else if atOnce ∨ ((c.pumps[p]).intent = .run ∧ intent = .stop) ∨ ((c.pumps[p]).policy = .follow ∧ policy = .explicit) then
    d.stopRequest p
  else d

/-! ## Demand writes (R106, R107) -/

/-- A demand write on one jet: owner, demand and burst end, the state settled against the pump, and the pump's run demand
evaluated again (R82, R106, R107). -/
def Chip.demandWrite (c : Chip) (owner : Owner) (demand : Nat) (burstEnd : Option Nat) (j : JetId) : Chip :=
  let p := c.pumpOf j
  let was := c.jets[j]
  let now : Jet :=
    if demand = 0 then ⟨.closed, owner, 0, burstEnd, none, 0⟩
    else c.settleJet p
      ⟨if was.state = .opened then .opened else .waiting, owner, demand, burstEnd, none,
        if was.state = .opened then was.height else 0⟩
  let d := Chip.wetFlush { c with jets := c.jets.set j now }
  if d.hasRunDemand p then
    if c.hasRunDemand p then d else d.demandAppears p (if owner = .flush then .flush else .follow)
  else if c.hasRunDemand p then d.demandLost p was.owner
  else d

/-- Demand writes on the jets of a list, in its order: J0 first where the manual leaves the order open (log entry 32). -/
def Chip.demandWrites (c : Chip) (js : List JetId) (owner : Owner) (demand : Nat) : Chip :=
  c.forEach js fun j c => c.demandWrite owner demand none j

/-- The members of a jet set, J0 first. -/
def jetsIn (set : JetSet) : List JetId := (List.finRange 48).filter fun j => set.getLsbD j.val

/-- The pumps that a pump set names, P0 first. -/
def pumpsIn (set : PumpSet) : List PumpId := (List.finRange 12).filter fun p => set.getLsbD p.val

/-- The jets with owner FLUSH, J0 first: the jets of the flush in progress (R120). -/
def Chip.flushJets (c : Chip) : List JetId := (List.finRange 48).filter fun j => decide ((c.jets[j]).owner = .flush)

/-! ## The arbiter (R85 to R88) -/

/-- A queued entry is eligible (R86). -/
def Chip.eligible (c : Chip) (e : StartEntry) : Bool :=
  decide ((c.pumps[e.pump]).state = .stopped) &&
    (match (c.pumps[e.pump]).lastGrant with
      | none => true
      | some g => decide ((c.limits.pumps[e.pump]).cycle * 1000 ≤ c.now - g))

/-- The number of grants in the window that ends now, its earlier end exclusive (R86). -/
def Chip.windowCount (c : Chip) : Nat :=
  (c.history.filter fun g => decide (c.now < g + c.limits.site.window * 1000)).length

/-- The shared conditions of a grant (R86). -/
def Chip.slotFree (c : Chip) : Bool :=
  decide (c.mode.power = .on) &&
    (match c.history.getLast? with
      | none => true
      | some g => decide (c.limits.site.space ≤ c.now - g)) &&
    decide (c.windowCount < c.limits.site.windowGrants)

/-- The entry a test of the queue would grant: the oldest eligible one, while the shared conditions hold (R87). -/
def Chip.grantable (c : Chip) : Option StartEntry := if c.slotFree then c.queue.find? c.eligible else none

/-- The grant history keeps the last eight grants (R85). -/
def lastEight (history : List Nat) : List Nat := history.drop (history.length - 8)

/-- CIR counts a pump among those its flush started (R88). -/
def Chip.countStarted (c : Chip) (e : StartEntry) : Chip :=
  if e.requester = .flush ∧ c.flushJets.any (fun j => decide (c.pumpOf j = e.pump)) then
    { c with circ := { c.circ with flush := c.circ.flush.map fun f => { f with started := f.started.set e.pump true } } }
  else c

/-- A grant (R88). -/
def Chip.grant (c : Chip) (e : StartEntry) : Chip :=
  let k := c.limits.pumps[e.pump]
  let d := { c.dequeue e.pump with history := lastEight (c.history ++ [c.now]) }
  let d := (d.enterState e.pump .priming none).updPump e.pump fun r => { r with
    lastGrant := some c.now
    primeMinEnd := c.now + k.primeMin
    primeMaxEnd := c.now + k.primeMax
    runMinEnd := c.now + k.runMin * 1000 }
  (d.countStarted e).watchDrive e.pump

/-- Grants while a grant may be made, at most `fuel` of them. -/
def Chip.grants : Nat → Chip → Chip
  | 0, c => c
  | fuel + 1, c =>
    match c.grantable with
    | some e => Chip.grants fuel (c.grant e)
    | none => c

/-- A test of the start queue (R87). Each grant takes an entry out of the queue, so its length bounds the grants. -/
def Chip.testQueue (c : Chip) : Chip := Chip.grants c.queue.length c

/-- The end of an event that may have made start requests: they join the back of the queue in ascending pump order, and
the queue is tested (R83, R87). -/
def Chip.endEvent (c : Chip) : Chip := Chip.testQueue { c with queue := c.queue ++ c.joining, joining := [] }

/-! ## Bursts (R111, R112) -/

/-- The bursts that the show clock has reached end on the jets (R111). -/
def Chip.expireJetBursts (c : Chip) : Chip :=
  c.forEach (List.finRange 48) fun j c =>
    match (c.jets[j]).burstEnd with
    | some b => if b ≤ c.clock.value then c.demandWrite (c.jets[j]).owner 0 none j else c
    | none => c

/-- The cut of a jet set (R112). -/
def Chip.cutJets (c : Chip) (set : JetSet) : Chip :=
  c.forEach (jetsIn set) fun j c =>
    if (c.jets[j]).burstEnd.isSome then c.demandWrite (c.jets[j]).owner 0 none j else c

/-! ## The hydraulic update (R101, R114 to R117) -/

/-- The bits of `csqrt`, from the highest: the largest sum of them whose square lies below `x`. -/
def rootBelow (x : Nat) : List Nat → Nat → Nat
  | [], r => r
  | b :: bs, r => rootBelow x bs (if (r + b) * (r + b) < x then r + b else r)

/-- The least whole number whose square is at least `x`, for `x` in 0..1,000,000 (R116). -/
def csqrt (x : Nat) : Nat :=
  if x = 0 then 0 else rootBelow x [512, 256, 128, 64, 32, 16, 8, 4, 2, 1] 0 + 1

/-- The level factor in force (R114). -/
def Chip.levelFactor (c : Chip) : Nat := if c.sense.level = 1 then c.limits.site.levelFactor else 1000

/-- The height a jet has if OPEN: the smaller of L_j and the product of demand, wind factor and level factor (R114). -/
def Chip.heightIfOpen (c : Chip) (j : JetId) : Nat :=
  let k := c.limits.jets[j]
  min k.height ((c.jets[j]).demand * c.sense.factors[k.wind] * c.levelFactor / 1000000)

/-- The effective height of a jet (R114). -/
def Chip.effectiveHeight (c : Chip) (j : JetId) : Nat :=
  if (c.jets[j]).state = .opened then c.heightIfOpen j else 0

/-- The wanting jets of a pump (R117). -/
def Chip.wantingJets (c : Chip) (p : PumpId) : List JetId :=
  (c.jetsOf p).filter fun j => decide ((c.jets[j]).state ≠ .closed) && decide (0 < (c.jets[j]).demand)

/-- A value raised to `lo` if below it, then lowered to `hi` if above it (R101, R117). -/
def clampTo (lo hi x : Nat) : Nat := min hi (max lo x)

/-- The target t_p of a pump (R117). The height an OPEN jet gives, as just computed, is that it has if OPEN. -/
def Chip.targetOf (c : Chip) (p : PumpId) : Nat :=
  let k := c.limits.pumps[p]
  match c.wantingJets p with
  | [] => if (c.pumps[p]).state.up then k.sMin else 0
  | js => clampTo k.sMin k.sMax ((js.map fun j => csqrt (c.heightIfOpen j * 1000)).foldl max 0)

/-- One slew of a setpoint toward its target (R101). -/
def slew (rUp rDown target a : Nat) : Nat :=
  if a < target then min target (a + rUp) else if target < a then max target (a - rDown) else a

/-- The setpoint of a pump at a hydraulic update (R101). -/
def Chip.setpointOf (c : Chip) (p : PumpId) (target : Nat) : Nat :=
  let k := c.limits.pumps[p]
  match (c.pumps[p]).state with
  | .running => slew k.rUp k.rDown target (clampTo k.sMin k.sMax (c.pumps[p]).setpoint)
  | .priming => k.sMin
  | .outOfService | .stopped | .resting | .faulted => 0

/-- The S_min of each pump in the limit table. -/
def Limits.sMins (k : Limits) : Vector Nat 12 := Vector.ofFn fun p => (k.pumps[p]).sMin

/-- The hydraulic update: heights, then targets, then setpoints; the S_min of the limit table is then in force (R114, R117,
R101, R80). -/
def Chip.hydraulics (c : Chip) : Chip :=
  { c with
    jets := Vector.ofFn fun j => { c.jets[j] with height := c.effectiveHeight j }
    pumps := Vector.ofFn fun p =>
      { c.pumps[p] with target := c.targetOf p, setpoint := c.setpointOf p (c.targetOf p) }
    sMinInForce := c.limits.sMins }

end Sys2Proof.Machine
end

