-- ==== Sys2Proof/Machine/Circulation.lean ====
section
/-! DEFINITION. MOD's power state (R156) and CIR: zones, debt, flushes (chapter 7). -/

namespace Sys2Proof.Machine

/-! ## Power (R156) -/

/-- MOD raises the power; while it is SETTLING or ON nothing changes (R156). -/
def Chip.raisePower (c : Chip) : Chip :=
  if c.mode.power = .off then
    Chip.recauseJets
      { c with mode := { c.mode with power := .settling, settle := some ⟨c.now, c.limits.site.settle⟩ } }
  else c

/-- The power state becomes OFF, and the jets wait with NO_POWER (R156). -/
def Chip.dropPower (c : Chip) : Chip :=
  Chip.recauseJets { c with mode := { c.mode with power := .off, settle := none } }

/-- The settle time has passed: the power state becomes ON (R156). -/
def Chip.powerOn (c : Chip) : Chip :=
  Chip.recauseJets { c with mode := { c.mode with power := .on, settle := none } }

/-- In DORMANT the power is dropped while no flush runs and no pump is up (R156). -/
def Chip.testPower (c : Chip) : Chip :=
  if c.mode.mode = .dormant ∧ c.mode.power ≠ .off ∧ c.mode.flushRunning = false ∧ c.pumpsDown then c.dropPower else c

/-! ## Zones (R122) -/

/-- A zone is masked (R122). -/
def Circulation.masked (r : Circulation) (z : ZoneId) : Bool := r.mask.getLsbD z.val

/-- The jets of a zone, J0 first (R120). -/
def Chip.zoneJets (c : Chip) (z : ZoneId) : List JetId :=
  (List.finRange 48).filter fun j => decide ((c.limits.jets[j]).zone = z)

/-- A zone is flushable: unmasked, and at least one jet's zone entry names it (R122). -/
def Chip.flushable (c : Chip) (z : ZoneId) : Bool := !c.circ.masked z && !(c.zoneJets z).isEmpty

/-- The zones in cyclic order from `z` itself. -/
def zonesFrom (z : ZoneId) : List ZoneId := (List.finRange 8).map fun k => z + k

/-- The zone the pointer advances to from `z`: the first flushable zone after it, `z` itself last, and `z + 1` when none
is flushable (R122). -/
def Chip.zoneAfter (c : Chip) (z : ZoneId) : ZoneId := ((zonesFrom (z + 1)).find? c.flushable).getD (z + 1)

/-- The pointer advances from a zone (R122). -/
def Chip.advancePointer (c : Chip) (z : ZoneId) : Chip := { c with circ := { c.circ with pointer := c.zoneAfter z } }

/-- The debt falls by one (R121). -/
def Chip.payDebt (c : Chip) : Chip := { c with circ := { c.circ with debt := c.circ.debt - 1 } }

/-! ## Flushes (R123 to R129) -/

/-- CIR takes a zone: a flush record, the demand writes of the zone's jets, and the report to MOD, which raises the power
in DORMANT (R123 step 2 onward, R127, R129). -/
def Chip.beginFlush (c : Chip) (mode : FlushMode) (z : ZoneId) : Chip :=
  let f : Flush := ⟨mode, z, c.now, c.limits.site.flushHeight, c.limits.site.flushDuration, 0, 0, Vector.replicate 12 false⟩
  let d := { c with circ := { c.circ with flush := some f } }
  let d := (d.demandWrites (c.zoneJets z) .flush f.height).endEvent
  let d := { d with mode := { d.mode with flushRunning := true } }
  if d.mode.mode = .dormant then d.raisePower else d

/-- The conditions of a single flush (R123). -/
def Chip.flushDue (c : Chip) : Bool :=
  decide (0 < c.circ.debt) && c.circ.flush.isNone &&
    (decide (c.mode.mode = .dormant) || decide (c.mode.mode = .standby)) &&
    (decide (c.run.cue = .idle) || decide (c.run.cue = .cued)) &&
    (List.finRange 8).any c.flushable

/-- CIR tests whether a single flush may begin: the flush takes the pointer's zone, moved on first to a flushable one (R123). -/
def Chip.testFlush (c : Chip) : Chip :=
  if c.flushDue then
    let z := ((zonesFrom c.circ.pointer).find? c.flushable).getD c.circ.pointer
    Chip.beginFlush { c with circ := { c.circ with pointer := z } } .single z
  else c

/-- The hand-over of the pumps a flush started: those left without run demand get stop requests (R124, R126, R128). -/
def Chip.releaseStarted (c : Chip) (started : Vector Bool 12) : Chip :=
  c.forEach ((List.finRange 12).filter fun p => started[p]) fun p c => c.stopUnlessDemanded p

/-- The jets of the flush are released: owner NONE, demand 0 (R124 step 1). -/
def Chip.releaseJets (c : Chip) : Chip := c.demandWrites c.flushJets .none 0

/-- The flush record becomes absent, and MOD is told that the flush has ended. -/
def Chip.dropFlush (c : Chip) : Chip :=
  { c with circ := { c.circ with flush := none }, mode := { c.mode with flushRunning := false } }

/-- Jets released, started pumps handed over, record dropped: the end of a flush run (R124, R125, R128). -/
def Chip.closeFlush (c : Chip) (f : Flush) : Chip := ((c.releaseJets.releaseStarted f.started).dropFlush).endEvent

/-- At a cut the zone counts as flushed when twice its open time is at least its duration (R126). -/
def Flush.counts (f : Flush) : Bool := decide (f.duration * 1000 ≤ 2 * f.openTime)

/-- A cut of the flush in progress, after the cutting event has written its jets: debt and pointer by whether the zone
counts as flushed, the started pumps handed over, the record dropped (R126, R128). -/
def Chip.cutFlush (c : Chip) : Chip :=
  match c.circ.flush with
  | none => c
  | some f =>
    let d := if f.counts then c.payDebt.advancePointer f.zone else c
    (d.releaseStarted f.started).dropFlush

/-- The next zone of a FLUSH_ALL run: the lowest flushable zone above the finished one (R128). -/
def Chip.nextZone (c : Chip) (z : ZoneId) : Option ZoneId :=
  (List.finRange 8).find? fun k => decide (z < k) && c.flushable k

/-- A FLUSH_ALL zone is done: the run moves to the next flushable zone, or ends and clears the debt (R128). -/
def Chip.zoneDone (c : Chip) (f : Flush) : Chip :=
  match c.nextZone f.zone with
  | some z =>
    let g : Flush := { f with zone := z, start := c.now, openTime := 0, dryTime := 0 }
    let d := c.releaseJets
    let d := { d with circ := { d.circ with flush := some g } }
    ((d.demandWrites (c.zoneJets z) .flush f.height).releaseStarted f.started).endEvent
  | none =>
    let d := c.closeFlush f
    { d with circ := { d.circ with debt := 0, pointer := 0 } }

/-- The end of a single flush (R124). -/
def Chip.endFlush (c : Chip) (f : Flush) : Chip := ((c.closeFlush f).payDebt).advancePointer f.zone

/-- The stall of a flush (R125). -/
def Chip.stallFlush (c : Chip) (f : Flush) : Chip :=
  let d := c.closeFlush f
  (if f.mode = .single then d.advancePointer f.zone else d).notify .flushStalled

/-- A period expiry (R121). -/
def Chip.periodExpiry (c : Chip) : Chip :=
  let d := { c with circ := { c.circ with
    debt := min 8 (c.circ.debt + 1), periodTimer := 0, period := c.limits.site.period } }
  if 7 ≤ c.circ.debt then d.notify .flushOverdue else d

end Sys2Proof.Machine
end

