-- ==== Sys2Proof/Machine/Audio.lean ====
section
/-! DEFINITION. AUD: the audio buffer, playback, the ramps and the output arithmetic (chapter 4). The show clock's
advance is handed to CUE by the events that use these. -/

namespace Sys2Proof.Machine

/-- The fill of the buffer (R59). -/
def Playback.fill (a : Playback) : Nat := a.buffer.length

/-- The tail t, one past the last frame held (R59). -/
def Playback.tail (a : Playback) : Nat := a.p + a.fill

/-- The top of the stream positions (R60). -/
def lastPosition : Nat := 4294967295

/-- The stream end E (R60). -/
def Playback.streamEnd (a : Playback) : Nat := a.endAt.getD lastPosition

/-- The most frames the buffer holds (R59). -/
def bufferSize : Nat := 32768

/-- The prebuffer that START needs (R40). -/
def prebuffer : Nat := 9600

/-- The low mark of AUDIO_LOW (R72). -/
def lowMark : Nat := 4800

/-- The largest gap filled with silence (R64). -/
def largestGap : Nat := 4800

/-- The value at which the show clock saturates (R76). -/
def clockTop : Nat := 2147483647

/-! ## The end of the music, hold and resume (R69, R70) -/

/-- The end of the music is reached: FINISHED, the buffer empty, and the clock LOCAL from its present value (R69, R77). -/
def Chip.endOfMusic (c : Chip) : Chip :=
  { c with
    playback := { c.playback with state := .finished, buffer := [] }
    clock := if c.clock.source = .audio then { c.clock with source := .localTime, stamp := c.now } else c.clock }

/-- The audio state becomes STARVED (R68). -/
def Chip.starve (c : Chip) : Chip :=
  Chip.notify { c with playback := { c.playback with state := .starved } } .audioStarved

/-- PAUSE and TAKE hold the music in place (R70). -/
def Chip.holdAudio (c : Chip) : Chip :=
  match c.playback.state with
  | .playing | .starved => { c with playback := { c.playback with state := .held } }
  | .off | .filling | .held | .finished => c

/-- CONTINUE and the end of the restore pass resume the music (R70). -/
def Chip.resumeAudio (c : Chip) : Chip :=
  if c.playback.state ≠ .held then c
  else if c.playback.streamEnd ≤ c.playback.p then c.endOfMusic
  else if 0 < c.playback.fill then { c with playback := { c.playback with state := .playing } }
  else c.starve

/-- The show clock stops, keeping its value (R77). -/
def Chip.stopClock (c : Chip) : Chip := { c with clock := { c.clock with running := false } }

/-- The show clock starts from its present value (R77). -/
def Chip.startClock (c : Chip) : Chip := { c with clock := { c.clock with running := true, stamp := c.now } }

/-- The teardown at ENDING: the buffer discarded, OFF, and the clock on LOCAL from its present value, running (R44, R71, R77).
The mute ramp falls of its own accord. -/
def Chip.endAudio (c : Chip) : Chip :=
  { c with
    playback := if c.playback.state = .off then c.playback else { c.playback with state := .off, buffer := [], endAt := none }
    clock := { c.clock with
      source := .localTime
      running := true
      stamp := if c.clock.running ∧ c.clock.source = .localTime then c.clock.stamp else c.now } }

/-- The teardown at a trip: without a ramp, and the clock stopped (R71, R77). -/
def Chip.tripAudio (c : Chip) : Chip :=
  Chip.stopClock
    { c with playback := { c.playback with
        state := .off, buffer := [], endAt := none, r := 0, held := AudioFrame.silence } }

/-- Discards the buffer and enters OFF, as at UNCUE and at STOP of a show paused by the panel (R39, R43). -/
def Chip.audioOff (c : Chip) : Chip := { c with playback := { c.playback with state := .off, buffer := [] } }

/-- CUE sets up the audio and the show clock (R38, R61, R77). -/
def Chip.cueAudio (c : Chip) (music : Bool) (origin : Nat) : Chip :=
  { c with
    playback :=
      if music then { c.playback with
        state := .filling, music := true, p := origin, p0 := origin, endAt := none, r := 0, buffer := [] }
      else { c.playback with state := .off, music := false, endAt := none, r := 0, buffer := [] }
    clock := { c.clock with value := 0, source := if music then .audio else .localTime, running := false } }

/-- START starts playback and the show clock (R40, R61, R77). -/
def Chip.startAudio (c : Chip) : Chip :=
  Chip.startClock
    { c with
      playback := if c.playback.music then { c.playback with state := .playing, r := 64 } else c.playback
      clock := { c.clock with value := 0 } }

/-! ## Receiving the stream (R62 to R66) -/

/-- What becomes of a block of frames at position `q` (R63, R64): the code of its reply, and the frames appended. -/
def Playback.place (a : Playback) (q : Nat) (frames : List AudioFrame) : ReplyCode × List AudioFrame :=
  let n := frames.length
  let e := a.tail
  let u := min (q + n) a.streamEnd
  let appended := if e < u ∧ q < u then u - e else 0
  if 0 < appended ∧ bufferSize < a.fill + appended then (.full, [])
  else if u ≤ e ∨ u ≤ q then (.late, [])
  else if q < e then (.trimmed, (frames.drop (e - q)).take (u - e))
  else if q = e then (if u = q + n then .ok else .trimmed, frames.take (u - q))
  else if q ≤ e + largestGap then (.gapFilled, List.replicate (q - e) AudioFrame.silence ++ frames.take (u - q))
  else (.ahead, [])

/-- AUDIO: the tests of R62, the placing of R63 and R64, and the end of a starvation (R65). -/
def ruleAudio (position count : Nat) (frames : List AudioFrame) (exact : Bool) : Rule := fun c =>
  if c.playback.state = .off ∨ c.playback.state = .finished then c.refuse .state
  else if count = 0 ∨ 256 < count ∨ frames.length ≠ count ∨ !exact then c.refuse .badArg
  else
    let (code, appended) := c.playback.place position frames
    if code.taken then
      ({ c with playback := { c.playback with
          buffer := c.playback.buffer ++ appended
          state := if c.playback.state = .starved then .playing else c.playback.state } }, .answer code .none)
    else c.refuse code

/-- The fill passing from the low mark or above to below it in PLAYING raises AUDIO_LOW, unless the music to its end is
wholly buffered (R72). -/
def Chip.lowCrossing (c : Chip) (fillBefore : Nat) : Chip :=
  if c.playback.state = .playing ∧ lowMark ≤ fillBefore ∧ c.playback.fill < lowMark ∧
      c.playback.endAt ≠ some c.playback.tail then c.notify .audioLow
  else c

/-- AUDIO_END (R66). -/
def ruleAudioEnd (position : Nat) (exact : Bool) : Rule := fun c =>
  if c.playback.state = .off ∨ c.playback.state = .finished then c.refuse .state
  else if position < c.playback.p ∨ !exact then c.refuse .badArg
  else
    let fillBefore := c.playback.fill
    let d := { c with playback := { c.playback with
      endAt := some position
      buffer := c.playback.buffer.take (position - c.playback.p) } }
    let d := d.lowCrossing fillBefore
    if position = d.playback.p ∧ (d.playback.state = .playing ∨ d.playback.state = .starved) then d.endOfMusic.taken
    else d.taken

/-- GAIN (R74). -/
def ruleGain (value : Nat) (exact : Bool) : Rule := fun c =>
  if exact then Chip.taken { c with gain := { c.gain with master := min 256 value } } else c.refuse .badArg

/-- DUCK (R74). -/
def ruleDuck (value : Nat) (exact : Bool) : Rule := fun c =>
  if exact then Chip.taken { c with gain := { c.gain with duck := min 256 value } } else c.refuse .badArg

/-! ## Output (R67, R68, R73, R75) -/

/-- One output sample from one sample: two floors, toward minus infinity, taken in turn (R75). -/
def outputSample (g r : Nat) (s : Sample) : Sample :=
  BitVec.ofInt 16 ((s.toInt * g).fdiv 256 * r |>.fdiv 64)

/-- The output of one frame (R75). -/
def outputFrame (g r : Nat) (f : AudioFrame) : AudioFrame := ⟨outputSample g r f.left, outputSample g r f.right⟩

/-- The mute ramp moves by one toward its aim (R73). -/
def rampMove (state : AudioState) (r : Nat) : Nat := if state = .playing then min 64 (r + 1) else r - 1

/-- The applied gain moves one step toward floor(G × D / 256) (R75). -/
def GainRecord.move (g : GainRecord) : GainRecord :=
  let target := g.master * g.duck / 256
  { g with applied := if g.applied < target then g.applied + 1 else if target < g.applied then g.applied - 1 else g.applied }

/-- The show clock value that the AUDIO source gives (R76). -/
def Chip.audioClockValue (c : Chip) : Nat := min clockTop ((c.playback.p - c.playback.p0) / 48)

/-- The frame of one period: the mute ramp moves first, then a frame is output; in PLAYING the head of the buffer is taken
and becomes the held sample, and in PLAYING and STARVED the play position advances (R67, R68, R73). -/
def Chip.playFrame (c : Chip) : Chip :=
  let a := c.playback
  let r := rampMove a.state a.r
  let g := c.gain.applied
  match a.state with
  | .playing =>
    let f := a.buffer.headD a.held
    { c with playback := { a with r := r, held := f, p := a.p + 1, buffer := a.buffer.tail }, dac := outputFrame g r f }
  | .starved => { c with playback := { a with r := r, p := a.p + 1 }, dac := outputFrame g r a.held }
  | .off | .filling | .held | .finished => { c with playback := { a with r := r }, dac := outputFrame g r a.held }

/-- The tests AUD makes after a frame, with the notices they raise (R67, R68, R69, R72). -/
def Chip.testBuffer (c : Chip) (fillBefore : Nat) : Chip :=
  match c.playback.state with
  | .playing =>
    if c.playback.streamEnd ≤ c.playback.p then c.endOfMusic
    else if c.playback.fill = 0 then c.starve
    else c.lowCrossing fillBefore
  | .starved => if c.playback.streamEnd ≤ c.playback.p then c.endOfMusic else c
  | .off | .filling | .held | .finished => c

/-- The show clock follows the play position while its source is AUDIO and it runs (R76). -/
def Chip.followPosition (c : Chip) : Chip :=
  if c.clock.source = .audio ∧ c.clock.running then { c with clock := { c.clock with value := c.audioClockValue } } else c

/-- One audio frame period as far as AUD itself goes. -/
def Chip.framePeriod (c : Chip) : Chip := (c.playFrame.followPosition).testBuffer c.playback.fill

end Sys2Proof.Machine
end

