-- ==== Sys2Proof/Machine/Lamps.lean ====
section
/-! DEFINITION. LMP: the channel records and their fades, the gate, the power cap, and the hand-over of the lamps
(chapter 8). -/

namespace Sys2Proof.Machine

/-- The channel `k` of luminaire `l`, in the order of the output record (R138). -/
def channelOf (l : LumId) (k : ColourId) : Fin 128 := ⟨4 * l.val + k.val, by omega⟩

/-- The luminaire of a channel. -/
def lumOf (i : Fin 128) : LumId := ⟨i.val / 4, by omega⟩

/-- The colour of a channel. -/
def colourOf (i : Fin 128) : ColourId := ⟨i.val % 4, by omega⟩

/-- The fade computation of R133: the level `e` after the origin, truncated toward the start. -/
def fadeLevel (start target duration e : Nat) : Nat :=
  if duration = 0 ∨ duration ≤ e then target
  else if start ≤ target then start + (target - start) * e / duration
  else start - (start - target) * e / duration

/-- The level of a channel record now (R133). With the show clock saturated, a fade handed to the show layer at entry into
ENDING stands at its target; in ENDING the show layer holds no other fade (R133, R134). -/
def Chip.levelOf (c : Chip) (f : Fade) : Nat :=
  match f.clock with
  | .showTime =>
    if c.run.cue = .ending ∧ clockTop ≤ c.clock.value then f.target
    else fadeLevel f.start f.target f.duration (c.clock.value - f.origin)
  | .localTime => fadeLevel f.start f.target f.duration (c.now - f.origin)

/-- The current show-layer level of a channel (R131). -/
def Chip.showLevel (c : Chip) (i : Fin 128) : Nat := c.levelOf c.showLayer[i]

/-- The current panel-layer level of a channel (R131). -/
def Chip.panelLevel (c : Chip) (i : Fin 128) : Nat := c.levelOf c.panelLayer[i]

/-- A record settled at a level: the origin stands (R131, log entry 20). -/
def Fade.settled (f : Fade) (v : Nat) : Fade := { f with start := v, target := v, duration := 0 }

/-- Every show-layer record settled at 0 on the show clock (R131, R134). -/
def Chip.darkenShow (c : Chip) : Chip :=
  { c with showLayer := Vector.ofFn fun i => { (c.showLayer[i]).settled 0 with clock := .showTime } }

/-- Every panel-layer record settled at 0 on real time (R131, R142). -/
def Chip.darkenPanel (c : Chip) : Chip :=
  { c with panelLayer := Vector.ofFn fun i => { (c.panelLayer[i]).settled 0 with clock := .localTime } }

/-- The masked channels of the luminaires of a set. -/
def inLights (lums : LumSet) (mask : ChannelMask) (i : Fin 128) : Bool :=
  lums.getLsbD (lumOf i).val && mask.getLsbD (colourOf i).val

/-- Fades on the show clock handed to the show layer for the masked channels of a luminaire set (R33). -/
def Chip.fadeShow (c : Chip) (lums : LumSet) (mask : ChannelMask) (level : ColourId → Nat) (origin duration : Nat) : Chip :=
  { c with showLayer := Vector.ofFn fun i =>
      if inLights lums mask i then ⟨c.showLevel i, level (colourOf i), origin, duration, .showTime⟩ else c.showLayer[i] }

/-- The END fade: every show-layer record to 0 (R44, R134). -/
def Chip.fadeOut (c : Chip) (origin duration : Nat) : Chip :=
  { c with showLayer := Vector.ofFn fun i => ⟨c.showLevel i, 0, origin, duration, .showTime⟩ }

/-- Fades on real time handed to the panel layer (R135). -/
def Chip.fadePanel (c : Chip) (lums : LumSet) (mask : ChannelMask) (level : ColourId → Nat) (duration : Nat) : Chip :=
  { c with panelLayer := Vector.ofFn fun i =>
      if inLights lums mask i then ⟨c.panelLevel i, level (colourOf i), c.now, duration, .localTime⟩ else c.panelLayer[i] }

/-! ## From level to light (R136 to R138) -/

/-- The duration of a release crossfade (R140). -/
def crossfadeTime : Nat := 1000

/-- The pre-gate level of a channel (R136, R140). -/
def Chip.preGate (c : Chip) (i : Fin 128) : Nat :=
  let u := c.lums[lumOf i]
  match u.crossfade with
  | some x => fadeLevel x.start[colourOf i] (c.showLevel i) crossfadeTime (c.now - x.origin)
  | none => match u.active with
    | .showLayer => c.showLevel i
    | .panelLayer => c.panelLevel i

/-- The move of a luminaire's gate at a lamp frame (R136). -/
def Chip.gateMove (c : Chip) (l : LumId) : Nat :=
  let k := c.limits.lums[l]
  let g := (c.lums[l]).gate
  match k.coupling with
  | .none => 256
  | .gate => match k.jet with
    | some j => if (c.jets[j]).state = .opened then min 256 (g + 64) else g - 64
    | none => g - 64

/-- The gated value of a channel (R136). -/
def Chip.gated (c : Chip) (i : Fin 128) : Nat := c.preGate i * (c.lums[lumOf i]).gate / 256

/-- The sum S of the gated values (R137). -/
def Chip.gatedSum (c : Chip) : Nat := ((List.finRange 128).map c.gated).sum

/-- One gated value under the power cap (R137). -/
def underCap (cap sum x : Nat) : Nat := if sum ≤ cap then x else x * cap / sum

/-- The 128 outputs under the power cap (R137). -/
def Chip.cappedOutputs (c : Chip) : Vector Nat 128 :=
  let sum := c.gatedSum
  Vector.ofFn fun i => underCap c.limits.site.cap sum (c.gated i)

/-- The gates moved (R138 step 1). -/
def Chip.moveGates (c : Chip) : Chip :=
  { c with lums := Vector.ofFn fun l => { c.lums[l] with gate := c.gateMove l } }

/-- The crossfades that have run for their time are removed, and the show layer is active (R140). -/
def Chip.endCrossfades (c : Chip) : Chip :=
  { c with lums := Vector.ofFn fun l =>
      match (c.lums[l]).crossfade with
      | some x => if crossfadeTime ≤ c.now - x.origin then { c.lums[l] with crossfade := none, active := .showLayer } else c.lums[l]
      | none => c.lums[l] }

/-- All 128 outputs at 0. -/
def darkOutputs : Vector Nat 128 := Vector.replicate 128 0

/-- The output record at a lamp frame, by the fountain mode (R138 step 4). -/
def Chip.frameOutputs (c : Chip) : Vector Nat 128 :=
  match c.mode.mode with
  | .settling | .standby | .showMode | .manual => c.cappedOutputs
  | .tripped | .dormant => darkOutputs

/-- The lamp frame, steps 1 to 5 of R138. -/
def Chip.lampFrame (c : Chip) : Chip :=
  let d := c.moveGates
  let out := d.frameOutputs
  { d.endCrossfades with
    outputs := out
    lampLine := if c.mode.mode = .dormant then c.lampLine else some out
    lampTimer := 0 }

/-! ## Hand-over, trip and dormancy (R139, R140, R142, R143) -/

/-- TAKE hands the lamps to the panel (R139). -/
def Chip.lampsToPanel (c : Chip) : Chip :=
  { c with
    panelLayer := Vector.ofFn fun i =>
      { (c.panelLayer[i]).settled (c.preGate i) with clock := .localTime }
    lums := Vector.ofFn fun l => { c.lums[l] with active := .panelLayer, crossfade := none } }

/-- RELEASE begins the release crossfade of every luminaire (R140). -/
def Chip.beginCrossfade (c : Chip) : Chip :=
  { c with lums := Vector.ofFn fun l =>
      { c.lums[l] with crossfade := some ⟨Vector.ofFn fun k => c.panelLevel (channelOf l k), c.now⟩ } }

/-- No crossfade, the show layer active, and a zero frame in the output record and on the line (R142, R143). -/
def Chip.zeroFrame (c : Chip) : Chip :=
  { c with
    lums := Vector.ofFn fun l => { c.lums[l] with active := .showLayer, crossfade := none }
    outputs := darkOutputs
    lampLine := some darkOutputs }

/-- Entry into TRIPPED zeroes both layers and sends a zero frame (R142). -/
def Chip.tripLamps (c : Chip) : Chip := c.darkenShow.darkenPanel.zeroFrame

end Sys2Proof.Machine
end

