-- ==== Sys2Proof/Machine/Show.lean ====
section
/-! DEFINITION. CUE: the validation pass over a page (R14 to R16), conditions (R5, R153), what each step does (R29 to R37),
the two cursors (R24 to R28, R52), the hold swap, RESUME and the catch-up (R50 to R56), and the two ends of a show (R44,
R45). -/

namespace Sys2Proof.Machine

/-! ## Validation (R14 to R17) -/

/-- The first item of a list that a check fails, numbered from `n` (R14). -/
def firstBad {α : Type} (check : α → Option FaultReason) (locus : Locus) : Nat → List α → Option FaultRecord
  | _, [] => none
  | n, x :: xs =>
    match check x with
    | some r => some ⟨some locus, some n, r⟩
    | none => firstBad check locus (n + 1) xs

/-- A condition names a slot of the page whose source is NONE (R15 check 3). -/
def Page.slotUnused (pg : Page) : Condition → Bool
  | .always => false
  | .holds q | .fails q => decide ((pg.slots[q]).source = 0)

/-- A scene number beyond S15, or one whose entry in the page is EMPTY (R15 check 6). -/
def Page.sceneMissing (pg : Page) (n : Nat) : Bool :=
  if h : n < 16 then (pg.scenes[n]).isNone else true

/-- A set that the kind needs names no member (R15 check 4). -/
def setMissing (raw : RawStep) : StepKind → Bool
  | .jet | .burst | .cut => decide (stepJets raw = 0)
  | .pump => decide (stepPumps raw = 0)
  | .light => decide (stepLums raw = 0) || decide (stepMask raw = 0)
  | .empty | .jump | .loopSet | .loop | .mark | .endShow | .resume => false

/-- The counter lies beyond K3 (R15 check 5). -/
def counterBeyond (raw : RawStep) : StepKind → Bool
  | .loopSet | .loop => decide (4 ≤ stepCounter raw)
  | .empty | .jet | .burst | .cut | .pump | .light | .jump | .mark | .endShow | .resume => false

/-- The scene named is beyond S15 or EMPTY (R15 check 6). -/
def Page.badScene (pg : Page) (raw : RawStep) : StepKind → Bool
  | .jump => pg.sceneMissing (stepJumpScene raw)
  | .loop => pg.sceneMissing (stepLoopScene raw)
  | .empty | .jet | .burst | .cut | .pump | .light | .loopSet | .mark | .endShow | .resume => false

/-- A ranged value lies outside its range (R15 check 7). -/
def outOfRange (raw : RawStep) : StepKind → Bool
  | .jet => decide (1000 < stepDemand raw)
  | .burst => decide (stepDemand raw = 0) || decide (1000 < stepDemand raw) || decide (stepLength raw = 0)
  | .pump => (stepAction raw).isNone || decide (4096 ≤ (stepPumps raw).toNat)
  | .light => (List.finRange 4).any fun k => (stepMask raw).getLsbD k.val && decide (4095 < stepLevel raw k)
  | .empty | .cut | .jump | .loopSet | .loop | .mark | .endShow | .resume => false

/-- The checks of a step, in the order of R15. -/
def Page.checkStep (pg : Page) (raw : RawStep) : Option FaultReason :=
  match stepKind raw with
  | none => some .badKind
  | some kind =>
    match stepCondition raw with
    | none => some .badSlot
    | some cond =>
      if pg.slotUnused cond then some .badSlot
      else if setMissing raw kind then some .emptySet
      else if counterBeyond raw kind then some .badCounter
      else if pg.badScene raw kind then some .badScene
      else if outOfRange raw kind then some .range
      else none

/-- The check of a scene entry (R16). -/
def checkScene : Option Nat → Option FaultReason
  | none => none
  | some start => if start ≤ 1023 then none else some .range

/-- The checks of a slot, in the order of R16. -/
def checkSlot (q : Slot) : Option FaultReason :=
  if 4 < q.source then some .badSlot
  else if q.source = 0 then none
  else if 1 < q.sense then some .badSlot
  else if 999 < q.threshold then some .range
  else none

/-- The validation pass: the steps, the scenes, the slots; the first fault (R14). -/
def Page.firstFault (pg : Page) : Option FaultRecord :=
  match firstBad pg.checkStep .step 0 pg.steps.toList with
  | some f => some f
  | none =>
    match firstBad checkScene .scene 0 pg.scenes.toList with
    | some f => some f
    | none => firstBad checkSlot .slot 0 pg.slots.toList

/-! ## Conditions (R5, R7, R153) -/

/-- The value of a slot's source (R153). A source without a value cannot occur in a live page's named slots (R15, R16);
it reads as 0 (log entry 19). -/
def Chip.sourceValue (c : Chip) (source : Nat) : Nat :=
  match source with
  | 1 => c.sense.vAvg
  | 2 => c.sense.vPeak
  | 3 => c.sense.level
  | 4 => if c.sense.dusk.state then 1 else 0
  | _ => 0

/-- A slot holds (R7, R153). -/
def Chip.slotHolds (c : Chip) (q : Slot) : Bool :=
  if q.sense = 0 then decide (q.threshold ≤ c.sourceValue q.source) else decide (c.sourceValue q.source < q.threshold)

/-- The live page; the cleared page in IDLE, where none is live. -/
def Chip.live (c : Chip) : Page :=
  match c.run.livePage with
  | some k => c.pages[k]
  | none => clearedPage

/-- The condition of a step lets it act (R5, R27). A malformed condition cannot occur in a live page (R3); it stops the
step (log entry 19). -/
def Chip.stepActs (c : Chip) (raw : RawStep) : Bool :=
  match stepCondition raw with
  | some .always => true
  | some (.holds q) => c.slotHolds (c.live.slots[q])
  | some (.fails q) => !c.slotHolds (c.live.slots[q])
  | none => false

/-! ## The show image (R22, R29 to R32) -/

/-- Show demand and burst end for the jets of a list. -/
def Chip.imageJets (c : Chip) (js : List JetId) (demand : Nat) (burstEnd : Option Nat) : Chip :=
  { c with image := { c.image with jets := Vector.ofFn fun j => if j ∈ js then ⟨demand, burstEnd⟩ else c.image.jets[j] } }

/-- A PUMP step's action on one pump of the image: one field, the other kept (R32). -/
def ImagePump.apply (p : ImagePump) : PumpAction → ImagePump
  | .start => { p with intent := .run }
  | .stop => { p with intent := .stop }
  | .follow => { p with policy := .follow }
  | .explicit => { p with policy := .explicit }

/-- A PUMP step's action on the image (R32). -/
def Chip.imagePumps (c : Chip) (ps : List PumpId) (act : PumpAction) : Chip :=
  { c with image := { c.image with
    pumps := Vector.ofFn fun p => if p ∈ ps then (c.image.pumps[p]).apply act else c.image.pumps[p] } }

/-- The jets a CUT step ends: those of its set with a burst end in the image (R31). -/
def Chip.cutMembers (c : Chip) (set : JetSet) : List JetId :=
  (jetsIn set).filter fun j => (c.image.jets[j]).burstEnd.isSome

/-- The bursts that the show clock has reached end, in the image and on the jets (R30, R111). -/
def Chip.expireBursts (c : Chip) : Chip :=
  Chip.expireJetBursts
    { c with image := { c.image with jets := Vector.ofFn fun j =>
        match (c.image.jets[j]).burstEnd with
        | some b => if b ≤ c.clock.value then ⟨0, none⟩ else c.image.jets[j]
        | none => c.image.jets[j] } }

/-! ## What a step does (R29 to R37) -/

/-- A loop counter; K0 to K3 (R34, R35). -/
def Chip.counter (c : Chip) (n : Nat) : Nat := if h : n < 4 then c.run.counters[n] else 0

/-- A value into a loop counter. -/
def Chip.setCounter (c : Chip) (n v : Nat) : Chip :=
  if h : n < 4 then { c with run := { c.run with counters := c.run.counters.set n v } } else c

/-- The effect of an acting step on the image, the lamps, the counters and the last mark (R29 to R36): all but the
hand-over of jets and pumps to HYD, and the cursor. -/
def Chip.stepImage (c : Chip) (raw : RawStep) (due : Nat) : Chip :=
  match stepKind raw with
  | some .jet => c.imageJets (jetsIn (stepJets raw)) (stepDemand raw) none
  | some .burst => c.imageJets (jetsIn (stepJets raw)) (stepDemand raw) (some (due + stepLength raw))
  | some .cut => c.imageJets (c.cutMembers (stepJets raw)) 0 none
  | some .pump =>
    match stepAction raw with
    | some act => c.imagePumps (pumpsIn (stepPumps raw)) act
    | none => c
  | some .light => c.fadeShow (stepLums raw) (stepMask raw) (stepLevel raw) due (stepFade raw)
  | some .loopSet => c.setCounter (stepCounter raw) (stepLoopValue raw)
  | some .loop => c.setCounter (stepCounter raw) (c.counter (stepCounter raw) - 1)
  | some .mark => Chip.notify { c with run := { c.run with lastMark := some (stepMark raw) } } .mark
  | some .empty | some .jump | some .endShow | some .resume | none => c

/-- A PUMP step's action handed to HYD for one pump (R32). -/
def Chip.drive (c : Chip) (act : PumpAction) (p : PumpId) : Chip :=
  match act with
  | .start => c.intentRun p .showRun
  | .stop => c.intentStop p
  | .follow => c.setPolicy p .follow
  | .explicit => c.setPolicy p .explicit

/-- The hand-over to HYD of an acting step (R29 to R32): the jets of a set J0 first (log entry 32), the pumps of a set P0 first.
A BURST whose end has passed expires at once (R57, R111). -/
def Chip.stepWater (c : Chip) (raw : RawStep) (due : Nat) : Chip :=
  match stepKind raw with
  | some .jet => (c.demandWrites (jetsIn (stepJets raw)) .showRun (stepDemand raw)).endEvent
  | some .burst =>
    let finish := due + stepLength raw
    let d := c.forEach (jetsIn (stepJets raw)) fun j c => c.demandWrite .showRun (stepDemand raw) (some finish) j
    (if finish ≤ c.clock.value then d.expireBursts else d).endEvent
  | some .cut => (c.cutJets (stepJets raw)).endEvent
  | some .pump =>
    match stepAction raw with
    | some act => (c.forEach (pumpsIn (stepPumps raw)) fun p c => c.drive act p).endEvent
    | none => c
  | some .empty | some .light | some .jump | some .loopSet | some .loop | some .mark | some .endShow | some .resume
  | none => c

/-- An acting step outside a catch-up: image first, then water (R29 to R36). -/
def Chip.stepEffect (c : Chip) (raw : RawStep) (due : Nat) : Chip := (c.stepImage raw due).stepWater raw due

/-! ## Where a cursor goes (R24, R25, R27, R28, R34, R35, R37, R53) -/

/-- What becomes of a cursor after a step. -/
inductive Arrival where
  /-- it stands on a step with a due tick -/
  | arrive (i : StepIndex) (due : Nat)
  /-- the show ends, with a lamp fade and its origin -/
  | finish (fade origin : Nat)
  /-- the hold ends -/
  | resumed
deriving DecidableEq, Repr

/-- A stored step of the live page. -/
def Chip.stepAt (c : Chip) (i : StepIndex) : RawStep := c.live.steps[i]

/-- Falling through from index `i` (R24, R28). -/
def Chip.fallFrom (c : Chip) (i : StepIndex) (due : Nat) : Arrival :=
  if h : i.val + 1 < 1024 then .arrive ⟨i.val + 1, h⟩ (due + stepDelay (c.stepAt ⟨i.val + 1, h⟩)) else .finish 0 due

/-- The start index of a scene of the live page, none where the page gives none (R6). -/
def Chip.sceneStart (c : Chip) (n : Nat) : Option StepIndex :=
  if h : n < 16 then
    match c.live.scenes[n] with
    | some start => if g : start < 1024 then some ⟨start, g⟩ else none
    | none => none
  else none

/-- Jumping from a step due at `due` to a scene (R25). A scene without a start cannot occur in a live page (R15); the
cursor then falls through (log entry 19). -/
def Chip.jumpFrom (c : Chip) (i : StepIndex) (due scene : Nat) : Arrival :=
  match c.sceneStart scene with
  | some t => .arrive t (due + max 1 (stepDelay (c.stepAt t)))
  | none => c.fallFrom i due

/-- Where the cursor goes from step `i`, due at `due`, by whether the step acts and which cursor it is under. -/
def Chip.arrival (c : Chip) (i : StepIndex) (due : Nat) (acts underHold : Bool) : Arrival :=
  let raw := c.stepAt i
  if acts then
    match stepKind raw with
    | some .jump => c.jumpFrom i due (stepJumpScene raw)
    | some .loop =>
      if 2 ≤ c.counter (stepCounter raw) then c.jumpFrom i due (stepLoopScene raw) else c.fallFrom i due
    | some .endShow => .finish (stepEndFade raw) due
    | some .resume => if underHold then .resumed else c.fallFrom i due
    | some .empty | some .jet | some .burst | some .cut | some .pump | some .light | some .loopSet | some .mark
    | none => c.fallFrom i due
  else c.fallFrom i due

/-! ## The end of a show (R44, R45) -/

/-- Entry into ENDING with a lamp fade and its origin (R44). The hold due tick is present only while HOLDING (R48). -/
def Chip.enterEnding (c : Chip) (fade origin : Nat) : Chip :=
  let d := c.fadeOut origin fade
  let d := { d with
    run := { d.run with cue := .ending, holdDue := none, shadow := none, pauseCause := none, holdEntry := none }
    image := {
      jets := Vector.replicate 48 ⟨0, none⟩
      pumps := Vector.ofFn fun p => { d.image.pumps[p] with intent := .stop } }
    mode := { d.mode with restore := none } }
  let d := d.demandWrites (List.finRange 48) .showRun 0
  let d := d.forEach (List.finRange 12) fun p c => (c.updPump p fun q => { q with intent := .stop }).stopRequest p
  (d.endEvent.endAudio).notify .showState

/-- The live page returns to READY (R19). -/
def Chip.releasePage (c : Chip) : Chip :=
  match c.run.livePage with
  | some k => c.updPage k fun pg => { pg with state := .ready }
  | none => c

/-- The show record of an ended show: IDLE, no live page, no cursors; counters and last mark are kept (R21). -/
def ShowRecord.ended (r : ShowRecord) : ShowRecord :=
  { r with
    cue := .idle, livePage := none, mainCursor := none, mainDue := none, holdCursor := none, holdDue := none
    shadow := none, pauseCause := none, holdEntry := none }

/-- The show leaves for IDLE, and SHOW_STATE is noticed (R23, R39, R43, R45, R166). -/
def Chip.closeShow (c : Chip) : Chip :=
  Chip.notify { c.releasePage with run := c.run.ended } .showState

/-! ## The catch-up (R54 to R56) -/

/-- What the catch-up has written so far: the jets, the pumps, and the pumps whose intent it wrote. -/
structure Written where
  jets    : List JetId
  pumps   : List PumpId
  intents : List PumpId
deriving DecidableEq, Repr

/-- Nothing written yet. -/
def Written.nothing : Written := ⟨[], [], []⟩

/-- A PUMP action writes the intent. -/
def PumpAction.intent : PumpAction → Bool
  | .start | .stop => true
  | .follow | .explicit => false

/-- A BURST of the catch-up whose end lies at or below now is passed over (R55). -/
def Chip.burstSpent (c : Chip) (raw : RawStep) (due : Nat) : Bool :=
  decide (stepKind raw = some .burst) && decide (due + stepLength raw ≤ c.clock.value)

/-- What an acting step of the catch-up adds to the writes (R56). -/
def Chip.writtenBy (c : Chip) (raw : RawStep) (w : Written) : Written :=
  match stepKind raw with
  | some .jet | some .burst => { w with jets := w.jets ++ jetsIn (stepJets raw) }
  | some .cut => { w with jets := w.jets ++ c.cutMembers (stepJets raw) }
  | some .pump =>
    match stepAction raw with
    | some act =>
      { w with
        pumps := w.pumps ++ pumpsIn (stepPumps raw)
        intents := if act.intent then w.intents ++ pumpsIn (stepPumps raw) else w.intents }
    | none => w
  | some .empty | some .light | some .jump | some .loopSet | some .loop | some .mark | some .endShow | some .resume
  | none => w

/-- The main cursor placed. -/
def Chip.placeMain (c : Chip) (i : StepIndex) (due : Nat) : Chip :=
  { c with run := { c.run with mainCursor := some i, mainDue := some due } }

/-- One step of the catch-up (R54, R55). -/
def Chip.catchUpStep (c : Chip) (w : Written) (i : StepIndex) (due : Nat) : Chip × Written :=
  let raw := c.stepAt i
  let acts := c.stepActs raw && !c.burstSpent raw due
  let d := if acts then c.stepImage raw due else c
  let w := if acts then c.writtenBy raw w else w
  match c.arrival i due acts false with
  | .arrive t due => (d.placeMain t due, w)
  | .finish fade origin => (d.enterEnding fade origin, w)
  | .resumed => (d, w)

/-- The steps of the catch-up, at most `fuel` of them. -/
def Chip.catchUpRun : Nat → Chip → Written → Chip × Written
  | 0, c, w => (c, w)
  | fuel + 1, c, w =>
    match c.run.cue, c.run.mainCursor, c.run.mainDue with
    | .running, some i, some due =>
      if due ≤ c.clock.value then
        let x := c.catchUpStep w i due
        Chip.catchUpRun fuel x.1 x.2
      else (c, w)
    | _, _, _ => (c, w)

/-- The hand-over to HYD at the end of the catch-up: each written jet and pump once, with its final setting (R56). -/
def Chip.handOver (c : Chip) (w : Written) : Chip :=
  let d := c.forEach ((List.finRange 48).filter fun j => decide (j ∈ w.jets)) fun j d =>
    d.demandWrite .showRun (c.image.jets[j]).demand (c.image.jets[j]).burstEnd j
  let d := d.forEach ((List.finRange 12).filter fun p => decide (p ∈ w.pumps)) fun p d =>
    d.handDrive p (c.image.pumps[p]).intent (c.image.pumps[p]).policy (decide (p ∈ w.intents))
  d.endEvent

/-- A bound on the steps between a due tick and now: at most 1,024 for each tick, since each jump costs a tick (R25, R54). -/
def stepBound (due now : Nat) : Nat := (now + 1 - due) * 1024

/-- The catch-up (R54). -/
def Chip.catchUp (c : Chip) : Chip :=
  let x := Chip.catchUpRun (stepBound (c.run.mainDue.getD c.clock.value) c.clock.value) c Written.nothing
  if x.1.run.cue = .ending then x.1 else x.1.handOver x.2

/-! ## Hold swap and RESUME (R50, R51, R53) -/

/-- RESUME under the hold cursor, at step `i`: counters restored, the cursor left armed after the RESUME, RUNNING, and the
catch-up (R53). -/
def Chip.endHold (c : Chip) (i : StepIndex) : Chip :=
  Chip.catchUp (Chip.notify
    { c with run := { c.run with
      cue := .running
      counters := c.run.shadow.getD c.run.counters
      shadow := none
      holdCursor := if h : i.val + 1 < 1024 then some ⟨i.val + 1, h⟩ else none
      holdDue := none
      holdEntry := none } } .showState)

/-! ## The cursors (R26, R52) -/

/-- The step under the main cursor (R26, R27). -/
def Chip.executeMain (c : Chip) (i : StepIndex) (due : Nat) : Chip :=
  let raw := c.stepAt i
  let acts := c.stepActs raw
  let d := if acts then c.stepEffect raw due else c
  match c.arrival i due acts false with
  | .arrive t due => d.placeMain t due
  | .finish fade origin => d.enterEnding fade origin
  | .resumed => d

/-- The hold cursor placed. -/
def Chip.placeHold (c : Chip) (i : StepIndex) (due : Nat) : Chip :=
  { c with run := { c.run with holdCursor := some i, holdDue := some due } }

/-- The step under the hold cursor (R52). -/
def Chip.executeHold (c : Chip) (i : StepIndex) (due : Nat) : Chip :=
  let raw := c.stepAt i
  let acts := c.stepActs raw
  let d := if acts then c.stepEffect raw due else c
  match c.arrival i due acts true with
  | .arrive t due => d.placeHold t due
  | .finish fade origin => d.enterEnding fade origin
  | .resumed => d.endHold i

/-- The steps due at the present clock value, under the cursor that the cue state lets execute, at most `fuel` of them. -/
def Chip.runCursors : Nat → Chip → Chip
  | 0, c => c
  | fuel + 1, c =>
    match c.run.cue with
    | .running =>
      match c.run.mainCursor, c.run.mainDue with
      | some i, some due => if due ≤ c.clock.value then Chip.runCursors fuel (c.executeMain i due) else c
      | _, _ => c
    | .holding =>
      match c.run.holdCursor, c.run.holdDue with
      | some i, some due => if due ≤ c.clock.value then Chip.runCursors fuel (c.executeHold i due) else c
      | _, _ => c
    | .idle | .cued | .paused | .restoring | .ending => c

/-- The due tick of the cursor that executes. -/
def Chip.activeDue (c : Chip) : Nat :=
  (if c.run.cue = .holding then c.run.holdDue else c.run.mainDue).getD c.clock.value

/-- Every step due at the present clock value executes (R26). -/
def Chip.runSteps (c : Chip) : Chip := Chip.runCursors (stepBound c.activeDue c.clock.value) c

/-- The show clock has taken a new value: in RUNNING and HOLDING the bursts it has reached expire, then the due steps
execute (R26, R30, R111). -/
def Chip.clockTook (c : Chip) : Chip :=
  if c.run.cue = .running ∨ c.run.cue = .holding then c.expireBursts.runSteps else c

/-- The hold swap of a RUNNING show whose hold cursor is armed at step `i`, and the hold steps due at its entry tick (R50). -/
def Chip.holdSwap (c : Chip) (i : StepIndex) : Chip :=
  let d := { c with run := { c.run with
    cue := .holding
    shadow := some c.run.counters
    holdEntry := some c.clock.value
    holdDue := some (c.clock.value + stepDelay (c.stepAt i)) } }
  ((d.notify .showState).notify .hold).runSteps

/-- GUST reaches CUE (R50, R51). -/
def Chip.gustToShow (c : Chip) : Chip :=
  match c.run.cue, c.run.holdCursor with
  | .running, some i => c.holdSwap i
  | _, _ => c

end Sys2Proof.Machine
end

