-- ==== Sys2Proof/Machine/Modes.lean ====
section
/-! DEFINITION. MOD: the fountain modes, wakes and sleep (R155 to R161), the end of the restore pass (R164), the trips
(R166, R167); and the tests that follow a command that may have changed what they read (R45, R123, R156, R161, R164). -/

namespace Sys2Proof.Machine

/-- The fountain mode changes, and MODE is noticed if it does (R155). -/
def Chip.toMode (c : Chip) (m : FountainMode) : Chip :=
  if c.mode.mode = m then c else Chip.notify { c with mode := { c.mode with mode := m } } .mode

/-- The mode a wake continuation reaches (R158). -/
def WakeTo.mode : WakeTo → FountainMode
  | .standby => .standby
  | .manual => .manual

/-- A wake out of DORMANT, by the power state (R157). -/
def Chip.beginWake (c : Chip) (w : WakeTo) : Chip :=
  match c.mode.power with
  | .off | .settling =>
    let d := c.raisePower
    Chip.toMode { d with mode := { d.mode with wake := some w } } .settling
  | .on => c.toMode w.mode

/-- The wake completes at power ON: the mode becomes the continuation (R158). -/
def Chip.endWake (c : Chip) : Chip :=
  match c.mode.mode, c.mode.wake with
  | .settling, some w => Chip.toMode { c with mode := { c.mode with wake := none } } w.mode
  | _, _ => c

/-- Entry into DORMANT (R160, R143). -/
def Chip.enterDormant (c : Chip) : Chip :=
  let d := c.toMode .dormant
  let d := { d with mode := { d.mode with dormancy := none } }
  let d := d.forEach (List.finRange 12) fun p c => c.intentStop p
  (d.testPower).zeroFrame

/-! ## The restore pass (R164) -/

/-- Every jet whose show image demand is above 0 is OPEN (R164). -/
def Chip.waterRestored (c : Chip) : Bool :=
  (List.finRange 48).all fun j =>
    decide ((c.image.jets[j]).demand = 0) || decide ((c.jets[j]).state = .opened)

/-- The restore pass completes: RUNNING, the clock and the audio go on (R164, R70, R77). -/
def Chip.endRestore (c : Chip) : Chip :=
  let d := { c with
    run := { c.run with cue := .running }
    mode := { c.mode with restore := none } }
  ((d.notify .showState).startClock).resumeAudio

/-- MOD tests whether the restore pass is complete (R164): once, at the end of the command that may have opened a jet (log entry
34). -/
def Chip.testRestore (c : Chip) : Chip :=
  if c.run.cue = .restoring ∧ c.waterRestored then c.endRestore else c

/-! ## The end of ENDING (R45) -/

/-- ENDING completes (R45, R134). -/
def Chip.completeEnding (c : Chip) : Chip := ((c.closeShow.stopClock).darkenShow).toMode .standby

/-- CUE tests whether ENDING is complete (R45). -/
def Chip.testEnding (c : Chip) : Chip :=
  if c.run.cue = .ending ∧ c.pumpsDown ∧ c.lampsDark then c.completeEnding else c

/-! ## The dormancy timer (R161) -/

/-- The conditions under which the dormancy timer runs (R161). -/
def Chip.unattended (c : Chip) : Bool :=
  decide (c.mode.mode = .standby) && decide (c.run.cue = .idle) && !c.mode.flushRunning

/-- The dormancy timer after a command: started where its conditions have come to hold, absent where they do not (R161). -/
def Chip.testDormancy (before c : Chip) : Chip :=
  if !c.unattended then { c with mode := { c.mode with dormancy := none } }
  else if before.unattended then c
  else { c with mode := { c.mode with
    dormancy := if c.limits.site.dormancy = 0 then none else some ⟨c.now, c.limits.site.dormancy⟩ } }

/-- The tests that follow a command which may have moved a pump, a jet, the lamps, the mode, the cue state or a flush. -/
def Chip.settle (before c : Chip) : Chip :=
  Chip.testDormancy before (c.testRestore.testEnding.testFlush.testPower)

/-- A command's effect with the tests that follow it. -/
def Chip.settled (f : Chip → Chip) (c : Chip) : Chip := Chip.settle c (f c)

/-! ## Trips (R166, R167) -/

/-- The pumps and the start queue at a trip (R102). -/
def Chip.tripPumps (c : Chip) : Chip :=
  let d := { c with queue := [], joining := [] }
  let d := d.forEach (List.finRange 12) fun p c => if (c.pumps[p]).state.up then c.enterResting p else c
  { d with pumps := Vector.ofFn fun p =>
      { d.pumps[p] with intent := .stop, stopPending := false, idleExpiry := none } }

/-- Every jet CLOSED with owner NONE (R118). -/
def Chip.closeJets (c : Chip) : Chip :=
  { c with jets := Vector.ofFn fun j =>
      { c.jets[j] with state := .closed, owner := .none, demand := 0, burstEnd := none, waitCause := none, height := 0 } }

/-- The show at a trip: aborted from any cue state but IDLE, the show image left as it is (R166). -/
def Chip.abortShow (c : Chip) : Chip :=
  let d := { c with mode := { c.mode with restore := none } }
  if c.run.cue = .idle then d else d.closeShow

/-- Entry into TRIPPED (R166). -/
def Chip.enterTripped (c : Chip) (cause : TripCause) : Chip :=
  let d := { c with mode := { c.mode with causes := [cause], wake := none, dormancy := none } }
  let d := d.dropPower.tripPumps.closeJets.abortShow.tripAudio.tripLamps.cutFlush
  (d.toMode .tripped).notify .trip

/-- A trip cause arrives (R166, R167). -/
def Chip.tripCause (c : Chip) (cause : TripCause) : Chip :=
  if c.mode.mode = .tripped then
    Chip.notify { c with mode := { c.mode with causes := withCause cause c.mode.causes } } .trip
  else c.enterTripped cause

end Sys2Proof.Machine
end

