-- ==== Sys2Proof/Machine/FlushEvents.lean ====
section
/-! DEFINITION. The events of circulation and of the lamp frame (R121, R124, R125, R128, R138). -/

namespace Sys2Proof.Machine

/-- The circulation period expires (R121); a flush may then begin (R123). -/
def Chip.periodReached (c : Chip) : Chip :=
  c.settle ((c.advance (c.circ.period * 1000 - c.circ.periodTimer)).periodExpiry)

/-- The open time of a flush can grow to its duration, or has reached it: a jet of the flush is OPEN, or no time is wanting (R124). -/
def Chip.openTimeReaches (c : Chip) (f : Flush) : Bool := c.flushOpen || decide (f.duration * 1000 ≤ f.openTime)

/-- The open time of a single flush reaches its duration (R124). -/
def Chip.flushReached (c : Chip) : Chip :=
  match c.circ.flush with
  | some f =>
    if f.mode = .single ∧ c.openTimeReaches f then c.settle ((c.advance (f.duration * 1000 - f.openTime)).endFlush f) else c
  | none => c

/-- The open time of a zone of a FLUSH_ALL run reaches the run's duration (R128). -/
def Chip.zoneReached (c : Chip) : Chip :=
  match c.circ.flush with
  | some f =>
    if f.mode = .all ∧ c.openTimeReaches f then c.settle ((c.advance (f.duration * 1000 - f.openTime)).zoneDone f) else c
  | none => c

/-- The dry time of a flush reaches 120 s (R125). -/
def Chip.stallReached (c : Chip) : Chip :=
  match c.circ.flush with
  | some f =>
    if !c.flushOpen || decide (stallLimit ≤ f.dryTime) then c.settle ((c.advance (stallLimit - f.dryTime)).stallFlush f) else c
  | none => c

/-- The lamp frame (R138); CUE then tests whether ENDING is complete (R45). -/
def Chip.frameReached (c : Chip) : Chip := c.settle ((c.advance (25 - c.lampTimer)).lampFrame)

/-- FLUSH_PERIOD_EXPIRY (R121). -/
def execFlushPeriodExpiry (s : State) : Host.Outcome State Fault Refusal := s.act (Chip.event Chip.periodReached)

/-- FLUSH_END (R124). -/
def execFlushEnd (s : State) : Host.Outcome State Fault Refusal := s.act (Chip.event Chip.flushReached)

/-- FLUSH_ALL_ZONE_DONE (R128). -/
def execFlushAllZoneDone (s : State) : Host.Outcome State Fault Refusal := s.act (Chip.event Chip.zoneReached)

/-- FLUSH_STALL (R125). -/
def execFlushStall (s : State) : Host.Outcome State Fault Refusal := s.act (Chip.event Chip.stallReached)

/-- LAMP_FRAME (R138). -/
def execLampFrame (s : State) : Host.Outcome State Fault Refusal := s.act (Chip.event Chip.frameReached)

end Sys2Proof.Machine
end

