-- ==== Sys2Proof/Machine/Resets.lean ====
section
/-! DEFINITION. The three resets (R169, R20, R47, R78, R103, R119, R130, R144, R154) and the straps (R170). -/

namespace Sys2Proof.Machine

/-! ## Straps (R170) -/

/-- The role that two role pins select (R170). -/
def strapSelects (s : StrapPins) : Role :=
  match s.role1, s.role0 with
  | false, true => .program
  | true, false => .panel
  | false, false | true, true => .observer

/-- The role of a link after resolution: of several links selecting PROGRAM, or PANEL, the lowest keeps it (R170). -/
def resolveRole (straps : Vector StrapPins 3) (l : LinkId) : Role :=
  let r := strapSelects straps[l]
  if (List.finRange 3).any fun k => decide (k < l) && decide (strapSelects straps[k] = r) then .observer else r

/-- The link records that sampled straps give (R170). -/
def strapLinks (straps : Vector StrapPins 3) : Vector Link 3 :=
  Vector.ofFn fun l => resetLink (resolveRole straps l) (straps[l]).fast

/-! ## Power-on and line reset (R169) -/

/-- After every reset an emergency stop still asserted trips the fountain (R151, R169). -/
def Chip.senseStop (c : Chip) : Chip := if c.lines.eStop then c.tripCause .eStop else c

/-- Power-on reset (R169). -/
def powerOnReset (lines : Lines) : Chip := (poweredChip lines (strapLinks lines.straps)).senseStop

/-- The fault record of a page that a reset interrupted (R17, R20). -/
def interrupted : FaultRecord := ⟨none, none, .interrupted⟩

/-- A page after a line reset or a RESTART: its contents kept, its state as R20 gives. -/
def Page.afterReset (pg : Page) : Page :=
  match pg.state with
  | .loading | .checking => { pg with state := .invalid, fault := some interrupted }
  | .live => { pg with state := .ready }
  | .free | .ready | .invalid => pg

/-- The part at the release of a line reset, before an asserted emergency stop acts: power-on values, but for the pages,
the local timebase, the frame the lamps hold, and the straps as now sampled (R20, R144, R169, R170). -/
def Chip.lineResetValues (c : Chip) (straps : Vector StrapPins 3) : Chip :=
  let lines := { c.lines with straps := straps }
  { poweredChip lines (strapLinks straps) with
    now := c.now
    pages := Vector.ofFn fun k => (c.pages[k]).afterReset
    clock := ⟨0, .localTime, false, c.now⟩
    pumps := Vector.replicate 12 { resetPump with stateEntry := c.now }
    lampLine := c.lampLine
    sense := resetSensing c.now lines.eStop }

/-- Line reset, at the release of RESET_N (R169). -/
def Chip.lineReset (c : Chip) (straps : Vector StrapPins 3) : Chip := (c.lineResetValues straps).senseStop

/-- RESET_N is asserted: the power is down, and the frames being assembled, the owed replies, the reply queues and the notice
sets are discarded; the rest of the reset is made at the release (R169, R170, R172). -/
def Chip.assertReset (c : Chip) : Chip :=
  Chip.updLinks { c.dropPower with resetHeld := true } fun k =>
    { k with receive := .hunt, discarding := false, owed := none, replies := [], notices := [] }

/-! ## RESTART (R169, R172) -/

/-- A link at a RESTART: the owed PAGE_CLOSE answered with INVALID and INTERRUPTED, the replies sent out, and the rest of the
record at its reset values (R18, R170, R172). -/
def Link.afterRestart (k : Link) : Link :=
  let out :=
    match k.owed with
    | some kind => k.replies ++ [⟨kind, .ok, .checked .invalid (some interrupted)⟩]
    | none => k.replies
  { resetLink k.role k.fast with sent := out }

/-- A pump at a RESTART (R103). -/
def Chip.pumpAfterRestart (c : Chip) (p : PumpId) : Pump :=
  let q := c.pumps[p]
  let q := if q.state.up then
      { q with state := .resting, stateEntry := c.now, restEnd := c.now + (c.limits.pumps[p]).rest * 1000 }
    else q
  { q with intent := .stop, policy := .follow, stopPending := false, idleExpiry := none, target := 0, setpoint := 0 }

/-- The part at a RESTART, before an asserted emergency stop acts (R169); S_min in force is that of the table kept (log entry
33). -/
def Chip.restartValues (c : Chip) : Chip :=
  { c.lineResetValues c.lines.straps with
    links := Vector.ofFn fun l => (c.links[l]).afterRestart
    lines := c.lines
    pumps := Vector.ofFn fun p => c.pumpAfterRestart p
    history := c.history
    circ := ⟨0, 0, c.limits.site.period, 0, c.circ.mask, none⟩
    limits := c.limits
    sMinInForce := c.limits.sMins
    protection := c.protection
    siteCode := c.siteCode }

/-- RESTART (R169). -/
def Chip.restart (c : Chip) : Chip := c.restartValues.senseStop

end Sys2Proof.Machine
end

