-- ==== Sys2Proof/Machine/ShowControl.lean ====
section
/-! DEFINITION. The show requests (R38 to R43, R49) and the restore timeout (R164). -/

namespace Sys2Proof.Machine

/-! ## CUE and UNCUE (R38, R39) -/

/-- The modes in which a show may be cued (R38). -/
def FountainMode.mayCue : FountainMode → Bool
  | .standby | .manual | .dormant => true
  | .settling | .showMode | .tripped => false

/-- CUE taken for page `k`, whose S0 starts at index `i` (R38). -/
def Chip.cueShow (c : Chip) (k : PageId) (i : StepIndex) (music : Bool) (origin : Nat) : Chip :=
  let d := c.updPage k fun pg => { pg with state := .live }
  let d := { d with run := { d.run with
    cue := .cued, livePage := some k, shadow := none, pauseCause := none, lastMark := none, holdEntry := none
    counters := Vector.replicate 4 0, holdDue := none } }
  let d := { d with
    run := { d.run with
      mainCursor := some i
      mainDue := some (stepDelay (d.stepAt i))
      holdCursor := d.sceneStart 15 }
    image := clearedImage }
  let d := (d.cueAudio music origin).notify .showState
  if c.mode.mode = .dormant then d.beginWake .standby else d

/-- The start index of S0 of a page, none where S0 is EMPTY (R6, R38). -/
def Page.startIndex (pg : Page) : Option StepIndex :=
  match pg.scenes[0] with
  | some start => if h : start < 1024 then some ⟨start, h⟩ else none
  | none => none

/-- CUE (R38). -/
def ruleCue (page : Nat) (music : Bool) (origin : Nat) (exact : Bool) : Rule := fun c =>
  if h : page < 4 ∧ exact then
    if c.run.cue ≠ .idle then c.refuse .state
    else if !c.mode.mode.mayCue then c.refuse .state
    else if (c.pages[page]).state ≠ .ready then c.refuse .state
    else match (c.pages[page]).startIndex with
      | none => c.refuse .badScene
      | some i => (c.settle (c.cueShow ⟨page, h.1⟩ i music origin)).taken
  else c.refuse .badArg

/-- A CUED show is uncued (R39, R61). -/
def Chip.uncue (c : Chip) : Chip :=
  let d := c.closeShow.audioOff
  { d with playback := { d.playback with endAt := none } }

/-- UNCUE (R39). -/
def ruleUncue : Rule := fun c => if c.run.cue = .cued then (c.settle c.uncue).taken else c.refuse .state

/-! ## START (R40) -/

/-- START taken (R40). -/
def Chip.startShow (c : Chip) : Chip :=
  let d := c.toMode .showMode
  let d := Chip.notify { d with run := { d.run with cue := .running }, mode := { d.mode with dormancy := none } } .showState
  let d := d.demandWrites (List.finRange 48) .showRun 0
  let d := d.forEach (List.finRange 12) fun p c => c.handDrive p .stop .follow true
  ((d.cutFlush.endEvent).startAudio).clockTook

/-- START (R40). -/
def ruleStart : Rule := fun c =>
  if c.run.cue ≠ .cued then c.refuse .state
  else if c.mode.mode = .manual then c.refuse .notOwner
  else if c.mode.mode ≠ .standby then c.refuse .state
  else if c.playback.music ∧ c.playback.fill < prebuffer then c.refuse .notPrimed
  else (c.settle c.startShow).taken

/-! ## PAUSE, CONTINUE, HOLD_SET (R41, R42, R49) -/

/-- The show pauses: the clock stopped, the audio held, the water left as it stands (R41, R162). -/
def Chip.pauseShow (c : Chip) (cause : PauseCause) : Chip :=
  let d := (c.stopClock).holdAudio
  let d := { d with run := { d.run with cue := .paused, pauseCause := some cause } }
  if c.run.cue = .paused then d else d.notify .showState

/-- PAUSE (R41). -/
def rulePause : Rule := fun c => if c.run.cue = .running then (c.pauseShow .program).taken else c.refuse .state

/-- A paused show goes on (R42). -/
def Chip.continueShow (c : Chip) : Chip :=
  let d := Chip.notify { c with run := { c.run with cue := .running, pauseCause := none } } .showState
  (d.startClock).resumeAudio

/-- CONTINUE (R42). -/
def ruleContinue : Rule := fun c =>
  if c.run.cue = .paused then
    match c.run.pauseCause with
    | some .take => c.refuse .notOwner
    | some .program | none => c.continueShow.taken
  else c.refuse .state

/-- The cue states in which the hold cursor may be re-pointed (R49). -/
def CueState.mayHoldSet : CueState → Bool
  | .cued | .running | .paused | .restoring => true
  | .idle | .holding | .ending => false

/-- The hold cursor placed on a start index, or made absent (R49). -/
def Chip.setHold (c : Chip) (i : Option StepIndex) : Chip := { c with run := { c.run with holdCursor := i } }

/-- HOLD_SET (R49). -/
def ruleHoldSet (scene : Option Nat) (exact : Bool) : Rule := fun c =>
  if !c.run.cue.mayHoldSet then c.refuse .state
  else if !exact then c.refuse .badArg
  else match scene with
    | none => (c.setHold none).taken
    | some n =>
      if 16 ≤ n then c.refuse .badArg
      else match c.sceneStart n with
        | none => c.refuse .badScene
        | some i => (c.setHold (some i)).taken

/-! ## STOP (R43) -/

/-- The lamp fade of a STOP, in show ticks (R43). -/
def stopFade : Nat := 2000

/-- A show paused by the panel is ended at once (R43). -/
def Chip.dropShow (c : Chip) : Chip :=
  Chip.closeShow { (c.darkenShow).audioOff with image := clearedImage }

/-- STOP by the cue state (R43). -/
def Chip.stopShow (c : Chip) : Chip :=
  match c.run.cue with
  | .idle | .ending => c
  | .cued => c.uncue
  | .running | .holding | .restoring => c.enterEnding stopFade c.clock.value
  | .paused => if c.run.pauseCause = some .take then c.dropShow else c.enterEnding stopFade c.clock.value

/-- STOP (R43). -/
def ruleStop : Rule := fun c =>
  if c.run.cue = .idle then c.refuse .state
  else if c.run.cue = .ending then c.taken
  else (c.settle c.stopShow).taken

/-- The restore timeout: 30 s, in milliseconds (R163). -/
def restoreTime : Nat := 30000

/-- The restore timeout expires (R164). -/
def Chip.restoreExpiry (c : Chip) : Chip :=
  match c.run.cue, c.mode.restore with
  | .restoring, some t => c.settle (c.reach (t + restoreTime)).endRestore
  | _, _ => c

/-! ## Meanings -/

/-- CUE (R38). -/
def execCue (link : LinkId) (page : Nat) (music : Bool) (origin : Nat) (s : State) : Host.Outcome State Fault Refusal :=
  s.act (Chip.request link 7 (ruleCue page music origin true))

/-- UNCUE (R39). -/
def execUncue (link : LinkId) (s : State) : Host.Outcome State Fault Refusal :=
  s.act (Chip.request link 8 (withoutPayload 8 true ruleUncue))

/-- START (R40). -/
def execStart (link : LinkId) (s : State) : Host.Outcome State Fault Refusal :=
  s.act (Chip.request link 9 (withoutPayload 9 true ruleStart))

/-- PAUSE (R41). -/
def execPause (link : LinkId) (s : State) : Host.Outcome State Fault Refusal :=
  s.act (Chip.request link 10 (withoutPayload 10 true rulePause))

/-- CONTINUE (R42). -/
def execContinueShow (link : LinkId) (s : State) : Host.Outcome State Fault Refusal :=
  s.act (Chip.request link 11 (withoutPayload 11 true ruleContinue))

/-- HOLD_SET (R49). -/
def execHoldSet (link : LinkId) (scene : Option Nat) (s : State) : Host.Outcome State Fault Refusal :=
  s.act (Chip.request link 12 (ruleHoldSet scene true))

/-- STOP (R43). -/
def execStop (link : LinkId) (s : State) : Host.Outcome State Fault Refusal :=
  s.act (Chip.request link 16 (withoutPayload 16 true ruleStop))

/-- RESTORE_TIMEOUT (R164). -/
def execRestoreTimeout (s : State) : Host.Outcome State Fault Refusal := s.act (Chip.event Chip.restoreExpiry)

end Sys2Proof.Machine
end

