-- ==== Sys2Proof/Machine/Control.lean ====
section
/-! DEFINITION. MOD's requests and timers: TAKE, RELEASE, the trips and their clearing, RESTART and the other resets, SLEEP,
WAKE, the settle and dormancy expiries (R156 to R169). -/

namespace Sys2Proof.Machine

/-! ## TAKE (R162) -/

/-- The hold is undone without catch-up (R57). -/
def Chip.undoHold (c : Chip) : Chip :=
  if c.run.cue = .holding then
    { c with run := { c.run with
      counters := c.run.shadow.getD c.run.counters, shadow := none, holdDue := none, holdEntry := none } }
  else c

/-- TAKE, step 1: the show is paused with cause TAKE; a CUED or IDLE show is left as it stands (R162, R57). -/
def Chip.takeShow (c : Chip) : Chip :=
  match c.run.cue with
  | .running | .holding | .paused | .restoring =>
    let d := c.undoHold.pauseShow .take
    { d with mode := { d.mode with restore := none } }
  | .idle | .cued | .ending => c

/-- TAKE, step 2: every jet to the panel with its present demand (R162), J0 first (log entry 32). -/
def Chip.takeJets (c : Chip) : Chip :=
  c.forEach (List.finRange 48) fun j c => c.demandWrite .panel (c.jets[j]).demand none j

/-- TAKE, step 6: the mode, by the mode at the take (R157, R158, R162). -/
def Chip.takeMode (c : Chip) : Chip :=
  let d := { c with mode := { c.mode with dormancy := none } }
  match c.mode.mode with
  | .dormant => d.beginWake .manual
  | .settling => { d with mode := { d.mode with wake := some .manual } }
  | .standby | .showMode | .manual | .tripped => d.toMode .manual

/-- A TAKE that has effect (R162). -/
def Chip.takeFountain (c : Chip) : Chip := ((c.takeShow.takeJets.cutFlush.endEvent).lampsToPanel).takeMode

/-- TAKE (R162). -/
def ruleTake : Rule := fun c =>
  if c.mode.mode = .tripped ∨ c.run.cue = .ending then c.refuse .state
  else if c.mode.mode = .manual ∨ (c.mode.mode = .settling ∧ c.mode.wake = some .manual) then c.taken
  else (c.settle c.takeFountain).taken

/-! ## RELEASE (R163, R165) -/

/-- RELEASE begins the restore pass (R163). The order of the 48 demand writes and of the twelve pumps, which the manual leaves
open, is J0 first and P0 first (log entry 32). -/
def Chip.beginRestore (c : Chip) : Chip :=
  let d := Chip.notify { c with run := { c.run with cue := .restoring, pauseCause := none } } .showState
  let d := d.toMode .showMode
  let d := d.forEach (List.finRange 48) fun j d =>
    d.demandWrite .showRun (c.image.jets[j]).demand (c.image.jets[j]).burstEnd j
  let d := d.expireBursts
  let d := d.forEach (List.finRange 12) fun p d => d.handDrive p (c.image.pumps[p]).intent (c.image.pumps[p]).policy false
  let d := (d.endEvent).beginCrossfade
  { d with mode := { d.mode with restore := some c.now } }

/-- RELEASE without a paused show (R165), J0 first and P0 first (log entry 32). -/
def Chip.releaseFountain (c : Chip) : Chip :=
  let d := c.demandWrites (List.finRange 48) .none 0
  let d := d.forEach (List.finRange 12) fun p c => c.intentStop p
  ((d.endEvent).beginCrossfade).toMode .standby

/-- RELEASE (R163, R165). -/
def ruleRelease : Rule := fun c =>
  if c.mode.mode = .dormant then c.refuse .state
  else if c.mode.mode ≠ .manual then c.refuse .notOwner
  else if c.run.cue = .paused ∧ c.run.pauseCause = some .take then (c.settle c.beginRestore).taken
  else (c.settle c.releaseFountain).taken

/-! ## Trips and RESTART (R166 to R169) -/

/-- TRIP (R166, R167). -/
def ruleTrip : Rule := fun c => (c.tripCause .panel).taken

/-- CLEAR_TRIP (R168). -/
def ruleClearTrip : Rule := fun c =>
  if c.mode.mode ≠ .tripped then c.refuse .state
  else if c.sense.eStop ∨ c.sense.level = 2 then
    (c, .answer .state (.standing c.mode.causes c.sense.eStop (decide (c.sense.level = 2))))
  else
    let d := { c with mode := { c.mode with causes := [] } }
    let d := d.raisePower
    Chip.taken (Chip.toMode { d with mode := { d.mode with wake := some .standby } } .settling)

/-- The kind byte of RESTART (R179). -/
def kindRestart : Nat := 21

/-- RESTART: its OK is produced first, then the restart is made (R169, R172). -/
def ruleRestart (link : LinkId) : Rule := fun c => ((c.reply link kindRestart .ok .none).restart, .produced)

/-! ## Sleep, wake and their timers (R156 to R161) -/

/-- SLEEP (R160). -/
def ruleSleep : Rule := fun c =>
  if c.mode.mode = .standby ∧ c.run.cue = .idle then (c.settle c.enterDormant).taken else c.refuse .state

/-- WAKE (R159). -/
def ruleWake : Rule := fun c =>
  match c.mode.mode with
  | .dormant => (c.settle (c.beginWake .standby)).taken
  | .settling | .standby | .showMode | .manual => c.taken
  | .tripped => c.refuse .state

/-- The settle expiry (R156, R158). -/
def Chip.settleExpiry (c : Chip) : Chip :=
  match c.mode.settle with
  | some t => c.settle (((c.reach (t.start + t.length * 1000)).powerOn.endEvent).endWake)
  | none => c

/-- The dormancy expiry (R161). -/
def Chip.dormancyExpiry (c : Chip) : Chip :=
  match c.mode.dormancy with
  | some t => if c.unattended then c.settle ((c.reach (t.start + t.length * 60000)).enterDormant) else c
  | none => c

/-! ## Meanings -/

/-- TAKE (R162). -/
def execTake (link : LinkId) (s : State) : Host.Outcome State Fault Refusal :=
  s.act (Chip.request link 17 (withoutPayload 17 true ruleTake))

/-- RELEASE (R163, R165). -/
def execRelease (link : LinkId) (s : State) : Host.Outcome State Fault Refusal :=
  s.act (Chip.request link 18 (withoutPayload 18 true ruleRelease))

/-- TRIP (R166, R167). -/
def execTrip (link : LinkId) (s : State) : Host.Outcome State Fault Refusal :=
  s.act (Chip.request link 19 (withoutPayload 19 true ruleTrip))

/-- CLEAR_TRIP (R168). -/
def execClearTrip (link : LinkId) (s : State) : Host.Outcome State Fault Refusal :=
  s.act (Chip.request link 20 (withoutPayload 20 true ruleClearTrip))

/-- RESTART (R169). -/
def execRestart (link : LinkId) (s : State) : Host.Outcome State Fault Refusal :=
  s.act (Chip.request link kindRestart (withoutPayload kindRestart true (ruleRestart link)))

/-- SLEEP (R160). -/
def execSleep (link : LinkId) (s : State) : Host.Outcome State Fault Refusal :=
  s.act (Chip.request link 34 (withoutPayload 34 true ruleSleep))

/-- WAKE (R159). -/
def execWake (link : LinkId) (s : State) : Host.Outcome State Fault Refusal :=
  s.act (Chip.request link 35 (withoutPayload 35 true ruleWake))

/-- SETTLE_EXPIRY (R156, R158). -/
def execSettleExpiry (s : State) : Host.Outcome State Fault Refusal := s.act (Chip.event Chip.settleExpiry)

/-- DORMANCY_EXPIRY (R161). -/
def execDormancyExpiry (s : State) : Host.Outcome State Fault Refusal := s.act (Chip.event Chip.dormancyExpiry)

/-- POWER_ON_RESET (R169): whatever stood before is lost, and the input lines stand at the levels given. -/
def execPowerOnReset (lines : Lines) (s : State) : Host.Outcome State Fault Refusal :=
  s.act fun _ => powerOnReset lines

/-- LINE_RESET_ASSERT (R169). -/
def execLineResetAssert (s : State) : Host.Outcome State Fault Refusal := s.act Chip.assertReset

/-- LINE_RESET_RELEASE (R169, R170). -/
def execLineResetRelease (straps : Vector StrapPins 3) (s : State) : Host.Outcome State Fault Refusal :=
  s.act fun c => c.lineReset straps

end Sys2Proof.Machine
end

