-- ==== Sys2Proof/Machine/Manual.lean ====
section
/-! DEFINITION. Manual control and circulation from the panel: jets, pumps, lamps (R98, R100, R113, R135), the zone mask and
FLUSH_ALL (R122, R127). -/

namespace Sys2Proof.Machine

/-- The gate that the manual requests share: STATE in DORMANT, NOT_OWNER in any mode but MANUAL, then BAD_ARG (R100, R113,
R135). -/
def manualStages (valid : Bool) (act : Chip → Chip) : Rule := fun c =>
  if c.mode.mode = .dormant then c.refuse .state
  else if c.mode.mode ≠ .manual then c.refuse .notOwner
  else if !valid then c.refuse .badArg
  else (act c).taken

/-- JET_SET on the jets of a set (R113). -/
def Chip.setJets (c : Chip) (set : JetSet) (demand : Nat) : Chip :=
  (c.demandWrites (jetsIn set) .panel (min 1000 demand)).endEvent

/-- JET_SET (R113). -/
def ruleJetSet (set : JetSet) (demand : Nat) (exact : Bool) : Rule :=
  manualStages (exact && decide (set ≠ 0)) fun c => c.setJets set demand

/-- A pump set that names at least one pump and none beyond P11 (R100). -/
def pumpSetValid (set : PumpSet) : Bool := decide (set ≠ 0) && decide (set.toNat < 4096)

/-- An action on each pump of a set, P0 first (R100). -/
def Chip.onPumps (c : Chip) (set : PumpSet) (act : PumpId → Chip → Chip) : Chip := (c.forEach (pumpsIn set) act).endEvent

/-- PUMP_START (R100). -/
def rulePumpStart (set : PumpSet) (exact : Bool) : Rule :=
  manualStages (exact && pumpSetValid set) fun c => c.onPumps set fun p c => c.intentRun p .panel

/-- PUMP_STOP (R100). -/
def rulePumpStop (set : PumpSet) (exact : Bool) : Rule :=
  manualStages (exact && pumpSetValid set) fun c => c.onPumps set fun p c => c.intentStop p

/-- The policy that a code names (R100, R179). -/
def policyOf (code : Nat) : Option Policy :=
  match code with
  | 0 => some .follow
  | 1 => some .explicit
  | _ => none

/-- PUMP_POLICY (R100). -/
def rulePumpPolicy (set : PumpSet) (code : Nat) (exact : Bool) : Rule :=
  manualStages (exact && pumpSetValid set && (policyOf code).isSome) fun c =>
    match policyOf code with
    | some policy => c.onPumps set fun p c => c.setPolicy p policy
    | none => c

/-- A FAULTED pump cleared: it rests for a full t_rest, and with run demand joins the queue at once (R98). -/
def Chip.clearPump (c : Chip) (p : PumpId) : Chip :=
  let d := c.enterResting p
  (if d.hasRunDemand p then d.startRequest p (d.ownRequester p) else d).endEvent

/-- CLEAR_PUMP (R98). -/
def ruleClearPump (pump : Nat) (exact : Bool) : Rule := fun c =>
  if h : pump < 12 ∧ exact then
    if (c.pumps[pump]).state ≠ .faulted then c.refuse .state
    else if !c.lines.drvOk[pump] then c.refuse .state
    else (c.clearPump ⟨pump, h.1⟩).taken
  else c.refuse .badArg

/-- The level that a request carries for a colour, clamped to 4095 (R135). -/
def lightLevel (red green blue white : Nat) (k : ColourId) : Nat :=
  min 4095 (match k.val with
    | 0 => red
    | 1 => green
    | 2 => blue
    | _ => white)

/-- LIGHT_SET (R135). -/
def ruleLightSet (lums : LumSet) (mask : ChannelMask) (red green blue white fade : Nat) (exact : Bool) : Rule :=
  manualStages (exact && decide (lums ≠ 0) && decide (mask ≠ 0)) fun c =>
    c.fadePanel lums mask (lightLevel red green blue white) fade

/-- ZONE_MASK (R122): a flush may then begin (R123). -/
def ruleZoneMask (mask : ZoneMask) (exact : Bool) : Rule := fun c =>
  if exact then (c.settle { c with circ := { c.circ with mask := mask } }).taken else c.refuse .badArg

/-- FLUSH_ALL (R127). -/
def ruleFlushAll : Rule := fun c =>
  if c.mode.mode ≠ .dormant ∧ c.mode.mode ≠ .standby then c.refuse .state
  else if c.run.cue ≠ .idle ∧ c.run.cue ≠ .cued then c.refuse .state
  else if c.circ.flush.isSome then c.refuse .state
  else match (List.finRange 8).find? c.flushable with
    | none => c.refuse .state
    | some z => (c.settle (c.beginFlush .all z)).taken

/-! ## Meanings -/

/-- JET_SET (R113). -/
def execJetSet (link : LinkId) (jets : JetSet) (demand : Nat) (s : State) : Host.Outcome State Fault Refusal :=
  s.act (Chip.request link 22 (ruleJetSet jets demand true))

/-- PUMP_START (R100). -/
def execPumpStart (link : LinkId) (pumps : PumpSet) (s : State) : Host.Outcome State Fault Refusal :=
  s.act (Chip.request link 23 (rulePumpStart pumps true))

/-- PUMP_STOP (R100). -/
def execPumpStop (link : LinkId) (pumps : PumpSet) (s : State) : Host.Outcome State Fault Refusal :=
  s.act (Chip.request link 24 (rulePumpStop pumps true))

/-- PUMP_POLICY (R100). -/
def execPumpPolicy (link : LinkId) (pumps : PumpSet) (policy : Nat) (s : State) : Host.Outcome State Fault Refusal :=
  s.act (Chip.request link 25 (rulePumpPolicy pumps policy true))

/-- CLEAR_PUMP (R98). -/
def execClearPump (link : LinkId) (pump : Nat) (s : State) : Host.Outcome State Fault Refusal :=
  s.act (Chip.request link 26 (ruleClearPump pump true))

/-- LIGHT_SET (R135). -/
def execLightSet (link : LinkId) (lums : LumSet) (mask : ChannelMask) (red green blue white fade : Nat) (s : State) :
    Host.Outcome State Fault Refusal :=
  s.act (Chip.request link 27 (ruleLightSet lums mask red green blue white fade true))

/-- ZONE_MASK (R122). -/
def execZoneMask (link : LinkId) (mask : ZoneMask) (s : State) : Host.Outcome State Fault Refusal :=
  s.act (Chip.request link 28 (ruleZoneMask mask true))

/-- FLUSH_ALL (R127). -/
def execFlushAll (link : LinkId) (s : State) : Host.Outcome State Fault Refusal :=
  s.act (Chip.request link 29 (withoutPayload 29 true ruleFlushAll))

end Sys2Proof.Machine
end

