-- ==== Sys2Proof/Machine/Music.lean ====
section
/-! DEFINITION. The meanings of AUD's commands: the stream, the gains, the audio frame period and the LOCAL tick of the show
clock (R62 to R76). -/

namespace Sys2Proof.Machine

/-- The periods between two moves of the applied gain (R75). -/
def gainSpacing : Nat := 48

/-- The audio frame period belongs to a millisecond of the local timebase, 48 of them to each (log entry 2), and counts toward
the next move of the applied gain (R75). -/
def Chip.takePeriod (c : Chip) : Chip :=
  let d := if c.framesLeft = 0 then c.advance 1 else c
  { d with framesLeft := d.framesLeft - 1, gainPeriods := min gainSpacing (d.gainPeriods + 1) }

/-- The applied gain moves once 48 audio frame periods have passed since it last moved, and not before (R75). -/
def Chip.gainStep (c : Chip) : Chip :=
  if gainSpacing ≤ c.gainPeriods then { c with gain := c.gain.move, gainPeriods := 0 } else c

/-- One audio frame period: AUD's frame, then, if the show clock took a new value, CUE's bursts and steps (R67, R76). -/
def Chip.audioPeriod (c : Chip) : Chip :=
  let d := c.takePeriod.framePeriod
  if d.clock.value = c.clock.value then d else c.settle d.clockTook

/-- One millisecond of the LOCAL show clock; a saturated clock takes no new value (R76). -/
def Chip.localTick (c : Chip) : Chip :=
  if c.clock.running ∧ c.clock.source = .localTime then
    let d := c.reach (c.clock.stamp + 1)
    let d := { d with clock := { d.clock with value := min clockTop (c.clock.value + 1), stamp := c.clock.stamp + 1 } }
    if d.clock.value = c.clock.value then d else c.settle d.clockTook
  else c

/-- AUDIO (R62 to R65). -/
def execAudio (link : LinkId) (position count : Nat) (frames : List AudioFrame) (s : State) :
    Host.Outcome State Fault Refusal :=
  s.act (Chip.request link 13 (ruleAudio position count frames true))

/-- AUDIO_END (R66). -/
def execAudioEnd (link : LinkId) (position : Nat) (s : State) : Host.Outcome State Fault Refusal :=
  s.act (Chip.request link 14 (ruleAudioEnd position true))

/-- GAIN (R74). -/
def execGain (link : LinkId) (value : Nat) (s : State) : Host.Outcome State Fault Refusal :=
  s.act (Chip.request link 15 (ruleGain value true))

/-- DUCK (R74). -/
def execDuck (link : LinkId) (value : Nat) (s : State) : Host.Outcome State Fault Refusal :=
  s.act (Chip.request link 30 (ruleDuck value true))

/-- AUDIO_FRAME_PERIOD (R67, R73, R76). -/
def execAudioFramePeriod (s : State) : Host.Outcome State Fault Refusal := s.act (Chip.event Chip.audioPeriod)

/-- GAIN_STEP (R75). -/
def execGainStep (s : State) : Host.Outcome State Fault Refusal :=
  s.act (Chip.event Chip.gainStep)

/-- SHOW_CLOCK_TICK (R76). -/
def execShowClockTick (s : State) : Host.Outcome State Fault Refusal := s.act (Chip.event Chip.localTick)

end Sys2Proof.Machine
end

