-- ==== Sys2Proof/Machine/Pages.lean ====
section
/-! DEFINITION. The page requests and the completion of a validation pass (R2, R8 to R13, R18). Each `rule…` is the rule of a
request, for a payload of the right length (`exact`) or not; each `exec…` is the meaning of a command. -/

namespace Sys2Proof.Machine

/-- The three stages in which CUE tests a page request (R2): the page number, the page's state, the other fields. -/
def pageStages (page : Nat) (allowed : PageState → Bool) (valid : Bool) (act : PageId → Rule) : Rule := fun c =>
  if h : page < 4 then
    if !allowed (c.pages[page]).state then c.refuse .state
    else if !valid then c.refuse .badArg
    else act ⟨page, h⟩ c
  else c.refuse .badArg

/-- PAGE_OPEN is allowed on a FREE, READY or INVALID page (R8). -/
def PageState.mayOpen : PageState → Bool
  | .free | .ready | .invalid => true
  | .loading | .checking | .live => false

/-- The writes and PAGE_CLOSE are allowed on a LOADING page (R9 to R11, R13). -/
def PageState.mayWrite : PageState → Bool
  | .loading => true
  | .free | .ready | .invalid | .checking | .live => false

/-- PAGE_FREE is allowed on a FREE, LOADING, READY or INVALID page (R12). -/
def PageState.mayFree : PageState → Bool
  | .free | .loading | .ready | .invalid => true
  | .checking | .live => false

/-- PAGE_OPEN (R8). -/
def rulePageOpen (page : Nat) (exact : Bool) : Rule :=
  pageStages page PageState.mayOpen exact fun k c =>
    (c.updPage k fun _ => { clearedPage with state := .loading }).taken

/-- A run of steps stored from a start index upward (R9). -/
def Page.storeSteps (pg : Page) (start : Nat) (steps : List RawStep) : Page :=
  { pg with steps := Vector.ofFn fun i =>
      if start ≤ i.val then (steps[i.val - start]?).getD pg.steps[i] else pg.steps[i] }

/-- The bounds of R9 on a start index and a count, which READ_STEPS shares (R174). -/
def stepRange (start count : Nat) : Bool :=
  decide (1 ≤ count) && decide (count ≤ 64) && decide (start ≤ 1023) && decide (start + count - 1 ≤ 1023)

/-- STEP_WRITE (R9). -/
def ruleStepWrite (page start count : Nat) (steps : List RawStep) (exact : Bool) : Rule :=
  pageStages page PageState.mayWrite (exact && stepRange start count && decide (steps.length = count)) fun k c =>
    (c.updPage k fun pg => pg.storeSteps start steps).taken

/-- SCENE_WRITE (R10). -/
def ruleSceneWrite (page scene : Nat) (entry : Option Nat) (exact : Bool) : Rule :=
  pageStages page PageState.mayWrite (exact && decide (scene < 16)) fun k c =>
    (c.updPage k fun pg => { pg with scenes := pg.scenes.setIfInBounds scene entry }).taken

/-- SLOT_WRITE (R11). -/
def ruleSlotWrite (page slot : Nat) (value : Slot) (exact : Bool) : Rule :=
  pageStages page PageState.mayWrite (exact && decide (slot < 8)) fun k c =>
    (c.updPage k fun pg => { pg with slots := pg.slots.setIfInBounds slot value }).taken

/-- PAGE_CLOSE: the page enters CHECKING and the reply is owed (R13). -/
def rulePageClose (page : Nat) (exact : Bool) : Rule :=
  pageStages page PageState.mayWrite exact fun k c =>
    (c.updPage k fun pg => { pg with state := .checking }, .owe)

/-- PAGE_FREE: the contents stand (R12). -/
def rulePageFree (page : Nat) (exact : Bool) : Rule :=
  pageStages page PageState.mayFree exact fun k c =>
    (c.updPage k fun pg => { pg with state := .free, fault := none }).taken

/-- The page whose validation pass is in progress, if any (R13). -/
def Chip.checkingPage (c : Chip) : Option PageId :=
  (List.finRange 4).find? fun k => decide ((c.pages[k]).state = .checking)

/-- A page after its validation pass (R13, R17). -/
def Page.checked (pg : Page) : Page :=
  match pg.firstFault with
  | none => { pg with state := .ready, fault := none }
  | some f => { pg with state := .invalid, fault := some f }

/-- The kind byte of PAGE_CLOSE (R179). -/
def kindPageClose : Nat := 5

/-- The owed PAGE_CLOSE reply of a link is produced, whatever the reply queue holds (R13, R172). -/
def Link.answerClose (k : Link) (pg : Page) : Link :=
  if k.owed = some kindPageClose then
    { k with owed := none, replies := k.replies ++ [⟨kindPageClose, .ok, .checked pg.state pg.fault⟩] }
  else k

/-- The validation pass completes (R13). -/
def Chip.completeValidation (c : Chip) : Chip :=
  match c.checkingPage with
  | none => c
  | some k =>
    let pg := (c.pages[k]).checked
    Chip.notify ((c.updPage k fun _ => pg).updLinks fun l => l.answerClose pg) .pageChecked

/-- PAGE_OPEN (R8). -/
def execPageOpen (link : LinkId) (page : Nat) (s : State) : Host.Outcome State Fault Refusal :=
  s.act (Chip.request link 1 (rulePageOpen page true))

/-- STEP_WRITE (R9). -/
def execStepWrite (link : LinkId) (page start count : Nat) (steps : List RawStep) (s : State) :
    Host.Outcome State Fault Refusal :=
  s.act (Chip.request link 2 (ruleStepWrite page start count steps true))

/-- SCENE_WRITE (R10). -/
def execSceneWrite (link : LinkId) (page scene : Nat) (entry : Option Nat) (s : State) :
    Host.Outcome State Fault Refusal :=
  s.act (Chip.request link 3 (ruleSceneWrite page scene entry true))

/-- SLOT_WRITE (R11). -/
def execSlotWrite (link : LinkId) (page slot source sense threshold : Nat) (s : State) :
    Host.Outcome State Fault Refusal :=
  s.act (Chip.request link 4 (ruleSlotWrite page slot ⟨source, sense, threshold⟩ true))

/-- PAGE_CLOSE (R13). -/
def execPageClose (link : LinkId) (page : Nat) (s : State) : Host.Outcome State Fault Refusal :=
  s.act (Chip.request link 5 (rulePageClose page true))

/-- PAGE_FREE (R12). -/
def execPageFree (link : LinkId) (page : Nat) (s : State) : Host.Outcome State Fault Refusal :=
  s.act (Chip.request link 6 (rulePageFree page true))

/-- VALIDATION_COMPLETE (R13). -/
def execValidationComplete (s : State) : Host.Outcome State Fault Refusal :=
  s.act (Chip.event Chip.completeValidation)

end Sys2Proof.Machine
end

