-- ==== Sys2Proof/Machine/Reading.lean ====
section
/-! DEFINITION. STATUS and the eight READ requests (R173, R174). -/

namespace Sys2Proof.Machine

/-- What STATUS reports on a link (R173). -/
def Chip.statusData (c : Chip) (l : LinkId) : ReplyData :=
  .status (c.links[l]).notices c.run.lastMark c.mode.causes c.faultedPumps

/-- STATUS: the link's notice set is reported, then emptied (R173). -/
def ruleStatus (link : LinkId) : Rule := fun c =>
  (c.updLink link fun k => { k with notices := [] }, .answer .ok (c.statusData link))

/-- A read: OK and data, and nothing changes (R174). -/
def readOf (data : Chip → ReplyData) : Rule := fun c => (c, .answer .ok (data c))

/-- The fields of the playback record that R60 names. -/
def Playback.report (a : Playback) : PlaybackReport := ⟨a.state, a.music, a.p, a.p0, a.endAt, a.held, a.r⟩

/-- The fields of the show clock record that R76 names. -/
def ShowClock.report (k : ShowClock) : ClockReport := ⟨k.value, k.source, k.running⟩

/-- The fields of a pump record that R79 names. -/
def Pump.report (q : Pump) : PumpReport :=
  ⟨q.state, q.intent, q.policy, q.stopPending, q.lastGrant, q.stateEntry, q.idleExpiry, q.faultCause, q.target, q.setpoint⟩

/-- The fields of the circulation record that R120 names. -/
def Circulation.report (k : Circulation) : CirculationReport := ⟨k.debt, k.periodTimer, k.pointer, k.mask, k.flush⟩

/-- READ_SHOW (R174). -/
def ruleReadShow : Rule := readOf fun c =>
  .readShow c.run c.image c.playback.report c.playback.fill c.gain c.clock.report

/-- READ_PUMPS (R174). -/
def ruleReadPumps : Rule := readOf fun c => .readPumps (c.pumps.map Pump.report) c.queue c.history

/-- READ_JETS (R174). -/
def ruleReadJets : Rule := readOf fun c => .readJets c.jets c.limits.jets

/-- The four channel records of a luminaire in a layer (R131). -/
def fadesOf (layer : Vector Fade 128) (l : LumId) : Vector Fade 4 := Vector.ofFn fun k => layer[channelOf l k]

/-- READ_LAMPS (R174). -/
def ruleReadLamps (luminaire : Nat) (exact : Bool) : Rule := fun c =>
  if h : luminaire < 32 ∧ exact then
    let l : LumId := ⟨luminaire, h.1⟩
    (c, .answer .ok (.readLamps c.lums[l] (fadesOf c.showLayer l) (fadesOf c.panelLayer l) c.outputs))
  else c.refuse .badArg

/-- READ_SITE (R174). -/
def ruleReadSite : Rule := readOf fun c => .readSite c.sense c.circ.report c.mode

/-- READ_LIMITS (R174). -/
def ruleReadLimits (sect : Nat) (exact : Bool) : Rule := fun c =>
  match c.limits.sectionAt sect, exact with
  | some x, true => (c, .answer .ok (.readLimits x c.protection))
  | _, _ => c.refuse .badArg

/-- READ_PAGE (R174). -/
def ruleReadPage (page : Nat) (exact : Bool) : Rule := fun c =>
  if h : page < 4 ∧ exact then
    let pg := c.pages[page]
    (c, .answer .ok (.readPage pg.state pg.scenes pg.slots pg.fault))
  else c.refuse .badArg

/-- READ_STEPS (R174). -/
def ruleReadSteps (page start count : Nat) (exact : Bool) : Rule := fun c =>
  if h : page < 4 ∧ exact ∧ stepRange start count then
    (c, .answer .ok (.readSteps (((c.pages[page]).steps.toList.drop start).take count)))
  else c.refuse .badArg

/-- STATUS (R173). -/
def execStatus (link : LinkId) (s : State) : Host.Outcome State Fault Refusal :=
  s.act (Chip.request link 36 (withoutPayload 36 true (ruleStatus link)))

/-- READ_SHOW (R174). -/
def execReadShow (link : LinkId) (s : State) : Host.Outcome State Fault Refusal :=
  s.act (Chip.request link 37 (withoutPayload 37 true ruleReadShow))

/-- READ_PUMPS (R174). -/
def execReadPumps (link : LinkId) (s : State) : Host.Outcome State Fault Refusal :=
  s.act (Chip.request link 38 (withoutPayload 38 true ruleReadPumps))

/-- READ_JETS (R174). -/
def execReadJets (link : LinkId) (s : State) : Host.Outcome State Fault Refusal :=
  s.act (Chip.request link 39 (withoutPayload 39 true ruleReadJets))

/-- READ_LAMPS (R174). -/
def execReadLamps (link : LinkId) (luminaire : Nat) (s : State) : Host.Outcome State Fault Refusal :=
  s.act (Chip.request link 40 (ruleReadLamps luminaire true))

/-- READ_SITE (R174). -/
def execReadSite (link : LinkId) (s : State) : Host.Outcome State Fault Refusal :=
  s.act (Chip.request link 41 (withoutPayload 41 true ruleReadSite))

/-- READ_LIMITS (R174). -/
def execReadLimits (link : LinkId) (sect : Nat) (s : State) : Host.Outcome State Fault Refusal :=
  s.act (Chip.request link 42 (ruleReadLimits sect true))

/-- READ_PAGE (R174). -/
def execReadPage (link : LinkId) (page : Nat) (s : State) : Host.Outcome State Fault Refusal :=
  s.act (Chip.request link 43 (ruleReadPage page true))

/-- READ_STEPS (R174). -/
def execReadSteps (link : LinkId) (page start count : Nat) (s : State) : Host.Outcome State Fault Refusal :=
  s.act (Chip.request link 44 (ruleReadSteps page start count true))

end Sys2Proof.Machine
end

