-- ==== Sys2Proof/Machine/Sensors.lean ====
section
/-! DEFINITION. SEN: the anemometer gate, the wind ring, gusts and wind factors, the level switches, the emergency stop and
the dusk line (R146 to R152). -/

namespace Sys2Proof.Machine

/-- A line takes a level; the block that reads it acts unless RESET_N is held (R169, log entry 7). -/
def Chip.lineEvent (upd : Lines → Lines) (f : Chip → Chip) (c : Chip) : Chip :=
  Chip.event f { c with lines := upd c.lines }

/-! ## Wind (R146 to R149) -/

/-- The wind sample of a gate (R146). -/
def windSample (pulses scale : Nat) : Nat := min 999 (pulses * scale / 16)

/-- A sample enters the wind ring (R147). -/
def ringEntry (ring : List Nat) (v : Nat) : List Nat :=
  if ring.isEmpty then List.replicate 8 v else ring.drop 1 ++ [v]

/-- The wind factor of a class (R149). -/
def windFactor (w : WindLimit) (v : Nat) : Nat :=
  if v ≤ w.calm then 1000
  else if w.gale ≤ w.calm then w.wMin
  else if w.gale ≤ v then w.wMin
  else 1000 - (v - w.calm) * (1000 - w.wMin) / (w.gale - w.calm)

/-- The four factors (R149). -/
def windFactors (w : Vector WindLimit 4) (v : Nat) : Vector Nat 4 := Vector.ofFn fun k => windFactor w[k] v

/-- A gust onset: the sample is at least the threshold, and the previous one is below it or absent (R148). -/
def gustOnset (threshold v : Nat) (previous : Option Nat) : Bool :=
  decide (threshold ≤ v) && (match previous with | none => true | some u => decide (u < threshold))

/-- The sensing record after the gate closes (R146 to R149). -/
def Sensing.closeGate (n : Sensing) (scale : Nat) (wind : Vector WindLimit 4) : Sensing :=
  let v := windSample n.pulses scale
  let ring := ringEntry n.ring v
  let avg := ring.sum / 8
  { n with
    lastCount := some n.pulses
    pulses := 0
    gateTimer := 0
    ring := ring
    vAvg := avg
    vPeak := ring.foldl max 0
    previous := some v
    factors := windFactors wind avg }

/-- The wind gate closes (R146, R148). -/
def Chip.closeGate (c : Chip) : Chip :=
  let d := c.advance (1000 - c.sense.gateTimer)
  let onset := gustOnset c.limits.site.gust (windSample c.sense.pulses c.limits.site.windScale) c.sense.previous
  let d := { d with sense := d.sense.closeGate c.limits.site.windScale c.limits.wind }
  if onset then c.settle ((d.notify .gust).gustToShow) else d

/-- A pulse of the anemometer; the count stops at 65,535 (R146). -/
def Chip.pulse (c : Chip) : Chip :=
  { c with sense := { c.sense with pulses := min 65535 (c.sense.pulses + 1) } }

/-! ## Level switches (R150) -/

/-- The level that a switch input stands at. -/
def lineLevel (n : Lines) : LevelSwitch → Bool
  | .lowWarn => n.lowWarn
  | .lowTrip => n.lowTrip

/-- A switch input takes a level. -/
def withLineLevel (n : Lines) (which : LevelSwitch) (v : Bool) : Lines :=
  match which with
  | .lowWarn => { n with lowWarn := v }
  | .lowTrip => { n with lowTrip := v }

/-- The debounced record of a switch (R145). -/
def Sensing.switch (n : Sensing) : LevelSwitch → Debounced
  | .lowWarn => n.lowWarn
  | .lowTrip => n.lowTrip

/-- Rewrites the debounced record of a switch. -/
def Sensing.setSwitch (n : Sensing) (which : LevelSwitch) (v : Debounced) : Sensing :=
  match which with
  | .lowWarn => { n with lowWarn := v }
  | .lowTrip => { n with lowTrip := v }

/-- LEVEL from the two debounced states (R150). -/
def levelOfSwitches (lowTrip lowWarn : Bool) : Nat := if lowTrip then 2 else if lowWarn then 1 else 0

/-- The time a switch input must hold its level, in milliseconds (R150). -/
def levelHold : Nat := 2000

/-- The time the DUSK line must hold its level, in milliseconds (R152). -/
def duskHold : Nat := 10000

/-- A switch input takes a level: a change restarts the debounce (R150). -/
def Chip.levelInput (which : LevelSwitch) (v : Bool) (c : Chip) : Chip :=
  if lineLevel c.lines which = v then c
  else Chip.lineEvent (fun n => withLineLevel n which v)
    (fun c => { c with sense := c.sense.setSwitch which { c.sense.switch which with since := c.now } }) c

/-- The debounced state of a switch takes the level its input has held, and LEVEL is formed again; LEVEL becoming 2 trips the
fountain (R150, R166). -/
def Chip.levelExpiry (which : LevelSwitch) (c : Chip) : Chip :=
  if lineLevel c.lines which = (c.sense.switch which).state then c
  else
    let d := c.reach ((c.sense.switch which).since + levelHold)
    let n := d.sense.setSwitch which { d.sense.switch which with state := lineLevel c.lines which }
    let level := levelOfSwitches n.lowTrip.state n.lowWarn.state
    let d := { d with sense := { n with level := level } }
    if level = 2 ∧ c.sense.level ≠ 2 then d.tripCause .level else d

/-! ## Emergency stop and dusk (R151, R152) -/

/-- E_STOP goes from CLEAR to ASSERTED (R151). -/
def Chip.stopPressed (c : Chip) : Chip :=
  if c.lines.eStop then c
  else Chip.lineEvent (fun n => { n with eStop := true })
    (fun c => Chip.tripCause { c with sense := { c.sense with eStop := true } } .eStop) c

/-- E_STOP goes from ASSERTED to CLEAR (R151). -/
def Chip.stopReleased (c : Chip) : Chip :=
  if c.lines.eStop then
    Chip.lineEvent (fun n => { n with eStop := false }) (fun c => { c with sense := { c.sense with eStop := false } }) c
  else c

/-- The DUSK line takes a level (R152). -/
def Chip.duskInput (v : Bool) (c : Chip) : Chip :=
  if c.lines.dusk = v then c
  else Chip.lineEvent (fun n => { n with dusk := v })
    (fun c => { c with sense := { c.sense with dusk := { c.sense.dusk with since := c.now } } }) c

/-- The DUSK state takes the level the line has held (R152). -/
def Chip.duskExpiry (c : Chip) : Chip :=
  if c.lines.dusk = c.sense.dusk.state then c
  else
    let d := c.reach (c.sense.dusk.since + duskHold)
    { d with sense := { d.sense with dusk := { d.sense.dusk with state := c.lines.dusk } } }

/-! ## Meanings -/

/-- ANEMOMETER_PULSE (R146). -/
def execAnemometerPulse (s : State) : Host.Outcome State Fault Refusal := s.act (Chip.event Chip.pulse)

/-- WIND_GATE_CLOSE (R146 to R149). -/
def execWindGateClose (s : State) : Host.Outcome State Fault Refusal := s.act (Chip.event Chip.closeGate)

/-- LEVEL_INPUT_CHANGE (R150). -/
def execLevelInputChange (which : LevelSwitch) (asserted : Bool) (s : State) : Host.Outcome State Fault Refusal :=
  s.act (Chip.levelInput which asserted)

/-- LEVEL_DEBOUNCE_EXPIRY (R150). -/
def execLevelDebounceExpiry (which : LevelSwitch) (s : State) : Host.Outcome State Fault Refusal :=
  s.act (Chip.event (Chip.levelExpiry which))

/-- E_STOP_ASSERT (R151). -/
def execEStopAssert (s : State) : Host.Outcome State Fault Refusal := s.act Chip.stopPressed

/-- E_STOP_RELEASE (R151). -/
def execEStopRelease (s : State) : Host.Outcome State Fault Refusal := s.act Chip.stopReleased

/-- DUSK_INPUT_CHANGE (R152). -/
def execDuskInputChange (high : Bool) (s : State) : Host.Outcome State Fault Refusal := s.act (Chip.duskInput high)

/-- DUSK_DEBOUNCE_EXPIRY (R152). -/
def execDuskDebounceExpiry (s : State) : Host.Outcome State Fault Refusal := s.act (Chip.event Chip.duskExpiry)

end Sys2Proof.Machine
end

