-- ==== Sys2Proof/Machine/Table.lean ====
section
/-! DEFINITION. The limit table and its protection (R175 to R177). -/

namespace Sys2Proof.Machine

/-- A write that the state of the jets or pumps forbids (R177 test 5, R99, R105). -/
def Chip.limitConflict (c : Chip) : LimitSection → Bool
  | .jets es => (List.finRange 48).any fun j =>
      decide ((c.jets[j]).state ≠ .closed) &&
        (decide ((es[j]).pump ≠ (c.limits.jets[j]).pump) || decide ((es[j]).zone ≠ (c.limits.jets[j]).zone))
  | .pumps es => (List.finRange 12).any fun p =>
      (c.pumps[p]).state.up && (c.limits.pumps[p]).inService && !(es[p]).inService
  | .site _ | .wind _ | .lums _ => false

/-- A pump taken out of service (R99). -/
def Chip.outOfService (c : Chip) (p : PumpId) : Chip := (c.dequeue p).enterState p .outOfService none

/-- The change of a pump's in-service entry from `was`, once the new entries are in force (R99). -/
def Chip.changeService (was : Vector PumpLimit 12) (p : PumpId) (c : Chip) : Chip :=
  match (was[p]).inService, (c.limits.pumps[p]).inService with
  | true, false => c.outOfService p
  | false, true => c.enterStopped p
  | true, true | false, false => c

/-- A section written whole, with what takes effect at once (R177, R87, R99, R149). -/
def Chip.writeSection (c : Chip) : LimitSection → Chip
  | .jets es => Chip.endEvent { c with limits := { c.limits with jets := es } }
  | .pumps es =>
    let d := { c with limits := { c.limits with pumps := es } }
    (d.forEach (List.finRange 12) (Chip.changeService c.limits.pumps)).endEvent
  | .site e => Chip.endEvent { c with limits := { c.limits with site := e } }
  | .wind es => Chip.endEvent
      { c with limits := { c.limits with wind := es }, sense := { c.sense with factors := windFactors es c.sense.vAvg } }
  | .lums es => Chip.endEvent { c with limits := { c.limits with lums := es } }

/-- The protection level and the mode let a section be written (R177 tests 1 and 2). -/
def Chip.tableGuard (c : Chip) : Option ReplyCode :=
  match c.protection with
  | .locked => some .locked
  | .guarded =>
    match c.mode.mode with
    | .showMode | .manual => some .state
    | .dormant | .settling | .standby | .tripped => none
  | .opened => none

/-- LIMIT_WRITE (R177). -/
def ruleLimitWrite (sect : Nat) (entries : List Byte) : Rule := fun c =>
  match c.tableGuard with
  | some code => c.refuse code
  | none =>
    match sectionOfBytes sect entries with
    | none => c.refuse .badArg
    | some x => if c.limitConflict x then c.refuse .state else (c.settle (c.writeSection x)).taken

/-- COMMISSION (R176). -/
def ruleCommission (code : Nat) (exact : Bool) : Rule := fun c =>
  if code = 0 ∨ 65535 < code ∨ !exact then c.refuse .badArg
  else match c.protection with
    | .opened => Chip.taken { c with siteCode := some code, protection := .locked }
    | .guarded => if c.siteCode = some code then Chip.taken { c with protection := .locked } else c.refuse .codeMismatch
    | .locked => if c.siteCode = some code then c.taken else c.refuse .codeMismatch

/-- RELAX (R176). -/
def ruleRelax (code : Nat) (exact : Bool) : Rule := fun c =>
  if code = 0 ∨ 65535 < code ∨ !exact then c.refuse .badArg
  else match c.protection with
    | .opened | .guarded => c.refuse .codeMismatch
    | .locked => if c.siteCode = some code then Chip.taken { c with protection := .guarded } else c.refuse .codeMismatch

/-- LIMIT_WRITE (R177). -/
def execLimitWrite (link : LinkId) (sect : Nat) (entries : List Byte) (s : State) : Host.Outcome State Fault Refusal :=
  s.act (Chip.request link 31 (ruleLimitWrite sect entries))

/-- COMMISSION (R176). -/
def execCommission (link : LinkId) (code : Nat) (s : State) : Host.Outcome State Fault Refusal :=
  s.act (Chip.request link 32 (ruleCommission code true))

/-- RELAX (R176). -/
def execRelax (link : LinkId) (code : Nat) (s : State) : Host.Outcome State Fault Refusal :=
  s.act (Chip.request link 33 (ruleRelax code true))

end Sys2Proof.Machine
end

