-- ==== Sys2Proof/Machine/Frames.lean ====
section
/-! DEFINITION. LNK: the assembly of frames, the CRC, the payload of each request, and the sending of replies (R170 to R172,
R179). -/

namespace Sys2Proof.Machine

/-! ## CRC (R171) -/

/-- One bit of the CRC: a shift, with the generator x^16 + x^12 + x^5 + 1 added when a one leaves (R171). -/
def crcBit (r : BitVec 16) : BitVec 16 := if r.msb then (r <<< 1) ^^^ 0x1021#16 else r <<< 1

/-- One byte of the CRC, most significant bit first (R171). -/
def crcByte (r : BitVec 16) (b : Byte) : BitVec 16 :=
  (List.range 8).foldl (fun r _ => crcBit r) (r ^^^ (b.setWidth 16 <<< 8))

/-- The CRC of a run of bytes, from all ones, without final inversion (R171). -/
def crcOf (bytes : List Byte) : BitVec 16 := bytes.foldl crcByte 0xFFFF#16

/-- The CRC of a frame: over kind, length and payload (R171). -/
def frameCrc (kind : Byte) (payload : List Byte) : BitVec 16 :=
  crcOf (kind :: BitVec.ofNat 8 (payload.length / 256) :: BitVec.ofNat 8 payload.length :: payload)

/-- The largest payload of a frame (R171). -/
def largestPayload : Nat := 1040

/-! ## Payloads (R179) -/

/-- A rule over the page that a payload's first byte names; without that byte the first stage of R2 fails. -/
def onPage (payload : List Byte) (rule : Nat → Rule) : Rule :=
  if payload.isEmpty then fun c => c.refuse .badArg else rule (beAt payload 0 1)

/-- A start index of a payload, hexadecimal FFFF for EMPTY (R179). -/
def sceneEntry (n : Nat) : Option Nat := if n = 65535 then none else some n

/-- A scene of HOLD_SET, hexadecimal FF for NONE (R179). -/
def holdScene (n : Nat) : Option Nat := if n = 255 then none else some n

/-- The rule of the request that a kind byte names, on its payload read by R179. A kind that names no request never comes
here (R172). -/
def ruleOf (link : LinkId) (kind : Nat) (b : List Byte) : Rule :=
  let len := b.length
  match kind with
  | 1 => onPage b fun page => rulePageOpen page (len == 1)
  | 2 => onPage b fun page =>
      ruleStepWrite page (beAt b 1 2) (beAt b 3 1) (stepsOfBytes (beAt b 3 1) (b.drop 4)) (len == 4 + 16 * beAt b 3 1)
  | 3 => onPage b fun page => ruleSceneWrite page (beAt b 1 1) (sceneEntry (beAt b 2 2)) (len == 4)
  | 4 => onPage b fun page => ruleSlotWrite page (beAt b 1 1) ⟨beAt b 2 1, beAt b 3 1, beAt b 4 2⟩ (len == 6)
  | 5 => onPage b fun page => rulePageClose page (len == 1)
  | 6 => onPage b fun page => rulePageFree page (len == 1)
  | 7 => ruleCue (beAt b 0 1) (beAt b 1 1 != 0) (beAt b 2 4) (len == 6)
  | 8 => withoutPayload 8 (len == 0) ruleUncue
  | 9 => withoutPayload 9 (len == 0) ruleStart
  | 10 => withoutPayload 10 (len == 0) rulePause
  | 11 => withoutPayload 11 (len == 0) ruleContinue
  | 12 => ruleHoldSet (holdScene (beAt b 0 1)) (len == 1)
  | 13 => ruleAudio (beAt b 0 4) (beAt b 4 2) (framesOfBytes (beAt b 4 2) (b.drop 6)) (len == 6 + 4 * beAt b 4 2)
  | 14 => ruleAudioEnd (beAt b 0 4) (len == 4)
  | 15 => ruleGain (beAt b 0 2) (len == 2)
  | 16 => withoutPayload 16 (len == 0) ruleStop
  | 17 => withoutPayload 17 (len == 0) ruleTake
  | 18 => withoutPayload 18 (len == 0) ruleRelease
  | 19 => withoutPayload 19 (len == 0) ruleTrip
  | 20 => withoutPayload 20 (len == 0) ruleClearTrip
  | 21 => withoutPayload kindRestart (len == 0) (ruleRestart link)
  | 22 => ruleJetSet (BitVec.ofNat 48 (setAt b 0 6)) (beAt b 6 2) (len == 8)
  | 23 => rulePumpStart (BitVec.ofNat 16 (setAt b 0 2)) (len == 2)
  | 24 => rulePumpStop (BitVec.ofNat 16 (setAt b 0 2)) (len == 2)
  | 25 => rulePumpPolicy (BitVec.ofNat 16 (setAt b 0 2)) (beAt b 2 1) (len == 3)
  | 26 => ruleClearPump (beAt b 0 1) (len == 1)
  | 27 => ruleLightSet (BitVec.ofNat 32 (setAt b 0 4)) (BitVec.ofNat 4 (beAt b 4 1)) (beAt b 5 2) (beAt b 7 2)
      (beAt b 9 2) (beAt b 11 2) (beAt b 13 2) (len == 15)
  | 28 => ruleZoneMask (BitVec.ofNat 8 (beAt b 0 1)) (len == 1)
  | 29 => withoutPayload 29 (len == 0) ruleFlushAll
  | 30 => ruleDuck (beAt b 0 2) (len == 2)
  | 31 => if len == 0 then ruleLimitWrite 255 [] else ruleLimitWrite (beAt b 0 1) (b.drop 1)
  | 32 => ruleCommission (beAt b 0 2) (len == 2)
  | 33 => ruleRelax (beAt b 0 2) (len == 2)
  | 34 => withoutPayload 34 (len == 0) ruleSleep
  | 35 => withoutPayload 35 (len == 0) ruleWake
  | 36 => withoutPayload 36 (len == 0) (ruleStatus link)
  | 37 => withoutPayload 37 (len == 0) ruleReadShow
  | 38 => withoutPayload 38 (len == 0) ruleReadPumps
  | 39 => withoutPayload 39 (len == 0) ruleReadJets
  | 40 => ruleReadLamps (beAt b 0 1) (len == 1)
  | 41 => withoutPayload 41 (len == 0) ruleReadSite
  | 42 => ruleReadLimits (beAt b 0 1) (len == 1)
  | 43 => ruleReadPage (beAt b 0 1) (len == 1)
  | 44 => ruleReadSteps (beAt b 0 1) (beAt b 1 2) (beAt b 3 1) (len == 4)
  | _ => fun c => c.refuse .unknown

/-- A field of `len` bytes, most significant byte first (section 11.7). -/
def beBytes (len n : Nat) : List Byte := (List.range len).map fun i => BitVec.ofNat 8 (n / 256 ^ (len - 1 - i))

/-- A set, or a stored step, of `len` bytes: its least significant byte first (R178). -/
def setBytes (len n : Nat) : List Byte := (List.range len).map fun i => BitVec.ofNat 8 (n / 256 ^ i)

/-- One audio frame: left sample, then right (section 11.7). -/
def bytesOfFrame (f : AudioFrame) : List Byte := beBytes 2 f.left.toNat ++ beBytes 2 f.right.toNat

/-- The link, the kind byte and the payload of the frame that carries a request; none for a command that is no request
(R179). -/
def requestFrame : Instr → Option (LinkId × Nat × List Byte)
  | .pageOpen l page => some (l, 1, beBytes 1 page)
  | .stepWrite l page start count steps =>
    some (l, 2, beBytes 1 page ++ beBytes 2 start ++ beBytes 1 count ++ steps.flatMap fun raw => setBytes 16 raw.toNat)
  | .sceneWrite l page scene entry => some (l, 3, beBytes 1 page ++ beBytes 1 scene ++ beBytes 2 (entry.getD 65535))
  | .slotWrite l page slot source sense threshold =>
    some (l, 4, beBytes 1 page ++ beBytes 1 slot ++ beBytes 1 source ++ beBytes 1 sense ++ beBytes 2 threshold)
  | .pageClose l page => some (l, 5, beBytes 1 page)
  | .pageFree l page => some (l, 6, beBytes 1 page)
  | .cue l page music origin => some (l, 7, beBytes 1 page ++ beBytes 1 (if music then 1 else 0) ++ beBytes 4 origin)
  | .uncue l => some (l, 8, [])
  | .start l => some (l, 9, [])
  | .pause l => some (l, 10, [])
  | .continueShow l => some (l, 11, [])
  | .holdSet l scene => some (l, 12, beBytes 1 (scene.getD 255))
  | .audio l position count frames => some (l, 13, beBytes 4 position ++ beBytes 2 count ++ frames.flatMap bytesOfFrame)
  | .audioEnd l position => some (l, 14, beBytes 4 position)
  | .gain l value => some (l, 15, beBytes 2 value)
  | .stop l => some (l, 16, [])
  | .take l => some (l, 17, [])
  | .release l => some (l, 18, [])
  | .trip l => some (l, 19, [])
  | .clearTrip l => some (l, 20, [])
  | .restart l => some (l, 21, [])
  | .jetSet l jets demand => some (l, 22, setBytes 6 jets.toNat ++ beBytes 2 demand)
  | .pumpStart l pumps => some (l, 23, setBytes 2 pumps.toNat)
  | .pumpStop l pumps => some (l, 24, setBytes 2 pumps.toNat)
  | .pumpPolicy l pumps policy => some (l, 25, setBytes 2 pumps.toNat ++ beBytes 1 policy)
  | .clearPump l pump => some (l, 26, beBytes 1 pump)
  | .lightSet l lums mask red green blue white fade =>
    some (l, 27, setBytes 4 lums.toNat ++ beBytes 1 mask.toNat ++ beBytes 2 red ++ beBytes 2 green ++ beBytes 2 blue ++
      beBytes 2 white ++ beBytes 2 fade)
  | .zoneMask l mask => some (l, 28, beBytes 1 mask.toNat)
  | .flushAll l => some (l, 29, [])
  | .duck l value => some (l, 30, beBytes 2 value)
  | .limitWrite l sect entries => some (l, 31, beBytes 1 sect ++ entries)
  | .commission l code => some (l, 32, beBytes 2 code)
  | .relax l code => some (l, 33, beBytes 2 code)
  | .sleep l => some (l, 34, [])
  | .wake l => some (l, 35, [])
  | .status l => some (l, 36, [])
  | .readShow l => some (l, 37, [])
  | .readPumps l => some (l, 38, [])
  | .readJets l => some (l, 39, [])
  | .readLamps l luminaire => some (l, 40, beBytes 1 luminaire)
  | .readSite l => some (l, 41, [])
  | .readLimits l sect => some (l, 42, beBytes 1 sect)
  | .readPage l page => some (l, 43, beBytes 1 page)
  | .readSteps l page start count => some (l, 44, beBytes 1 page ++ beBytes 2 start ++ beBytes 1 count)
  | .validationComplete | .frameReceived _ _ _ _ | .frameLengthFault _ _ _ | .frameGapTimeout _ _ | .discardIdleEnd _
  | .replyFrameSent _ | .powerOnReset _ | .lineResetAssert | .lineResetRelease _ | .showClockTick | .audioFramePeriod
  | .gainStep | .anemometerPulse | .windGateClose | .levelInputChange _ _ | .levelDebounceExpiry _ | .eStopAssert
  | .eStopRelease | .duskInputChange _ | .duskDebounceExpiry | .hydraulicUpdate | .queueTimingExpiry | .pressOkRise _ _
  | .primeMinExpiry _ | .primeTimeout _ | .runMinExpiry _ | .idleExpiry _ | .restEnd _ | .drvOkFall _ _
  | .flushPeriodExpiry | .flushEnd | .flushAllZoneDone | .flushStall | .settleExpiry | .dormancyExpiry | .restoreTimeout
  | .lampFrame | .startByteReceived _ => none

/-! ## The receive state (R171) -/

/-- The receive state of a link. -/
def Chip.setReceive (c : Chip) (l : LinkId) (state : Receive) (discarding : Bool) : Chip :=
  c.updLink l fun k => { k with receive := state, discarding := discarding }

/-- A link is assembling a frame, and not discarding one that is too long. -/
def Chip.assembling (c : Chip) (l : LinkId) : Bool :=
  decide ((c.links[l]).receive = .receiving) && !(c.links[l]).discarding

/-- The start byte (R171). -/
def Chip.startByte (l : LinkId) (c : Chip) : Chip :=
  match (c.links[l]).receive with
  | .hunt => c.setReceive l .receiving false
  | .receiving => c

/-- A length beyond 1,040: BAD_FRAME at once, and characters are discarded (R171). -/
def Chip.overLength (l : LinkId) (kind : Nat) (c : Chip) : Chip :=
  (c.badFrame l kind).setReceive l .receiving true

/-- The last byte of a frame has come (R171, R172). -/
def Chip.frameEnd (l : LinkId) (kind : Byte) (payload : List Byte) (crc : BitVec 16) (c : Chip) : Chip :=
  if !c.assembling l then c
  else if largestPayload < payload.length then c.overLength l kind.toNat
  else
    let d := c.setReceive l .hunt false
    if crc = frameCrc kind payload then Chip.request l kind.toNat (ruleOf l kind.toNat payload) d
    else d.badFrame l kind.toNat

/-- A length field beyond 1,040 (R171). -/
def Chip.lengthFault (l : LinkId) (kind : Byte) (length : Nat) (c : Chip) : Chip :=
  if c.assembling l && decide (largestPayload < length) then c.overLength l kind.toNat else c

/-- 1 ms in RECEIVING without a character: the frame is truncated; kind 0 if its kind had not come (R171). -/
def Chip.gap (l : LinkId) (kind : Option Byte) (c : Chip) : Chip :=
  if c.assembling l then
    (c.badFrame l (match kind with | some k => k.toNat | none => 0)).setReceive l .hunt false
  else c

/-- The line has been idle for 1 ms after an over-length frame (R171). -/
def Chip.discardOver (l : LinkId) (c : Chip) : Chip :=
  if (c.links[l]).discarding then c.setReceive l .hunt false else c

/-- The oldest reply frame of a link has been sent (R172). -/
def Chip.replySent (l : LinkId) (c : Chip) : Chip :=
  match (c.links[l]).replies with
  | [] => c
  | r :: rest => c.updLink l fun k => { k with replies := rest, sent := [r] }

/-! ## Meanings -/

/-- FRAME_RECEIVED (R171, R172). -/
def execFrameReceived (link : LinkId) (kind : Byte) (payload : List Byte) (crc : BitVec 16) (s : State) :
    Host.Outcome State Fault Refusal :=
  s.act (Chip.event (Chip.frameEnd link kind payload crc))

/-- FRAME_LENGTH_FAULT (R171). -/
def execFrameLengthFault (link : LinkId) (kind : Byte) (length : Nat) (s : State) : Host.Outcome State Fault Refusal :=
  s.act (Chip.event (Chip.lengthFault link kind length))

/-- FRAME_GAP_TIMEOUT (R171). -/
def execFrameGapTimeout (link : LinkId) (kind : Option Byte) (s : State) : Host.Outcome State Fault Refusal :=
  s.act (Chip.event (Chip.gap link kind))

/-- DISCARD_IDLE_END (R171). -/
def execDiscardIdleEnd (link : LinkId) (s : State) : Host.Outcome State Fault Refusal :=
  s.act (Chip.event (Chip.discardOver link))

/-- REPLY_FRAME_SENT (R172). -/
def execReplyFrameSent (link : LinkId) (s : State) : Host.Outcome State Fault Refusal :=
  s.act (Chip.event (Chip.replySent link))

/-- START_BYTE_RECEIVED (R171). -/
def execStartByteReceived (link : LinkId) (s : State) : Host.Outcome State Fault Refusal :=
  s.act (Chip.event (Chip.startByte link))

end Sys2Proof.Machine
end

