-- ==== Sys2Proof/Machine/PumpEvents.lean ====
section
/-! DEFINITION. The events of the pump envelope, the start queue and the hydraulic update (R87 to R97, R101, R114). -/

namespace Sys2Proof.Machine

/-! ## The drive and pressure lines (R81, R89, R97; log entry 3) -/

/-- PRESS_OK of a pump rises: a PRIMING pump past t_prime_min enters RUNNING (R89). -/
def Chip.pressureProven (p : PumpId) (c : Chip) : Chip :=
  if (c.pumps[p]).state = .priming ∧ (c.pumps[p]).primeMinEnd ≤ c.now then c.settle (c.enterRunning p) else c

/-- PRESS_OK of a pump rises, and then stands at a level. -/
def Chip.pressOkRise (p : PumpId) (high : Bool) (c : Chip) : Chip :=
  let d := Chip.event (Chip.pressureProven p) { c with lines := { c.lines with pressOk := c.lines.pressOk.set p true } }
  { d with lines := { d.lines with pressOk := d.lines.pressOk.set p high } }

/-- DRV_OK of a pump falls (R97), and then stands at a level. -/
def Chip.drvOkFall (p : PumpId) (high : Bool) (c : Chip) : Chip :=
  let d := Chip.event (fun c => c.settle (c.watchDrive p)) { c with lines := { c.lines with drvOk := c.lines.drvOk.set p false } }
  { d with lines := { d.lines with drvOk := d.lines.drvOk.set p high } }

/-! ## The timers of a pump -/

/-- t_prime_min passes since the grant: with PRESS_OK high the pump enters RUNNING (R89). -/
def Chip.primeMinExpiry (p : PumpId) (c : Chip) : Chip :=
  if (c.pumps[p]).state = .priming then
    let d := c.reach (c.pumps[p]).primeMinEnd
    if c.lines.pressOk[p] then c.settle (d.enterRunning p) else d
  else c

/-- t_prime_max passes since the grant of a pump still PRIMING (R90). -/
def Chip.primeTimeout (p : PumpId) (c : Chip) : Chip :=
  if (c.pumps[p]).state = .priming then
    c.settle ((c.reach (c.pumps[p]).primeMaxEnd).enterFaulted p .primeTimeout)
  else c

/-- t_run_min passes on a RUNNING pump with a pending stop (R93). -/
def Chip.runMinExpiry (p : PumpId) (c : Chip) : Chip :=
  if (c.pumps[p]).state = .running ∧ (c.pumps[p]).stopPending then
    c.settle ((c.reach (c.pumps[p]).runMinEnd).enterResting p)
  else c

/-- The idle expiry is reached (R95). -/
def Chip.idleReached (p : PumpId) (c : Chip) : Chip :=
  match (c.pumps[p]).idleExpiry with
  | some t => c.settle ((c.reach t).stopRequest p)
  | none => c

/-- t_rest passes (R96). -/
def Chip.restOver (p : PumpId) (c : Chip) : Chip :=
  if (c.pumps[p]).state = .resting then ((c.reach (c.pumps[p]).restEnd).enterStopped p).endEvent else c

/-- A time of R87 is reached: the queue is tested as it now stands (log entry 2). -/
def Chip.queueExpiry (c : Chip) : Chip := c.testQueue

/-- The hydraulic update (R114, R117, R101). -/
def Chip.hydraulicUpdate (c : Chip) : Chip :=
  { (c.advance (20 - c.hydTimer)).hydraulics with hydTimer := 0 }

/-! ## Meanings -/

/-- HYDRAULIC_UPDATE (R114). -/
def execHydraulicUpdate (s : State) : Host.Outcome State Fault Refusal := s.act (Chip.event Chip.hydraulicUpdate)

/-- QUEUE_TIMING_EXPIRY (R87). -/
def execQueueTimingExpiry (s : State) : Host.Outcome State Fault Refusal := s.act (Chip.event Chip.queueExpiry)

/-- PRESS_OK_RISE (R89). -/
def execPressOkRise (pump : PumpId) (high : Bool) (s : State) : Host.Outcome State Fault Refusal :=
  s.act (Chip.pressOkRise pump high)

/-- PRIME_MIN_EXPIRY (R89). -/
def execPrimeMinExpiry (pump : PumpId) (s : State) : Host.Outcome State Fault Refusal :=
  s.act (Chip.event (Chip.primeMinExpiry pump))

/-- PRIME_TIMEOUT (R90). -/
def execPrimeTimeout (pump : PumpId) (s : State) : Host.Outcome State Fault Refusal :=
  s.act (Chip.event (Chip.primeTimeout pump))

/-- RUN_MIN_EXPIRY (R93). -/
def execRunMinExpiry (pump : PumpId) (s : State) : Host.Outcome State Fault Refusal :=
  s.act (Chip.event (Chip.runMinExpiry pump))

/-- IDLE_EXPIRY (R95). -/
def execIdleExpiry (pump : PumpId) (s : State) : Host.Outcome State Fault Refusal :=
  s.act (Chip.event (Chip.idleReached pump))

/-- REST_END (R96). -/
def execRestEnd (pump : PumpId) (s : State) : Host.Outcome State Fault Refusal :=
  s.act (Chip.event (Chip.restOver pump))

/-- DRV_OK_FALL (R97). -/
def execDrvOkFall (pump : PumpId) (high : Bool) (s : State) : Host.Outcome State Fault Refusal :=
  s.act (Chip.drvOkFall pump high)

end Sys2Proof.Machine
end

