-- ==== Sys2Proof/Machine/Timebase.lean ====
section
/-! DEFINITION. What the part does while no command waits (log entries 1 and 8): an event of its own that is due comes next, one
at a time, in an order the manual leaves open; with nothing due one millisecond of the local timebase passes. -/

namespace Sys2Proof.Machine

/-- A command if its event is due. -/
def whenDue (due : Bool) (i : Instr) : List Instr := if due then [i] else []

/-- The moment `t` of the local timebase has been reached. -/
def Chip.passed (c : Chip) (t : Nat) : Bool := decide (t ≤ c.now)

/-- A timer of the mode record has run out; its length is `unit` milliseconds for each of its units. -/
def Chip.timerOver (c : Chip) (unit : Nat) : Option Timer → Bool
  | some t => c.passed (t.start + t.length * unit)
  | none => false

/-- The timers of one pump that have run out (R89, R90, R93, R95, R96). -/
def Chip.duePump (c : Chip) (p : PumpId) : List Instr :=
  let q := c.pumps[p]
  whenDue (decide (q.state = .priming) && c.passed q.primeMinEnd && c.lines.pressOk[p]) (.primeMinExpiry p) ++
    whenDue (decide (q.state = .priming) && c.passed q.primeMaxEnd) (.primeTimeout p) ++
    whenDue (decide (q.state = .running) && q.stopPending && c.passed q.runMinEnd) (.runMinExpiry p) ++
    whenDue (match q.idleExpiry with | some t => c.passed t | none => false) (.idleExpiry p) ++
    whenDue (decide (q.state = .resting) && c.passed q.restEnd) (.restEnd p)

/-- A level switch whose input has held a new level for 2 s (R150). -/
def Chip.dueSwitch (c : Chip) (which : LevelSwitch) : List Instr :=
  whenDue (decide (lineLevel c.lines which ≠ (c.sense.switch which).state) &&
    c.passed ((c.sense.switch which).since + levelHold)) (.levelDebounceExpiry which)

/-- The events of a flush that are due (R124, R125, R128). -/
def Chip.dueFlush (c : Chip) : List Instr :=
  match c.circ.flush with
  | none => []
  | some f =>
    whenDue (decide (f.duration * 1000 ≤ f.openTime)) (match f.mode with | .single => .flushEnd | .all => .flushAllZoneDone) ++
      whenDue (decide (stallLimit ≤ f.dryTime)) .flushStall

/-- AUD's next event in the present millisecond (R67, R75): the move of the applied gain once 48 periods have passed since the
last, before the next of the millisecond's audio frame periods. -/
def Chip.dueAudio (c : Chip) : List Instr :=
  if gainSpacing ≤ c.gainPeriods then [.gainStep] else whenDue (decide (0 < c.framesLeft)) .audioFramePeriod

/-- The changes of the two debounced level states that fall at one moment: no other event comes between them, and either may be
taken first (R150). -/
def Chip.dueLevel (c : Chip) : List Instr :=
  let warn := c.dueSwitch .lowWarn
  let trip := c.dueSwitch .lowTrip
  if warn.isEmpty ∨ trip.isEmpty then warn ++ trip
  else if Config.tripSwitchFirst c.now then trip ++ warn else warn ++ trip

/-- The events of the part's own that are due now, each by itself, but for the changes of LEVEL. -/
def Chip.dueEvents (c : Chip) : List Instr :=
  c.dueAudio ++
    whenDue (c.clock.running && decide (c.clock.source = .localTime) && c.passed (c.clock.stamp + 1)) .showClockTick ++
    whenDue (decide (20 ≤ c.hydTimer)) .hydraulicUpdate ++
    whenDue (decide (25 ≤ c.lampTimer)) .lampFrame ++
    whenDue (decide (1000 ≤ c.sense.gateTimer)) .windGateClose ++
    whenDue (decide (c.circ.period * 1000 ≤ c.circ.periodTimer)) .flushPeriodExpiry ++
    c.dueFlush ++
    (List.finRange 12).flatMap c.duePump ++
    whenDue c.grantable.isSome .queueTimingExpiry ++
    whenDue (decide (c.lines.dusk ≠ c.sense.dusk.state) && c.passed (c.sense.dusk.since + duskHold)) .duskDebounceExpiry ++
    whenDue (c.timerOver 1000 c.mode.settle) .settleExpiry ++
    whenDue (c.unattended && c.timerOver 60000 c.mode.dormancy) .dormancyExpiry ++
    whenDue (decide (c.run.cue = .restoring) &&
      match c.mode.restore with | some t => c.passed (t + restoreTime) | none => false) .restoreTimeout ++
    whenDue (c.checkingPage.isSome && Config.validationCompletes c.now c.framesLeft) .validationComplete ++
    (List.finRange 3).flatMap fun l =>
      whenDue (!(c.links[l]).replies.isEmpty &&
        Config.replyFinishes c.now c.framesLeft l.val (c.links[l]).replies.length) (.replyFrameSent l)

/-- What is due now, in the groups that no other event divides. -/
def Chip.due (c : Chip) : List (List Instr) :=
  (if c.dueLevel.isEmpty then [] else [c.dueLevel]) ++ c.dueEvents.map fun i => [i]

/-- The group that comes next among those due (log entry 8). -/
def nextGroup (now left : Nat) (due : List (List Instr)) : List Instr :=
  due.getD (Config.nextDue now left due % due.length) []

/-- One idle step (log entry 1): one of the events that are due is put in the queue; with nothing due, and while RESET_N is
held, one millisecond passes. -/
def State.idle (s : State) : State :=
  let c := s.chip
  if c.resetHeld ∨ c.due = [] then ⟨c.advance 1, []⟩ else ⟨c, nextGroup c.now c.framesLeft c.due⟩

end Sys2Proof.Machine
end

