-- ==== Sys2Proof/Machine/Dispatch.lean ====
section
/-! DEFINITION. The dispatch: one arm per constructor of Instr, each one call of its meaning. -/

namespace Sys2Proof.Machine

def exec (i : Instr) (s : State) : Host.Outcome State Fault Refusal :=
  match i with
  | .pageOpen link page => Sys2Proof.Machine.execPageOpen link page s
  | .stepWrite link page start count steps => Sys2Proof.Machine.execStepWrite link page start count steps s
  | .sceneWrite link page scene entry => Sys2Proof.Machine.execSceneWrite link page scene entry s
  | .slotWrite link page slot source sense threshold => Sys2Proof.Machine.execSlotWrite link page slot source sense threshold s
  | .pageClose link page => Sys2Proof.Machine.execPageClose link page s
  | .validationComplete => Sys2Proof.Machine.execValidationComplete s
  | .pageFree link page => Sys2Proof.Machine.execPageFree link page s
  | .cue link page music origin => Sys2Proof.Machine.execCue link page music origin s
  | .uncue link => Sys2Proof.Machine.execUncue link s
  | .start link => Sys2Proof.Machine.execStart link s
  | .pause link => Sys2Proof.Machine.execPause link s
  | .continueShow link => Sys2Proof.Machine.execContinueShow link s
  | .holdSet link scene => Sys2Proof.Machine.execHoldSet link scene s
  | .audio link position count frames => Sys2Proof.Machine.execAudio link position count frames s
  | .audioEnd link position => Sys2Proof.Machine.execAudioEnd link position s
  | .gain link value => Sys2Proof.Machine.execGain link value s
  | .duck link value => Sys2Proof.Machine.execDuck link value s
  | .stop link => Sys2Proof.Machine.execStop link s
  | .take link => Sys2Proof.Machine.execTake link s
  | .release link => Sys2Proof.Machine.execRelease link s
  | .trip link => Sys2Proof.Machine.execTrip link s
  | .clearTrip link => Sys2Proof.Machine.execClearTrip link s
  | .restart link => Sys2Proof.Machine.execRestart link s
  | .jetSet link jets demand => Sys2Proof.Machine.execJetSet link jets demand s
  | .pumpStart link pumps => Sys2Proof.Machine.execPumpStart link pumps s
  | .pumpStop link pumps => Sys2Proof.Machine.execPumpStop link pumps s
  | .pumpPolicy link pumps policy => Sys2Proof.Machine.execPumpPolicy link pumps policy s
  | .clearPump link pump => Sys2Proof.Machine.execClearPump link pump s
  | .lightSet link lums mask red green blue white fade => Sys2Proof.Machine.execLightSet link lums mask red green blue white fade s
  | .zoneMask link mask => Sys2Proof.Machine.execZoneMask link mask s
  | .flushAll link => Sys2Proof.Machine.execFlushAll link s
  | .limitWrite link sect entries => Sys2Proof.Machine.execLimitWrite link sect entries s
  | .commission link code => Sys2Proof.Machine.execCommission link code s
  | .relax link code => Sys2Proof.Machine.execRelax link code s
  | .sleep link => Sys2Proof.Machine.execSleep link s
  | .wake link => Sys2Proof.Machine.execWake link s
  | .status link => Sys2Proof.Machine.execStatus link s
  | .readShow link => Sys2Proof.Machine.execReadShow link s
  | .readPumps link => Sys2Proof.Machine.execReadPumps link s
  | .readJets link => Sys2Proof.Machine.execReadJets link s
  | .readLamps link luminaire => Sys2Proof.Machine.execReadLamps link luminaire s
  | .readSite link => Sys2Proof.Machine.execReadSite link s
  | .readLimits link sect => Sys2Proof.Machine.execReadLimits link sect s
  | .readPage link page => Sys2Proof.Machine.execReadPage link page s
  | .readSteps link page start count => Sys2Proof.Machine.execReadSteps link page start count s
  | .frameReceived link kind payload crc => Sys2Proof.Machine.execFrameReceived link kind payload crc s
  | .frameLengthFault link kind length => Sys2Proof.Machine.execFrameLengthFault link kind length s
  | .frameGapTimeout link kind => Sys2Proof.Machine.execFrameGapTimeout link kind s
  | .discardIdleEnd link => Sys2Proof.Machine.execDiscardIdleEnd link s
  | .replyFrameSent link => Sys2Proof.Machine.execReplyFrameSent link s
  | .powerOnReset lines => Sys2Proof.Machine.execPowerOnReset lines s
  | .lineResetAssert => Sys2Proof.Machine.execLineResetAssert s
  | .lineResetRelease straps => Sys2Proof.Machine.execLineResetRelease straps s
  | .showClockTick => Sys2Proof.Machine.execShowClockTick s
  | .audioFramePeriod => Sys2Proof.Machine.execAudioFramePeriod s
  | .gainStep => Sys2Proof.Machine.execGainStep s
  | .anemometerPulse => Sys2Proof.Machine.execAnemometerPulse s
  | .windGateClose => Sys2Proof.Machine.execWindGateClose s
  | .levelInputChange which asserted => Sys2Proof.Machine.execLevelInputChange which asserted s
  | .levelDebounceExpiry which => Sys2Proof.Machine.execLevelDebounceExpiry which s
  | .eStopAssert => Sys2Proof.Machine.execEStopAssert s
  | .eStopRelease => Sys2Proof.Machine.execEStopRelease s
  | .duskInputChange high => Sys2Proof.Machine.execDuskInputChange high s
  | .duskDebounceExpiry => Sys2Proof.Machine.execDuskDebounceExpiry s
  | .hydraulicUpdate => Sys2Proof.Machine.execHydraulicUpdate s
  | .queueTimingExpiry => Sys2Proof.Machine.execQueueTimingExpiry s
  | .pressOkRise pump high => Sys2Proof.Machine.execPressOkRise pump high s
  | .primeMinExpiry pump => Sys2Proof.Machine.execPrimeMinExpiry pump s
  | .primeTimeout pump => Sys2Proof.Machine.execPrimeTimeout pump s
  | .runMinExpiry pump => Sys2Proof.Machine.execRunMinExpiry pump s
  | .idleExpiry pump => Sys2Proof.Machine.execIdleExpiry pump s
  | .restEnd pump => Sys2Proof.Machine.execRestEnd pump s
  | .drvOkFall pump high => Sys2Proof.Machine.execDrvOkFall pump high s
  | .flushPeriodExpiry => Sys2Proof.Machine.execFlushPeriodExpiry s
  | .flushEnd => Sys2Proof.Machine.execFlushEnd s
  | .flushAllZoneDone => Sys2Proof.Machine.execFlushAllZoneDone s
  | .flushStall => Sys2Proof.Machine.execFlushStall s
  | .settleExpiry => Sys2Proof.Machine.execSettleExpiry s
  | .dormancyExpiry => Sys2Proof.Machine.execDormancyExpiry s
  | .restoreTimeout => Sys2Proof.Machine.execRestoreTimeout s
  | .lampFrame => Sys2Proof.Machine.execLampFrame s
  | .startByteReceived link => Sys2Proof.Machine.execStartByteReceived link s

end Sys2Proof.Machine
end

