-- ==== Sys2Proof/Safety.lean ====
section
/-! DEFINITION. What the claims speak of: when LNK hears a request, and the invariants that a safe run keeps, each a
decidable property of the part. -/

namespace Sys2Proof.Machine

/-- A request of this kind on this link reaches its rule: the part is not in reset, fewer than four replies wait, no reply is
owed, and the link's role may make it (R172). -/
abbrev Chip.hears (c : Chip) (l : LinkId) (kind : Nat) : Prop :=
  c.resetHeld = false ∧ (c.links[l]).replies.length < 4 ∧ (c.links[l]).owed = none ∧
    permits (c.links[l]).role kind = true

/-- The command is answered at once on the link, with a code and data, and the part becomes `d`: `exec` gives exactly the
state in which that reply has joined the reply queue of `d` (R172). -/
abbrev Answers (i : Instr) (s : State) (l : LinkId) (kind : Nat) (d : Chip) (code : ReplyCode) (data : ReplyData) : Prop :=
  exec i s = .next { s with chip := d.reply l kind code data }

/-- The command is refused on the link with a code: its reply is the only effect (R172). -/
abbrev Refuses (i : Instr) (s : State) (l : LinkId) (kind : Nat) (code : ReplyCode) : Prop :=
  Answers i s l kind s.chip code .none

/-- What the master of a link finds afterwards: the replies `new` have joined the queue, the notices `raised` stand in the
notice set beside all that stood there, no other notice has joined but those of `may`, and nothing else of the link has
changed (R172, R173). -/
abbrev Link.heard (k m : Link) (new : List Reply) (raised may : List Notice) : Prop :=
  m = { k with replies := k.replies ++ new, notices := m.notices } ∧
  (∀ n ∈ k.notices, n ∈ m.notices) ∧ (∀ n ∈ raised, n ∈ m.notices) ∧
  (∀ n ∈ m.notices, n ∈ k.notices ∨ n ∈ raised ∨ n ∈ may)

/-- The links from `c` to `d`: no reply has joined, and every link has heard the notices `raised`. -/
abbrev Chip.noticed (c d : Chip) (raised may : List Notice) : Prop :=
  ∀ m : LinkId, Link.heard (c.links[m]) (d.links[m]) [] raised may

/-- The links from `c` to `d`: the reply has joined on the link `l`, and every link has heard the notices `raised`. -/
abbrev Chip.answered (c d : Chip) (l : LinkId) (r : Reply) (raised may : List Notice) : Prop :=
  ∀ m : LinkId, Link.heard (c.links[m]) (d.links[m]) (if m = l then [r] else []) raised may

/-- The request is taken: `exec` gives a next state whose part `d` has answered OK on the link, has raised the notices
`raised` on every link and no others but those of `may`, and is as `after` says. -/
abbrev Takes (i : Instr) (s : State) (l : LinkId) (kind : Nat) (raised may : List Notice) (after : Chip → Prop) : Prop :=
  ∃ d : Chip, exec i s = .next { s with chip := d } ∧ s.chip.answered d l ⟨kind, .ok, .none⟩ raised may ∧ after d

/-- The event happens: `exec` gives a next state whose part `d` has raised the notices `raised` on every link and no others
but those of `may`, and is as `after` says. -/
abbrev Becomes (i : Instr) (s : State) (raised may : List Notice) (after : Chip → Prop) : Prop :=
  ∃ d : Chip, exec i s = .next { s with chip := d } ∧ s.chip.noticed d raised may ∧ after d

/-- The pumps, the start queue, the grant history, the jets and the circulation record are the same in both. -/
abbrev Chip.waterSame (c d : Chip) : Prop :=
  d.pumps = c.pumps ∧ d.queue = c.queue ∧ d.joining = c.joining ∧ d.history = c.history ∧ d.jets = c.jets ∧ d.circ = c.circ

/-- A jet that the show holds closed (R29, R40, R44). -/
abbrev shutByShow : Jet := ⟨.closed, .showRun, 0, none, none, 0⟩

/-- A jet that nobody owns, CLOSED with demand 0 (R118, R165). -/
abbrev idleJet : Jet := ⟨.closed, .none, 0, none, none, 0⟩

/-- The show record of a show that has ended: IDLE, without a live page, cursors and due ticks; the counters and the last mark
are kept (R21). -/
abbrev ShowRecord.over (r : ShowRecord) : ShowRecord :=
  ⟨.idle, none, none, none, none, none, r.counters, none, none, r.lastMark, none⟩

/-- Entry into TRIPPED from `c` with one cause gives `d` (R166, R102, R118, R71, R142, R126): no power and no timer; the pumps
that were up rest for a full t_rest, or are FAULTED where the drive is unhealthy; the jets CLOSED; the show aborted, its page
READY, the image left; the audio torn down; both lamp layers at 0 and a zero frame; no flush. -/
abbrev Chip.tripsTo (c d : Chip) (cause : TripCause) : Prop :=
  d = { c with
    mode := ⟨.tripped, .off, none, none, d.mode.flushRunning, none, none, [cause]⟩
    pumps := d.pumps
    queue := [], joining := []
    jets := Vector.replicate 48 idleJet
    run := if c.run.cue = .idle then c.run else c.run.over
    pages := d.pages
    playback := { c.playback with state := .off, buffer := [], endAt := none, r := 0, held := ⟨0, 0⟩ }
    clock := { c.clock with running := false }
    showLayer := d.showLayer, panelLayer := d.panelLayer
    lums := d.lums
    outputs := darkOutputs
    lampLine := some darkOutputs
    circ := d.circ, links := d.links } ∧
  (∀ p : PumpId,
    (d.pumps[p]).intent = .stop ∧ (d.pumps[p]).policy = (c.pumps[p]).policy ∧ (d.pumps[p]).stopPending = false ∧
    (d.pumps[p]).idleExpiry = none ∧ (d.pumps[p]).lastGrant = (c.pumps[p]).lastGrant ∧
    ((c.pumps[p]).state.up = false → (d.pumps[p]).state = (c.pumps[p]).state) ∧
    ((c.pumps[p]).state.up = true →
      (d.pumps[p]).setpoint = 0 ∧
      (c.lines.drvOk[p] = true → (d.pumps[p]).state = .resting ∧
        (d.pumps[p]).restEnd = c.now + (c.limits.pumps[p]).rest * 1000) ∧
      (c.lines.drvOk[p] = false → (d.pumps[p]).state = .faulted ∧ (d.pumps[p]).faultCause = some .drive))) ∧
  (∀ k : PageId, d.pages[k] =
    if c.run.cue ≠ .idle ∧ c.run.livePage = some k then { c.pages[k] with state := .ready } else c.pages[k]) ∧
  (∀ i : Fin 128,
    ((d.showLayer[i]).start, (d.showLayer[i]).target, (d.showLayer[i]).duration) = (0, 0, 0) ∧
    ((d.panelLayer[i]).start, (d.panelLayer[i]).target, (d.panelLayer[i]).duration) = (0, 0, 0)) ∧
  (∀ l : LumId, d.lums[l] = ⟨(c.lums[l]).gate, .showLayer, none⟩) ∧
  d.circ.flush = none ∧ (c.circ.flush = none → d.circ = c.circ) ∧
  (c.run.cue ≠ .idle → ∀ m : LinkId, .showState ∈ (d.links[m]).notices)

/-- The mode and the cue state let a single flush begin (R123). -/
abbrev Chip.mayFlush (c : Chip) : Prop :=
  (c.mode.mode = .dormant ∨ c.mode.mode = .standby) ∧ (c.run.cue = .idle ∨ c.run.cue = .cued)

/-- `z` is the first flushable zone in the cyclic order that starts at `start` itself (R122, R123). -/
abbrev Chip.firstFlushable (c : Chip) (start z : ZoneId) : Prop :=
  ∃ n : Fin 8, z = start + n ∧ c.flushable z = true ∧ ∀ m : Fin 8, m < n → c.flushable (start + m) = false

/-- A single flush of zone `z` has just begun: the pointer on the zone, the flush record, and the demand writes of the zone's
jets (R123). -/
abbrev Chip.singleBegun (d : Chip) (z : ZoneId) : Prop :=
  d.circ.pointer = z ∧ d.mode.flushRunning = true ∧
  (∃ f : Flush, d.circ.flush = some f ∧ (f.mode, f.zone, f.start, f.height, f.duration, f.openTime, f.dryTime) =
    (.single, z, d.now, d.limits.site.flushHeight, d.limits.site.flushDuration, 0, 0)) ∧
  ∀ j : JetId, (d.limits.jets[j]).zone = z →
    (d.jets[j]).owner = .flush ∧ (d.jets[j]).demand = d.limits.site.flushHeight

/-- The tests of a page request (R2): ROLE on a link that is not PROGRAM; then the page number, the page's state, and the
other fields, the first that fails giving the code. -/
abbrev PageTests (i : Instr) (l : LinkId) (kind page : Nat) (allowed : PageState → Bool) (fieldsInRange : Bool) : Prop :=
  ∀ s : State, s.chip.resetHeld = false → (s.chip.links[l]).replies.length < 4 → (s.chip.links[l]).owed = none →
    ((s.chip.links[l]).role ≠ .program → Refuses i s l kind .role) ∧
    ((s.chip.links[l]).role = .program →
      (4 ≤ page → Refuses i s l kind .badArg) ∧
      (∀ h : page < 4,
        (allowed (s.chip.pages[page]).state = false → Refuses i s l kind .state) ∧
        (allowed (s.chip.pages[page]).state = true → fieldsInRange = false → Refuses i s l kind .badArg)))

/-! ## Invariants -/

/-- Each jet's state follows its demand and its pump: CLOSED with demand 0, OPEN exactly on a RUNNING pump, and a WAITING jet
names the first cause of R108 that holds; a jet that is not OPEN has height 0 (R104, R107 to R109). -/
abbrev Chip.jetsFollow (c : Chip) : Prop :=
  ∀ j : JetId,
    (c.jets[j]).state =
        (if (c.jets[j]).demand = 0 then .closed
        else if (c.pumps[c.pumpOf j]).state = .running then .opened else .waiting) ∧
      (c.jets[j]).waitCause = (if (c.jets[j]).state = .waiting then some (c.waitCauseOn (c.pumpOf j)) else none) ∧
      ((c.jets[j]).state ≠ .opened → (c.jets[j]).height = 0)

/-- While the mode is TRIPPED there is no power and none is coming, no pump is up or asked for, every jet is CLOSED, no show,
flush or timer of the mode record stands, the lamps are dark and the audio is silent (R102, R118, R142, R166). -/
abbrev Chip.darkWhileTripped (c : Chip) : Prop :=
  c.mode.mode = .tripped →
    c.mode.power = .off ∧ c.mode.settle = none ∧ c.mode.wake = none ∧ c.mode.dormancy = none ∧ c.mode.restore = none ∧
    c.mode.causes ≠ [] ∧ c.run.cue = .idle ∧ c.circ.flush = none ∧ c.queue = [] ∧ c.joining = [] ∧
    (∀ p : PumpId, (c.pumps[p]).state.up = false) ∧
    (∀ j : JetId, (c.jets[j]).state = .closed ∧ (c.jets[j]).owner = .none ∧ (c.jets[j]).demand = 0) ∧
    c.outputs = darkOutputs ∧ c.lampLine = some darkOutputs ∧
    c.playback.state = .off ∧ c.playback.r = 0 ∧ c.clock.running = false

/-- The optional fields of the show record are present exactly in the cue states that R21, R48 and R155 give, and the page
that is LIVE is the show's (R19). -/
abbrev Chip.showKept (c : Chip) : Prop :=
  (c.run.livePage.isSome ↔ c.run.cue ≠ .idle) ∧
  (∀ k : PageId, (c.pages[k]).state = .live ↔ c.run.livePage = some k) ∧
  (c.run.mainCursor.isSome ↔ c.run.cue ≠ .idle) ∧
  (c.run.mainDue.isSome ↔ c.run.cue ≠ .idle) ∧
  (c.run.cue = .idle → c.run.holdCursor = none) ∧
  (c.run.cue = .holding → c.run.holdCursor.isSome) ∧
  (c.run.holdDue.isSome ↔ c.run.cue = .holding) ∧
  (c.run.shadow.isSome ↔ c.run.cue = .holding) ∧
  (c.run.holdEntry.isSome ↔ c.run.cue = .holding) ∧
  (c.run.pauseCause.isSome ↔ c.run.cue = .paused) ∧
  (c.mode.restore.isSome ↔ c.run.cue = .restoring)

/-- The start queue holds at most one entry for each pump, and only for pumps that are STOPPED or RESTING; no request waits
outside it; the grant history holds at most eight grants (R84, R85). -/
abbrev Chip.queueKept (c : Chip) : Prop :=
  c.joining = [] ∧ (c.queue.map StartEntry.pump).Nodup ∧
  (∀ e ∈ c.queue, (c.pumps[e.pump]).state = .stopped ∨ (c.pumps[e.pump]).state = .resting) ∧
  c.history.length ≤ 8

/-- The reply queue of a link holds at most five replies, four while one is owed; only a PAGE_CLOSE is owed; each notice
stands once; PROGRAM and PANEL are each the role of one link at most (R170, R172, R173). -/
abbrev Chip.linksKept (c : Chip) : Prop :=
  (∀ l : LinkId,
    (c.links[l]).replies.length ≤ 5 ∧ ((c.links[l]).owed ≠ none → (c.links[l]).replies.length ≤ 4) ∧
    ((c.links[l]).owed = none ∨ (c.links[l]).owed = some kindPageClose) ∧ (c.links[l]).notices.Nodup ∧
    ((c.links[l]).discarding = true → (c.links[l]).receive = .receiving)) ∧
  (∀ l m : LinkId, (c.links[l]).role = (c.links[m]).role → (c.links[l]).role = .observer ∨ l = m)

/-- The audio buffer holds at most 32,768 frames, all before the stream end, and is empty in OFF, STARVED and FINISHED; in
PLAYING it holds a frame; in PLAYING and STARVED the play position lies before the stream end; ramp and gains keep their
ranges, and at most 48 periods are counted toward the next move of the gain (R59, R60, R73 to R75). -/
abbrev Chip.audioKept (c : Chip) : Prop :=
  c.playback.fill ≤ bufferSize ∧
  (c.playback.buffer ≠ [] → c.playback.tail ≤ c.playback.streamEnd) ∧
  (c.playback.state = .off ∨ c.playback.state = .starved ∨ c.playback.state = .finished → c.playback.buffer = []) ∧
  (c.playback.state = .playing → c.playback.buffer ≠ []) ∧
  (c.playback.state = .playing ∨ c.playback.state = .starved → c.playback.p < c.playback.streamEnd) ∧
  c.playback.r ≤ 64 ∧ c.gain.master ≤ 256 ∧ c.gain.duck ≤ 256 ∧ c.gain.applied ≤ 256 ∧ c.gainPeriods ≤ gainSpacing

/-- On its AUDIO source the show clock is the play position less the origin in 48ths, and the audio state is the one that
the cue state gives (R60, R70, R76). -/
abbrev Chip.onAudio (c : Chip) : Prop :=
  c.clock.value = c.audioClockValue ∧ c.playback.p0 ≤ c.playback.p ∧
  (c.run.cue = .cued → c.playback.state = .filling ∧ c.playback.p = c.playback.p0) ∧
  (c.run.cue = .running ∨ c.run.cue = .holding → c.playback.state = .playing ∨ c.playback.state = .starved) ∧
  (c.run.cue = .paused ∨ c.run.cue = .restoring → c.playback.state = .held)

/-- The show clock agrees with the cue state and the audio: it runs exactly in RUNNING, HOLDING and ENDING, stands at 0 in
CUED, and follows the play position on its AUDIO source (R60, R70, R76, R77). -/
abbrev Chip.clockKept (c : Chip) : Prop :=
  (c.clock.running = true ↔ c.run.cue = .running ∨ c.run.cue = .holding ∨ c.run.cue = .ending) ∧
  c.clock.value ≤ clockTop ∧
  (c.run.cue = .cued → c.clock.value = 0 ∧ (c.playback.music = true ↔ c.clock.source = .audio)) ∧
  (c.run.cue = .idle ∨ c.run.cue = .ending → c.playback.state = .off) ∧
  (c.run.cue = .ending → c.clock.source = .localTime) ∧
  (c.run.cue ≠ .idle →
    if c.clock.source = .audio then c.onAudio else c.playback.state = .off ∨ c.playback.state = .finished)

/-- Pump records: outside PRIMING and RUNNING the setpoint is 0 and neither a stop is pending nor an idle expiry set; a PRIMING
pump's setpoint is the S_min in force from the latest hydraulic update; a pump that is up has been granted; a fault cause is
present exactly in FAULTED (R79, R90 to R97, R101). -/
abbrev Chip.pumpsKept (c : Chip) : Prop :=
  ∀ p : PumpId,
    ((c.pumps[p]).state.up = false →
      (c.pumps[p]).setpoint = 0 ∧ (c.pumps[p]).idleExpiry = none ∧ (c.pumps[p]).stopPending = false) ∧
    ((c.pumps[p]).state = .priming → (c.pumps[p]).setpoint = c.sMinInForce[p]) ∧
    ((c.pumps[p]).state.up = true → (c.pumps[p]).lastGrant.isSome) ∧
    ((c.pumps[p]).faultCause.isSome ↔ (c.pumps[p]).state = .faulted)

/-- Circulation: the debt lies in 0..8, MOD knows whether a flush runs, and a flush's open and dry times stay in their ranges
(R120, R121, R124, R125, R155). -/
abbrev Chip.circKept (c : Chip) : Prop :=
  c.circ.debt ≤ 8 ∧ c.mode.flushRunning = c.circ.flush.isSome ∧ c.circ.periodTimer ≤ c.circ.period * 1000 ∧
  (∀ f ∈ c.circ.flush, f.openTime ≤ f.duration * 1000 ∧ f.dryTime ≤ stallLimit)

/-- The sensing record agrees with itself: the ring is empty or holds eight samples in 0..999, average, peak, factors and
LEVEL are those of R147, R149 and R150, and outside reset the E_STOP field is the level of its line (R145 to R151). -/
abbrev Chip.sensingKept (c : Chip) : Prop :=
  c.sense.pulses ≤ 65535 ∧ (c.sense.ring.length = 0 ∨ c.sense.ring.length = 8) ∧ (∀ v ∈ c.sense.ring, v ≤ 999) ∧
  c.sense.vAvg = c.sense.ring.sum / 8 ∧ c.sense.vPeak = c.sense.ring.foldl max 0 ∧
  c.sense.factors = windFactors c.limits.wind c.sense.vAvg ∧
  c.sense.level = levelOfSwitches c.sense.lowTrip.state c.sense.lowWarn.state ∧
  (c.resetHeld = false → c.sense.eStop = c.lines.eStop)

/-- The entries of one pump lie in the ranges of R175. -/
abbrev PumpLimit.inRange (k : PumpLimit) : Prop :=
  k.sMin ≤ k.sMax ∧ k.sMax ≤ 1000 ∧ 500 ≤ k.primeMin ∧ k.primeMin ≤ k.primeMax ∧ k.primeMin ≤ 30000 ∧
  k.primeMax ≤ 60000 ∧ 1 ≤ k.runMin ∧ k.runMin ≤ 600 ∧ 1 ≤ k.rest ∧ k.rest ≤ 600 ∧ 1 ≤ k.cycle ∧ k.cycle ≤ 1800 ∧
  k.idle ≤ 600 ∧ 1 ≤ k.rUp ∧ k.rUp ≤ 100 ∧ 1 ≤ k.rDown ∧ k.rDown ≤ 100

/-- The site entries lie in the ranges of R175. -/
abbrev SiteLimit.inRange (k : SiteLimit) : Prop :=
  1 ≤ k.windowGrants ∧ k.windowGrants ≤ 8 ∧ 10 ≤ k.window ∧ k.window ≤ 600 ∧ k.space ≤ 30000 ∧
  (k.settle = 2 ∨ k.settle = 4 ∨ k.settle = 8 ∨ k.settle = 16) ∧ k.dormancy ≤ 240 ∧ k.levelFactor ≤ 1000 ∧
  1 ≤ k.windScale ∧ k.windScale ≤ 255 ∧ 1 ≤ k.gust ∧ k.gust ≤ 999 ∧ 60 ≤ k.period ∧ k.period ≤ 3600 ∧
  1 ≤ k.flushHeight ∧ k.flushHeight ≤ 1000 ∧ 5 ≤ k.flushDuration ∧ k.flushDuration ≤ 600 ∧ k.cap ≤ 524160

/-- The entries of one wind class lie in the ranges of R175. -/
abbrev WindLimit.inRange (k : WindLimit) : Prop := k.calm ≤ 999 ∧ k.gale ≤ 999 ∧ 100 ≤ k.wMin ∧ k.wMin ≤ 1000

/-- Every entry of the limit table lies in the range of R175, and a site code in 1..65535 stands unless the level is OPEN
(R176). -/
abbrev Chip.tableKept (c : Chip) : Prop :=
  (∀ j : JetId, (c.limits.jets[j]).height ≤ 1000) ∧ (∀ p : PumpId, (c.limits.pumps[p]).inRange) ∧
  c.limits.site.inRange ∧ (∀ w : Fin 4, (c.limits.wind[w]).inRange) ∧
  (c.protection = .opened ↔ c.siteCode = none) ∧ (∀ k ∈ c.siteCode, 1 ≤ k ∧ k ≤ 65535)

end Sys2Proof.Machine
end

