-- ==== Sys2Proof/WellFormed.lean ====
section
/-! DEFINITION. The widths that R171 and R179 give the fields of a command: what a frame can carry. -/

namespace Sys2Proof

/-- A field of one byte. -/
def oneByte (n : Nat) : Bool := decide (n < 256)

/-- A field of two bytes. -/
def twoBytes (n : Nat) : Bool := decide (n < 65536)

/-- A field of four bytes. -/
def fourBytes (n : Nat) : Bool := decide (n < 4294967296)

/-- A field that may be absent, below the code that stands for its absence (R179). -/
def below (code : Nat) : Option Nat → Bool
  | none => true
  | some n => decide (n < code)

/-- The fields of a command have the widths the link gives them, and its lists fit a payload of 1,040 bytes (R171, R179).
The command's own rule decides the ranges. -/
def wellFormed : Instr → Bool
  | .pageOpen _ page => oneByte page
  | .stepWrite _ page start count steps => oneByte page && twoBytes start && oneByte count && decide (steps.length ≤ 64)
  | .sceneWrite _ page scene entry => oneByte page && oneByte scene && below 65535 entry
  | .slotWrite _ page slot source sense threshold =>
    oneByte page && oneByte slot && oneByte source && oneByte sense && twoBytes threshold
  | .pageClose _ page => oneByte page
  | .validationComplete => true
  | .pageFree _ page => oneByte page
  | .cue _ page _ origin => oneByte page && fourBytes origin
  | .uncue _ => true
  | .start _ => true
  | .pause _ => true
  | .continueShow _ => true
  | .holdSet _ scene => below 255 scene
  | .audio _ position count frames => fourBytes position && twoBytes count && decide (frames.length ≤ 258)
  | .audioEnd _ position => fourBytes position
  | .gain _ value => twoBytes value
  | .duck _ value => twoBytes value
  | .stop _ => true
  | .take _ => true
  | .release _ => true
  | .trip _ => true
  | .clearTrip _ => true
  | .restart _ => true
  | .jetSet _ _ demand => twoBytes demand
  | .pumpStart _ _ => true
  | .pumpStop _ _ => true
  | .pumpPolicy _ _ policy => oneByte policy
  | .clearPump _ pump => oneByte pump
  | .lightSet _ _ _ red green blue white fade =>
    twoBytes red && twoBytes green && twoBytes blue && twoBytes white && twoBytes fade
  | .zoneMask _ _ => true
  | .flushAll _ => true
  | .limitWrite _ sect entries => oneByte sect && decide (entries.length ≤ 1039)
  | .commission _ code => twoBytes code
  | .relax _ code => twoBytes code
  | .sleep _ => true
  | .wake _ => true
  | .status _ => true
  | .readShow _ => true
  | .readPumps _ => true
  | .readJets _ => true
  | .readLamps _ luminaire => oneByte luminaire
  | .readSite _ => true
  | .readLimits _ sect => oneByte sect
  | .readPage _ page => oneByte page
  | .readSteps _ page start count => oneByte page && twoBytes start && oneByte count
  | .frameReceived _ _ payload _ => decide (payload.length ≤ 1040)
  | .frameLengthFault _ _ length => decide (1040 < length) && twoBytes length
  | .frameGapTimeout _ _ => true
  | .discardIdleEnd _ => true
  | .replyFrameSent _ => true
  | .powerOnReset _ => true
  | .lineResetAssert => true
  | .lineResetRelease _ => true
  | .showClockTick => true
  | .audioFramePeriod => true
  | .gainStep => true
  | .anemometerPulse => true
  | .windGateClose => true
  | .levelInputChange _ _ => true
  | .levelDebounceExpiry _ => true
  | .eStopAssert => true
  | .eStopRelease => true
  | .duskInputChange _ => true
  | .duskDebounceExpiry => true
  | .hydraulicUpdate => true
  | .queueTimingExpiry => true
  | .pressOkRise _ _ => true
  | .primeMinExpiry _ => true
  | .primeTimeout _ => true
  | .runMinExpiry _ => true
  | .idleExpiry _ => true
  | .restEnd _ => true
  | .drvOkFall _ _ => true
  | .flushPeriodExpiry => true
  | .flushEnd => true
  | .flushAllZoneDone => true
  | .flushStall => true
  | .settleExpiry => true
  | .dormancyExpiry => true
  | .restoreTimeout => true
  | .lampFrame => true
  | .startByteReceived _ => true

end Sys2Proof
end

