-- ==== Sys2Proof/Certificates/Slice0/Obligations.lean ====
section
/-! DEFINITION. The statements for the provers: what the numbered rules say a command does, which states it does it in, and
the invariants that every step keeps. -/

open Sys2Proof Sys2Proof.Machine

/-! ## The queue of commands -/

/-- A step takes the command at the front of the queue and runs it with the rest of the queue behind it. On an empty queue
one group of the part's own events that are due is put in the queue, and nothing else happens; with nothing due, and while
RESET_N is held, one millisecond of the local timebase passes. What happens on an empty queue is the model's choice (log entries 1
and 8). -/
def Obligations.StepRunsTheFrontCommand : Prop :=
  (∀ (i : Instr) (s : State) (rest : List Instr),
    step { s with pending := i :: rest } = exec i { s with pending := rest }) ∧
  (∀ s : State, s.pending = [] →
    (s.chip.resetHeld = true ∨ s.chip.due = [] → step s = .next ⟨s.chip.advance 1, []⟩) ∧
    (s.chip.resetHeld = false → s.chip.due ≠ [] → ∃ due ∈ s.chip.due, due ≠ [] ∧ step s = .next ⟨s.chip, due⟩))

/-! ## Links, frames and replies -/

/-- LNK's tests of a request (R170, R172): nothing is received while RESET_N is held; a request is discarded while four replies
wait; then BUSY while a reply is owed; then ROLE where the table does not permit it. -/
def Obligations.LinkTests : Prop :=
  ∀ (i : Instr) (l : LinkId) (kind : Nat) (payload : List Byte), requestFrame i = some (l, kind, payload) → ∀ s : State,
    (s.chip.resetHeld = true → exec i s = .next s) ∧
    (s.chip.resetHeld = false →
      (4 ≤ (s.chip.links[l]).replies.length → exec i s = .next s) ∧
      ((s.chip.links[l]).replies.length < 4 →
        ((s.chip.links[l]).owed ≠ none → Refuses i s l kind .busy) ∧
        ((s.chip.links[l]).owed = none → permits (s.chip.links[l]).role kind = false → Refuses i s l kind .role)))

/-- Every request that LNK does not discard, but for RESTART, is answered at once with one reply that repeats its kind, or is a
PAGE_CLOSE whose reply is then owed; and a reply with a refusal code is its only effect. -/
def Obligations.RequestsAndTheirReplies : Prop :=
  ∀ (i : Instr) (l : LinkId) (kind : Nat) (payload : List Byte), requestFrame i = some (l, kind, payload) →
    kind ≠ kindRestart → ∀ s t : State, s.chip.resetHeld = false → (s.chip.links[l]).replies.length < 4 →
    exec i s = .next t →
    (∃ r : Reply, (t.chip.links[l]).replies = (s.chip.links[l]).replies ++ [r] ∧ r.kind = kind ∧
      (r.code.taken = false → t = { s with chip := s.chip.reply l kind r.code r.data })) ∨
    (kind = kindPageClose ∧ (t.chip.links[l]).owed = some kind ∧
      (t.chip.links[l]).replies = (s.chip.links[l]).replies)

/-- A link's receive state (R171): the start byte begins a frame, a length beyond 1,040 and a gap of 1 ms give
BAD_FRAME, an idle line ends the discarding of characters; a frame that has come whole returns the link to HUNT, and
is answered BAD_FRAME with a wrong CRC and UNKNOWN with a kind that names no request, reaching no block; and the
oldest reply leaves its queue when it has been sent (R172). Two clauses are the model's choice: the field `sent` keeps the one
reply that went out (log entry 12), and a start byte within a frame changes nothing, since the characters of a frame are not in
State (log entry 11). -/
def Obligations.FramesAreAssembled : Prop :=
  (∀ (s : State) (l : LinkId), s.chip.resetHeld = false →
     ((s.chip.links[l]).receive = .hunt →
       exec (.startByteReceived l) s = .next { s with chip := s.chip.setReceive l .receiving false }) ∧
     ((s.chip.links[l]).receive = .receiving → exec (.startByteReceived l) s = .next s) ∧
     (s.chip.assembling l = true → (s.chip.links[l]).replies.length < 4 →
       (∀ (kind : Byte) (length : Nat), 1040 < length →
         exec (.frameLengthFault l kind length) s =
           .next { s with chip := (s.chip.reply l kind.toNat .badFrame .none).setReceive l .receiving true }) ∧
       (∀ kind : Option Byte,
         exec (.frameGapTimeout l kind) s =
           .next { s with chip :=
             (s.chip.reply l (match kind with | some k => k.toNat | none => 0) .badFrame .none).setReceive l .hunt false })) ∧
     (s.chip.assembling l = true → 4 ≤ (s.chip.links[l]).replies.length →
       (∀ (kind : Byte) (length : Nat), 1040 < length →
         exec (.frameLengthFault l kind length) s = .next { s with chip := s.chip.setReceive l .receiving true }) ∧
       (∀ kind : Option Byte,
         exec (.frameGapTimeout l kind) s = .next { s with chip := s.chip.setReceive l .hunt false })) ∧
     ((s.chip.links[l]).discarding = true →
       exec (.discardIdleEnd l) s = .next { s with chip := s.chip.setReceive l .hunt false }) ∧
     (∀ (r : Reply) (rest : List Reply), (s.chip.links[l]).replies = r :: rest →
       exec (.replyFrameSent l) s =
         .next { s with chip := s.chip.updLink l fun k => { k with replies := rest, sent := [r] } })) ∧
  (∀ (s : State) (l : LinkId) (kind : Byte) (payload : List Byte) (crc : BitVec 16),
     s.chip.resetHeld = false → s.chip.assembling l = true → payload.length ≤ 1040 →
     (s.chip.links[l]).replies.length < 4 →
     (crc ≠ frameCrc kind payload →
       exec (.frameReceived l kind payload crc) s =
         .next { s with chip := (s.chip.setReceive l .hunt false).reply l kind.toNat .badFrame .none }) ∧
     (crc = frameCrc kind payload → (s.chip.links[l]).owed = none → kind.toNat = 0 ∨ 45 ≤ kind.toNat →
       exec (.frameReceived l kind payload crc) s =
         .next { s with chip := (s.chip.setReceive l .hunt false).reply l kind.toNat .unknown .none }))

/-- The frame that R179 lays out for a request, received whole with its CRC, does what the request does: no bit of the layout is
dropped. -/
def Obligations.FramesCarryRequests : Prop :=
  ∀ (i : Instr) (l : LinkId) (kind : Nat) (payload : List Byte), requestFrame i = some (l, kind, payload) →
    wellFormed i = true → ∀ s : State, s.chip.resetHeld = false → s.chip.assembling l = true →
    exec (.frameReceived l (BitVec.ofNat 8 kind) payload (frameCrc (BitVec.ofNat 8 kind) payload)) s =
      exec i { s with chip := s.chip.setReceive l .hunt false }

/-- A frame that comes whole, with its CRC, on a link that hears its request, reaches the request's rule (R171, R172): the link is
in HUNT again, and one reply of the frame's kind has joined its reply queue, or the frame was a PAGE_CLOSE whose reply is now
owed, or a RESTART, after which no reply waits; and a frame that carries GAIN has GAIN's own effect, the value clamped to 256
(R74). -/
def Obligations.ReceivedFramesReachTheirRules : Prop :=
  (∀ (i : Instr) (l : LinkId) (kind : Nat) (payload : List Byte), requestFrame i = some (l, kind, payload) →
    wellFormed i = true → ∀ s : State, s.chip.hears l kind → s.chip.assembling l = true →
    ∃ t : State, exec (.frameReceived l (BitVec.ofNat 8 kind) payload (frameCrc (BitVec.ofNat 8 kind) payload)) s = .next t ∧
      t.pending = s.pending ∧ (t.chip.links[l]).receive = .hunt ∧
      (kind ≠ 5 → kind ≠ 21 → (t.chip.links[l]).owed = none ∧
        ∃ r : Reply, (t.chip.links[l]).replies = (s.chip.links[l]).replies ++ [r] ∧ r.kind = kind) ∧
      (kind = 5 →
        ((t.chip.links[l]).owed = some 5 ∧ (t.chip.links[l]).replies = (s.chip.links[l]).replies) ∨
        ((t.chip.links[l]).owed = none ∧
          ∃ r : Reply, (t.chip.links[l]).replies = (s.chip.links[l]).replies ++ [r] ∧ r.kind = 5)) ∧
      (kind = 21 → (t.chip.links[l]).owed = none ∧ (t.chip.links[l]).replies = [])) ∧
  (∀ (s : State) (l : LinkId) (high low : Byte), s.chip.hears l 15 → s.chip.assembling l = true →
    ∃ c : Chip,
      c = { s.chip with
        gain := { s.chip.gain with master := min 256 (high.toNat * 256 + low.toNat) }
        links := s.chip.links.set l { s.chip.links[l] with receive := .hunt, discarding := false } } ∧
      exec (.frameReceived l 15 [high, low] (frameCrc 15 [high, low])) s =
        .next { s with chip := c.reply l 15 .ok .none })

/-! ## The cue store -/

/-- The tests of the six page requests, in their order (R2). -/
def Obligations.PageRequestTests : Prop :=
  ∀ (l : LinkId) (page : Nat),
    PageTests (.pageOpen l page) l 1 page PageState.mayOpen true ∧
    (∀ (start count : Nat) (steps : List RawStep),
      PageTests (.stepWrite l page start count steps) l 2 page PageState.mayWrite
        (stepRange start count && decide (steps.length = count))) ∧
    (∀ (scene : Nat) (entry : Option Nat),
      PageTests (.sceneWrite l page scene entry) l 3 page PageState.mayWrite (decide (scene < 16))) ∧
    (∀ slot source sense threshold : Nat,
      PageTests (.slotWrite l page slot source sense threshold) l 4 page PageState.mayWrite (decide (slot < 8))) ∧
    PageTests (.pageClose l page) l 5 page PageState.mayWrite true ∧
    PageTests (.pageFree l page) l 6 page PageState.mayFree true

/-- PAGE_OPEN clears a FREE, READY or INVALID page into LOADING (R8); PAGE_FREE makes any page but a LIVE or CHECKING
one FREE and drops its fault record, its contents left as they stand (R12). On a LOADING page STEP_WRITE stores its
steps at consecutive indices, all or none (R9); SCENE_WRITE and SLOT_WRITE store one entry as written (R10, R11). The 0 of the
sense and threshold of a slot with source NONE (log entry 5) and of a cleared step's open bytes (log entry 31) are the model's
choice. -/
def Obligations.PageRequestsWriteThePage : Prop :=
  (∀ (s : State) (l : LinkId) (k : PageId),
     (s.chip.hears l 1 →
       ((s.chip.pages[k]).state = .free ∨ (s.chip.pages[k]).state = .ready ∨ (s.chip.pages[k]).state = .invalid →
         Answers (.pageOpen l k) s l 1
           { s.chip with
             pages := s.chip.pages.set k
               (⟨.loading, Vector.replicate 1024 0, Vector.replicate 16 none, Vector.replicate 8 ⟨0, 0, 0⟩, none⟩ : Page) } .ok .none) ∧
       ((s.chip.pages[k]).state = .live ∨ (s.chip.pages[k]).state = .loading ∨ (s.chip.pages[k]).state = .checking →
         Refuses (.pageOpen l k) s l 1 .state)) ∧
     (s.chip.hears l 6 →
       ((s.chip.pages[k]).state ≠ .live → (s.chip.pages[k]).state ≠ .checking →
         Answers (.pageFree l k) s l 6
           { s.chip with pages := s.chip.pages.set k { s.chip.pages[k] with state := .free, fault := none } } .ok .none) ∧
       ((s.chip.pages[k]).state = .live ∨ (s.chip.pages[k]).state = .checking → Refuses (.pageFree l k) s l 6 .state))) ∧
  (∀ (s : State) (l : LinkId) (k : PageId),
     (s.chip.hears l 2 → ∀ (start count : Nat) (steps : List RawStep),
       ((s.chip.pages[k]).state = .loading →
         (1 ≤ count ∧ count ≤ 64 ∧ steps.length = count ∧ start ≤ 1023 ∧ start + count - 1 ≤ 1023 →
           Takes (.stepWrite l k start count steps) s l 2 [] [] fun d =>
             d = { s.chip with pages := d.pages, links := d.links } ∧
             (∀ m : PageId, d.pages[m] =
               if m = k then ({ s.chip.pages[k] with steps := (d.pages[k]).steps } : Page) else s.chip.pages[m]) ∧
             ∀ i : StepIndex, (d.pages[k]).steps[i] =
               if start ≤ i.val then (steps[i.val - start]?).getD (s.chip.pages[k]).steps[i]
               else (s.chip.pages[k]).steps[i]) ∧
         (¬(1 ≤ count ∧ count ≤ 64 ∧ steps.length = count ∧ start ≤ 1023 ∧ start + count - 1 ≤ 1023) →
           Refuses (.stepWrite l k start count steps) s l 2 .badArg)) ∧
       ((s.chip.pages[k]).state ≠ .loading → Refuses (.stepWrite l k start count steps) s l 2 .state)) ∧
     (s.chip.hears l 3 → ∀ (scene : Nat) (entry : Option Nat),
       ((s.chip.pages[k]).state = .loading →
         (∀ h : scene < 16,
           Answers (.sceneWrite l k scene entry) s l 3
             { s.chip with pages :=
               s.chip.pages.set k { s.chip.pages[k] with scenes := (s.chip.pages[k]).scenes.set scene entry } } .ok .none) ∧
         (16 ≤ scene → Refuses (.sceneWrite l k scene entry) s l 3 .badArg)) ∧
       ((s.chip.pages[k]).state ≠ .loading → Refuses (.sceneWrite l k scene entry) s l 3 .state)) ∧
     (s.chip.hears l 4 → ∀ slot source sense threshold : Nat,
       ((s.chip.pages[k]).state = .loading →
         (∀ h : slot < 8,
           Answers (.slotWrite l k slot source sense threshold) s l 4
             { s.chip with
               pages := s.chip.pages.set k
                 ({ s.chip.pages[k] with slots := (s.chip.pages[k]).slots.set slot ⟨source, sense, threshold⟩ } : Page) } .ok .none) ∧
         (8 ≤ slot → Refuses (.slotWrite l k slot source sense threshold) s l 4 .badArg)) ∧
       ((s.chip.pages[k]).state ≠ .loading → Refuses (.slotWrite l k slot source sense threshold) s l 4 .state)))

/-- PAGE_CLOSE puts a LOADING page in CHECKING and its reply is owed; in any other state it is refused and the page is left. At
completion the page is READY without a fault record, or INVALID with the first fault, the owed reply carries both, and
PAGE_CHECKED is noticed on every link (R13). -/
def Obligations.ClosingAPage : Prop :=
  (∀ (s : State) (l : LinkId) (k : PageId), s.chip.hears l 5 →
    ((s.chip.pages[k]).state = .loading →
      exec (.pageClose l k) s = .next { s with chip :=
        { s.chip with
          pages := s.chip.pages.set k { s.chip.pages[k] with state := .checking }
          links := s.chip.links.set l { s.chip.links[l] with owed := some 5 } } }) ∧
    ((s.chip.pages[k]).state ≠ .loading → Refuses (.pageClose l k) s l 5 .state)) ∧
  (∀ (s : State) (k : PageId), s.chip.resetHeld = false → (s.chip.pages[k]).state = .checking →
    (∀ m : PageId, m ≠ k → (s.chip.pages[m]).state ≠ .checking) →
    ∃ c : Chip, exec .validationComplete s = .next { s with chip := c } ∧
      c = { s.chip with pages := c.pages, links := c.links } ∧
      (∀ m : PageId, c.pages[m] =
        if m = k then { s.chip.pages[k] with
          state := if (s.chip.pages[k]).firstFault = none then .ready else .invalid
          fault := (s.chip.pages[k]).firstFault }
        else s.chip.pages[m]) ∧
      (∀ l : LinkId, .pageChecked ∈ (c.links[l]).notices ∧
        ((s.chip.links[l]).owed = some 5 →
          (c.links[l]).owed = none ∧
          (c.links[l]).replies = (s.chip.links[l]).replies ++ [⟨5, .ok, .checked (c.pages[k]).state (c.pages[k]).fault⟩]) ∧
        ((s.chip.links[l]).owed ≠ some 5 →
          (c.links[l]).owed = (s.chip.links[l]).owed ∧ (c.links[l]).replies = (s.chip.links[l]).replies)))

/-- The validation pass (R14): the steps from index 0, then the scenes from S0, then the slots from Q0; the first check that
fails anywhere in this order gives the fault, and a page without one has none. The checks of a step, in their order (R15): a kind
code of 12 to 15; a malformed condition, or one that names a slot with source NONE; an empty set; a counter beyond K3; a scene
beyond S15 or EMPTY; a value out of range, which the level of a LIGHT step cannot be (R178). The check of a scene entry and the
checks of a slot, in their order (R16). -/
def Obligations.TheFirstFaultIsReported : Prop :=
  (∀ (pg : Page) (f : FaultRecord),
    (pg.firstFault = some f ↔
      (∃ i : StepIndex, f.locus = some .step ∧ f.number = some i.val ∧ pg.checkStep pg.steps[i] = some f.reason ∧
        ∀ n : StepIndex, n < i → pg.checkStep pg.steps[n] = none) ∨
      ((∀ n : StepIndex, pg.checkStep pg.steps[n] = none) ∧
        ((∃ i : Fin 16, f.locus = some .scene ∧ f.number = some i.val ∧ checkScene pg.scenes[i] = some f.reason ∧
            ∀ n : Fin 16, n < i → checkScene pg.scenes[n] = none) ∨
          ((∀ n : Fin 16, checkScene pg.scenes[n] = none) ∧
            ∃ i : Fin 8, f.locus = some .slot ∧ f.number = some i.val ∧ checkSlot pg.slots[i] = some f.reason ∧
              ∀ n : Fin 8, n < i → checkSlot pg.slots[n] = none)))) ∧
    (pg.firstFault = none ↔
      (∀ n : StepIndex, pg.checkStep pg.steps[n] = none) ∧ (∀ n : Fin 16, checkScene pg.scenes[n] = none) ∧
      ∀ n : Fin 8, checkSlot pg.slots[n] = none)) ∧
  (∀ (pg : Page) (raw : RawStep),
    (stepKind raw = none ↔ 12 ≤ stepByte raw 0 % 16) ∧
    (stepKind raw = none → pg.checkStep raw = some .badKind) ∧
    (∀ kind : StepKind, stepKind raw = some kind →
      (stepByte raw 1 ≠ 0 → (∀ q : Fin 8, stepByte raw 1 ≠ 16 + q.val ∧ stepByte raw 1 ≠ 32 + q.val) →
        pg.checkStep raw = some .badSlot) ∧
      (∀ q : Fin 8, stepByte raw 1 = 16 + q.val ∨ stepByte raw 1 = 32 + q.val → (pg.slots[q]).source = 0 →
        pg.checkStep raw = some .badSlot) ∧
      (stepByte raw 1 = 0 ∨
          (∃ q : Fin 8, (stepByte raw 1 = 16 + q.val ∨ stepByte raw 1 = 32 + q.val) ∧ (pg.slots[q]).source ≠ 0) →
        pg.checkStep raw = match kind with
          | .jet =>
            if stepJets raw = 0 then some .emptySet else if 1000 < stepWord raw 10 then some .range else none
          | .burst =>
            if stepJets raw = 0 then some .emptySet
            else if stepWord raw 10 = 0 ∨ 1000 < stepWord raw 10 ∨ stepWord raw 12 = 0 then some .range else none
          | .cut => if stepJets raw = 0 then some .emptySet else none
          | .pump =>
            if stepPumps raw = 0 then some .emptySet
            else if 3 < stepByte raw 6 ∨ 4096 ≤ (stepPumps raw).toNat then some .range else none
          | .light => if stepLums raw = 0 ∨ stepMask raw = 0 then some .emptySet else none
          | .loopSet => if 3 < stepByte raw 4 then some .badCounter else none
          | .loop =>
            if 3 < stepByte raw 4 then some .badCounter
            else if (pg.scenes[stepByte raw 5]?).join = none then some .badScene else none
          | .jump => if (pg.scenes[stepByte raw 4]?).join = none then some .badScene else none
          | .empty | .mark | .endShow | .resume => none))) ∧
  (checkScene none = none ∧
    ∀ start : Nat, (start ≤ 1023 → checkScene (some start) = none) ∧ (1024 ≤ start → checkScene (some start) = some .range)) ∧
  (∀ q : Slot,
    (5 ≤ q.source → checkSlot q = some .badSlot) ∧ (q.source = 0 → checkSlot q = none) ∧
    (1 ≤ q.source → q.source ≤ 4 →
      (2 ≤ q.sense → checkSlot q = some .badSlot) ∧
      (q.sense ≤ 1 → (1000 ≤ q.threshold → checkSlot q = some .range) ∧ (q.threshold ≤ 999 → checkSlot q = none))))

/-! ## The show requests -/

/-- CUE: its tests in their order, and what it sets up (R38, R61, R77, R157); a flush may begin as the command ends
(R123), so the water is claimed unchanged only where no debt stands. UNCUE is taken in CUED: the page READY again, the
record IDLE without cursors, the audio OFF with an empty buffer, the clock and the image as they stood; in every other
cue state it is refused with STATE, whatever the mode (R39). -/
def Obligations.CueAndUncue : Prop :=
  (∀ (s : State) (l : LinkId) (music : Bool) (origin : Nat), s.chip.hears l 7 →
     (∀ page : Nat, 4 ≤ page → Refuses (.cue l page music origin) s l 7 .badArg) ∧
     (∀ k : PageId,
       (s.chip.run.cue ≠ .idle → Refuses (.cue l k music origin) s l 7 .state) ∧
       (s.chip.run.cue = .idle →
         (s.chip.mode.mode = .settling ∨ s.chip.mode.mode = .showMode ∨ s.chip.mode.mode = .tripped →
           Refuses (.cue l k music origin) s l 7 .state) ∧
         (s.chip.mode.mode = .standby ∨ s.chip.mode.mode = .manual ∨ s.chip.mode.mode = .dormant →
           ((s.chip.pages[k]).state ≠ .ready → Refuses (.cue l k music origin) s l 7 .state) ∧
           ((s.chip.pages[k]).state = .ready →
             ((s.chip.pages[k]).scenes[0] = none → Refuses (.cue l k music origin) s l 7 .badScene) ∧
             (∀ i : StepIndex, (s.chip.pages[k]).scenes[0] = some i.val →
               Takes (.cue l k music origin) s l 7 [.showState] [.mode, .pumpFault] fun d =>
                 d = { s.chip with
                   pages := s.chip.pages.set k { s.chip.pages[k] with state := .live }
                   run := ⟨.cued, some k, some i, some (stepDelay (s.chip.pages[k]).steps[i]), d.run.holdCursor, none,
                     #v[0, 0, 0, 0], none, none, none, none⟩
                   image := clearedImage
                   playback :=
                     if music then ⟨.filling, true, origin, origin, none, s.chip.playback.held, 0, []⟩
                     else ⟨.off, false, s.chip.playback.p, s.chip.playback.p0, none, s.chip.playback.held, 0, []⟩
                   clock := ⟨0, if music then .audio else .localTime, false, s.chip.clock.stamp⟩
                   pumps := d.pumps, queue := d.queue, joining := d.joining, history := d.history, jets := d.jets
                   circ := d.circ, mode := d.mode, links := d.links } ∧
                 ((s.chip.pages[k]).scenes[15] = none → d.run.holdCursor = none) ∧
                 (∀ h : StepIndex, (s.chip.pages[k]).scenes[15] = some h.val → d.run.holdCursor = some h) ∧
                 (s.chip.mode.mode ≠ .dormant →
                   d.mode.mode = s.chip.mode.mode ∧ (s.chip.circ.debt = 0 → s.chip.waterSame d)) ∧
                 (s.chip.mode.mode = .dormant →
                   (s.chip.mode.power = .on → d.mode.mode = .standby) ∧
                   (s.chip.mode.power ≠ .on →
                     d.mode.mode = .settling ∧ d.mode.wake = some .standby ∧ d.mode.power = .settling)))))))) ∧
  (∀ (s : State) (l : LinkId), s.chip.hears l 8 →
     (s.chip.run.cue ≠ .cued → Refuses (.uncue l) s l 8 .state) ∧
     (s.chip.run.cue = .cued → ∀ k : PageId, s.chip.run.livePage = some k →
       Takes (.uncue l) s l 8 [.showState] [.pumpFault] fun d =>
         d = { s.chip with
           pages := s.chip.pages.set k { s.chip.pages[k] with state := .ready }
           run := s.chip.run.over
           playback := { s.chip.playback with state := .off, buffer := [], endAt := none }
           pumps := d.pumps, queue := d.queue, joining := d.joining, history := d.history, jets := d.jets
           circ := d.circ, mode := d.mode, links := d.links } ∧
         d.mode.mode = s.chip.mode.mode ∧
         (s.chip.mode.mode ≠ .dormant → s.chip.circ.debt = 0 → s.chip.waterSame d)))

/-- START: its tests in their order; and, where no step falls due at tick 0, what it does: mode SHOW, RUNNING, every jet shut
under the show, every pump at STOP and FOLLOW, a flush cut, the dormancy timer stopped, the clock running from 0 and the
music playing at full scale (R40, R61, R77). The steps due at tick 0 are `DueStepsRun`. -/
def Obligations.StartRunsTheShow : Prop :=
  ∀ (s : State) (l : LinkId), s.chip.hears l 9 →
    (s.chip.run.cue ≠ .cued → Refuses (.start l) s l 9 .state) ∧
    (s.chip.run.cue = .cued →
      (s.chip.mode.mode = .manual → Refuses (.start l) s l 9 .notOwner) ∧
      (s.chip.mode.mode = .dormant ∨ s.chip.mode.mode = .settling ∨ s.chip.mode.mode = .showMode ∨
        s.chip.mode.mode = .tripped → Refuses (.start l) s l 9 .state) ∧
      (s.chip.mode.mode = .standby →
        (s.chip.playback.music = true → s.chip.playback.buffer.length < 9600 → Refuses (.start l) s l 9 .notPrimed) ∧
        ((s.chip.playback.music = false ∨ 9600 ≤ s.chip.playback.buffer.length) →
          ∀ m : Nat, s.chip.run.mainDue = some m → 0 < m → s.chip.image = clearedImage →
          Takes (.start l) s l 9 [.mode, .showState] [.pumpFault] fun d =>
            d = { s.chip with
              run := { s.chip.run with cue := .running }
              playback :=
                if s.chip.playback.music then { s.chip.playback with state := .playing, r := 64 } else s.chip.playback
              clock := ⟨0, s.chip.clock.source, true, s.chip.now⟩
              jets := Vector.replicate 48 shutByShow
              pumps := d.pumps, queue := d.queue, joining := d.joining
              circ := d.circ, mode := d.mode, links := d.links } ∧
            d.mode = { s.chip.mode with mode := .showMode, dormancy := none, flushRunning := d.mode.flushRunning } ∧
            d.circ.flush = none ∧ (s.chip.circ.flush = none → d.circ = s.chip.circ) ∧
            (∀ p : PumpId, (d.pumps[p]).intent = .stop ∧ (d.pumps[p]).policy = .follow ∧
              ((d.pumps[p]).state.up = true → (d.pumps[p]).stopPending = true)))))

/-- PAUSE and CONTINUE: the clock and the music stop in place and go on from there; the water is left as it stands
(R41, R42, R70, R77). HOLD_SET: its tests in their order, and the hold cursor it places; it changes no other field and
raises no notice (R49). -/
def Obligations.PauseContinueAndHoldSet : Prop :=
  (∀ (s : State) (l : LinkId),
     (s.chip.hears l 10 →
       (s.chip.run.cue ≠ .running → Refuses (.pause l) s l 10 .state) ∧
       (s.chip.run.cue = .running →
         Takes (.pause l) s l 10 [.showState] [] fun d =>
           d = { s.chip with
             run := { s.chip.run with cue := .paused, pauseCause := some .program }
             clock := { s.chip.clock with running := false }
             playback :=
               if s.chip.playback.state = .playing ∨ s.chip.playback.state = .starved then
                 { s.chip.playback with state := .held }
               else s.chip.playback
             links := d.links })) ∧
     (s.chip.hears l 11 →
       (s.chip.run.cue ≠ .paused → Refuses (.continueShow l) s l 11 .state) ∧
       (s.chip.run.cue = .paused → s.chip.run.pauseCause = some .take → Refuses (.continueShow l) s l 11 .notOwner) ∧
       (s.chip.run.cue = .paused → s.chip.run.pauseCause = some .program →
         Takes (.continueShow l) s l 11 [.showState] [.audioStarved] fun d =>
           d = { s.chip with
             run := { s.chip.run with cue := .running, pauseCause := none }
             clock := ⟨s.chip.clock.value, d.clock.source, true, s.chip.now⟩
             playback := d.playback, links := d.links } ∧
           (s.chip.playback.state ≠ .held → d.playback = s.chip.playback ∧ d.clock.source = s.chip.clock.source) ∧
           (s.chip.playback.state = .held →
             (s.chip.playback.streamEnd ≤ s.chip.playback.p →
               d.playback = { s.chip.playback with state := .finished, buffer := [] } ∧ d.clock.source = .localTime) ∧
             (s.chip.playback.p < s.chip.playback.streamEnd →
               d.clock.source = s.chip.clock.source ∧
               (s.chip.playback.buffer ≠ [] → d.playback = { s.chip.playback with state := .playing }) ∧
               (s.chip.playback.buffer = [] →
                 d.playback = { s.chip.playback with state := .starved } ∧
                 ∀ m : LinkId, .audioStarved ∈ (d.links[m]).notices)))))) ∧
  (∀ (s : State) (l : LinkId), s.chip.hears l 12 →
     (s.chip.run.cue = .idle ∨ s.chip.run.cue = .holding ∨ s.chip.run.cue = .ending →
       ∀ scene : Option Nat, Refuses (.holdSet l scene) s l 12 .state) ∧
     (s.chip.run.cue = .cued ∨ s.chip.run.cue = .running ∨ s.chip.run.cue = .paused ∨ s.chip.run.cue = .restoring →
       Answers (.holdSet l none) s l 12 { s.chip with run := { s.chip.run with holdCursor := none } } .ok .none ∧
       (∀ n : Nat, 16 ≤ n → Refuses (.holdSet l (some n)) s l 12 .badArg) ∧
       (∀ k : PageId, s.chip.run.livePage = some k → ∀ n : Fin 16,
         ((s.chip.pages[k]).scenes[n] = none → Refuses (.holdSet l (some n.val)) s l 12 .badScene) ∧
         (∀ i : StepIndex, (s.chip.pages[k]).scenes[n] = some i.val →
           Answers (.holdSet l (some n.val)) s l 12
             { s.chip with run := { s.chip.run with holdCursor := some i } } .ok .none))))

/-- STOP by the cue state (R43): STATE in IDLE; no effect in ENDING; as UNCUE in CUED; ENDING with a lamp fade of 2,000 from the
clock's present value in RUNNING, HOLDING, RESTORING and PAUSED by the program, which completes at once where every lamp output
is 0 and no pump is up after it, and stands otherwise; and the show ended at once where the panel has taken it. There the kept
end position F (log entry 23) and the kept origin of the settled fades (log entry 20) are the model's choice. -/
def Obligations.StopByCueState : Prop :=
  ∀ (s : State) (l : LinkId), s.chip.hears l 16 →
    (s.chip.run.cue = .idle → Refuses (.stop l) s l 16 .state) ∧
    (s.chip.run.cue = .ending → Answers (.stop l) s l 16 s.chip .ok .none) ∧
    (s.chip.run.cue = .cued → ∀ k : PageId, s.chip.run.livePage = some k →
      Takes (.stop l) s l 16 [.showState] [.pumpFault] fun d =>
        d.pages = s.chip.pages.set k { s.chip.pages[k] with state := .ready } ∧
        d.run = s.chip.run.over ∧
        d.playback = { s.chip.playback with state := .off, buffer := [], endAt := none }) ∧
    (s.chip.run.cue = .running ∨ s.chip.run.cue = .holding ∨ s.chip.run.cue = .restoring ∨
        (s.chip.run.cue = .paused ∧ s.chip.run.pauseCause = some .program) →
      s.chip.mode.mode = .showMode →
      ∃ e : Chip, e = s.chip.enterEnding 2000 s.chip.clock.value ∧
        (s.chip.lampsDark = false ∨ (∃ p : PumpId, (e.pumps[p]).state.up = true) →
          Answers (.stop l) s l 16 { e with mode := { e.mode with dormancy := none } } .ok .none) ∧
        (s.chip.lampsDark = true → (∀ p : PumpId, (e.pumps[p]).state.up = false) →
          ∀ k : PageId, s.chip.run.livePage = some k →
          Takes (.stop l) s l 16 [.showState, .mode] [.pumpFault] fun d =>
            d.run = s.chip.run.over ∧ d.pages = s.chip.pages.set k { s.chip.pages[k] with state := .ready } ∧
            d.mode.mode = .standby ∧ d.image = e.image ∧ d.playback = e.playback ∧
            d.clock = { e.clock with running := false } ∧
            (s.chip.circ.debt = 0 → d.jets = Vector.replicate 48 shutByShow ∧ d.pumps = e.pumps))) ∧
    (s.chip.run.cue = .paused → s.chip.run.pauseCause = some .take → s.chip.mode.mode = .manual →
      ∀ k : PageId, s.chip.run.livePage = some k →
      Takes (.stop l) s l 16 [.showState] [] fun d =>
        d = { s.chip with
          pages := s.chip.pages.set k { s.chip.pages[k] with state := .ready }
          run := s.chip.run.over
          image := clearedImage
          showLayer := d.showLayer
          playback := { s.chip.playback with state := .off, buffer := [] }
          mode := { s.chip.mode with dormancy := none }
          links := d.links } ∧
        (∀ i : Fin 128, d.showLayer[i] = ⟨0, 0, (s.chip.showLayer[i]).origin, 0, .showTime⟩))

/-! ## ENDING -/

/-- Entry into ENDING (R44): the record, the image, the jets, the pumps, the END fade on all 128 show channels, the
audio, the clock; the cursors stand and the mode stays. That the hold due tick is cleared is the model's reading of R48 (log
entry 29). ENDING completes at a lamp frame that finds no pump up and every output 0, and not before (R45): IDLE, the page
READY, the cursors gone, the clock stopped at its value, STANDBY. -/
def Obligations.EndingBeginsAndCompletes : Prop :=
  (∀ (c : Chip) (fade origin : Nat), ∃ d : Chip, d = c.enterEnding fade origin ∧
     d = { c with
       run := { c.run with cue := .ending, holdDue := none, shadow := none, pauseCause := none, holdEntry := none }
       image := { c.image with jets := Vector.replicate 48 ⟨0, none⟩, pumps := d.image.pumps }
       jets := Vector.replicate 48 shutByShow
       pumps := d.pumps, queue := d.queue, joining := d.joining, circ := d.circ
       showLayer := d.showLayer
       playback :=
         if c.playback.state = .off then c.playback else { c.playback with state := .off, buffer := [], endAt := none }
       clock := ⟨c.clock.value, .localTime, true, d.clock.stamp⟩
       mode := { c.mode with restore := none }
       links := d.links } ∧
     c.noticed d [.showState] [.pumpFault] ∧
     (∀ p : PumpId, d.image.pumps[p] = ⟨.stop, (c.image.pumps[p]).policy⟩ ∧
       (d.pumps[p]).intent = .stop ∧ (d.pumps[p]).policy = (c.pumps[p]).policy ∧
       ((d.pumps[p]).state.up = true → (d.pumps[p]).stopPending = true ∧ d.now < (d.pumps[p]).runMinEnd ∨
         (d.pumps[p]).state = .priming)) ∧
     (∀ i : Fin 128, d.showLayer[i] = ⟨c.showLevel i, 0, origin, fade, .showTime⟩) ∧
     (c.circ.flush = none → d.circ = c.circ)) ∧
  (∀ (s : State), s.chip.resetHeld = false → s.chip.run.cue = .ending → s.chip.mode.mode = .showMode →
     ∀ k : PageId, s.chip.run.livePage = some k →
     ∃ d : Chip, exec .lampFrame s = .next { s with chip := d } ∧
       ((d.run.cue = .idle ∧ (∀ p : PumpId, (s.chip.pumps[p]).state.up = false) ∧ d.outputs = darkOutputs ∧
           d.run = s.chip.run.over ∧
           d.pages = s.chip.pages.set k { s.chip.pages[k] with state := .ready } ∧
           d.clock = { s.chip.clock with running := false } ∧ d.mode.mode = .standby ∧
           (∀ m : LinkId, .showState ∈ (d.links[m]).notices ∧ .mode ∈ (d.links[m]).notices)) ∨
         (d.run = s.chip.run ∧ d.clock = s.chip.clock ∧ d.pages = s.chip.pages ∧ d.mode.mode = .showMode ∧
           ((∃ p : PumpId, (s.chip.pumps[p]).state.up = true) ∨ d.outputs ≠ darkOutputs))))

/-! ## Steps and cursors -/

/-- Every step due at the clock's value executes (R26, R52, R54): when the cursors stop, the one that executes stands on a step
due beyond that value, and so does the main cursor at the end of a catch-up. -/
def Obligations.DueStepsRun : Prop :=
  ∀ c : Chip, c.run.mainCursor.isSome = true → c.run.mainDue.isSome = true →
    ((c.run.cue = .running ∨ (c.run.cue = .holding ∧ c.run.holdCursor.isSome = true ∧ c.run.holdDue.isSome = true)) →
      c.runSteps.clock.value = c.clock.value ∧
      (c.runSteps.run.cue = .running → ∀ t ∈ c.runSteps.run.mainDue, c.clock.value < t) ∧
      (c.runSteps.run.cue = .holding → ∀ t ∈ c.runSteps.run.holdDue, c.clock.value < t)) ∧
    (c.run.cue = .running →
      c.catchUp.clock.value = c.clock.value ∧ (c.catchUp.run.cue = .running ∨ c.catchUp.run.cue = .ending) ∧
      (c.catchUp.run.cue = .running → ∀ t ∈ c.catchUp.run.mainDue, c.clock.value < t))

/-- Where a cursor goes, under the main cursor, under the hold cursor and in the catch-up alike: to the next index at
the sum of the due tick and that step's delay; into ENDING with lamp fade 0 beyond index 1023; to a scene's start at
the due tick plus the larger of 1 and the target's delay (R24, R25). A step under the main cursor: passed over where
its condition stops it; LOOP_SET loads its counter, LOOP counts it down but not below 0, MARK leaves its number, END
enters ENDING with its fade, JUMP, EMPTY and RESUME only move the cursor (R27, R28, R34 to R37). -/
def Obligations.CursorsArriveAndStepsAct : Prop :=
  (∀ (c : Chip) (i : StepIndex) (due : Nat) (underHold : Bool) (k : PageId), c.run.livePage = some k →
     (∀ n : StepIndex, n.val = i.val + 1 →
       c.fallFrom i due = .arrive n (due + stepDelay (c.pages[k]).steps[n])) ∧
     (i.val = 1023 → c.fallFrom i due = .finish 0 due) ∧
     c.arrival i due false underHold = c.fallFrom i due ∧
     (∀ kind : StepKind, stepKind (c.pages[k]).steps[i] = some kind →
       (kind = .empty ∨ kind = .jet ∨ kind = .burst ∨ kind = .cut ∨ kind = .pump ∨ kind = .light ∨ kind = .loopSet ∨
         kind = .mark ∨ (kind = .resume ∧ underHold = false) → c.arrival i due true underHold = c.fallFrom i due) ∧
       (kind = .resume → underHold = true → c.arrival i due true underHold = .resumed) ∧
       (kind = .endShow → c.arrival i due true underHold = .finish (stepEndFade (c.pages[k]).steps[i]) due) ∧
       (∀ (n : Fin 16) (t : StepIndex), (c.pages[k]).scenes[n] = some t.val →
         (kind = .jump → stepJumpScene (c.pages[k]).steps[i] = n.val →
           c.arrival i due true underHold = .arrive t (due + max 1 (stepDelay (c.pages[k]).steps[t]))) ∧
         (kind = .loop → stepLoopScene (c.pages[k]).steps[i] = n.val → ∀ q : Fin 4,
           stepCounter (c.pages[k]).steps[i] = q.val →
           (2 ≤ c.run.counters[q] →
             c.arrival i due true underHold = .arrive t (due + max 1 (stepDelay (c.pages[k]).steps[t]))) ∧
           (c.run.counters[q] ≤ 1 → c.arrival i due true underHold = c.fallFrom i due))))) ∧
  (∀ (c : Chip) (i : StepIndex) (due : Nat) (k : PageId), c.run.livePage = some k →
     (c.stepActs (c.pages[k]).steps[i] = false →
       (∀ (n : StepIndex) (e : Nat), c.fallFrom i due = .arrive n e →
         c.executeMain i due = { c with run := { c.run with mainCursor := some n, mainDue := some e } }) ∧
       (i.val = 1023 → c.executeMain i due = c.enterEnding 0 due)) ∧
     (c.stepActs (c.pages[k]).steps[i] = true →
       (stepKind (c.pages[k]).steps[i] = some .endShow →
         c.executeMain i due = c.enterEnding (stepEndFade (c.pages[k]).steps[i]) due) ∧
       (∀ (n : StepIndex) (e : Nat), c.arrival i due true false = .arrive n e →
         (stepKind (c.pages[k]).steps[i] = some .jump ∨ stepKind (c.pages[k]).steps[i] = some .empty ∨
             stepKind (c.pages[k]).steps[i] = some .resume →
           c.executeMain i due = { c with run := { c.run with mainCursor := some n, mainDue := some e } }) ∧
         (∀ q : Fin 4, stepCounter (c.pages[k]).steps[i] = q.val →
           (stepKind (c.pages[k]).steps[i] = some .loopSet →
             c.executeMain i due = { c with run := { c.run with
               counters := c.run.counters.set q (stepLoopValue (c.pages[k]).steps[i])
               mainCursor := some n, mainDue := some e } }) ∧
           (stepKind (c.pages[k]).steps[i] = some .loop →
             c.executeMain i due = { c with run := { c.run with
               counters := c.run.counters.set q (c.run.counters[q] - 1)
               mainCursor := some n, mainDue := some e } })) ∧
         (stepKind (c.pages[k]).steps[i] = some .mark → ∃ d : Chip, d = c.executeMain i due ∧
           d = { c with
             run := { c.run with
               lastMark := some (stepMark (c.pages[k]).steps[i]), mainCursor := some n, mainDue := some e }
             links := d.links } ∧
           c.noticed d [.mark] []))))

/-- What an acting JET, BURST, CUT or PUMP step writes into the show image and hands to HYD: the members of its set,
and no other jet or pump (R29 to R32). A LIGHT step hands one fade to each masked channel of its luminaires: from the
channel's present level to the step's level, with the step's due tick as origin and its fade as duration, on the show
clock; other channels and all other state stand (R33). A burst that the clock has reached ends in the image and on its
jet, and no other does (R30, R111). -/
def Obligations.WaterAndLightSteps : Prop :=
  (∀ (c : Chip) (raw : RawStep) (due : Nat), ∃ d : Chip, d = c.stepEffect raw due ∧
     (stepKind raw = some .jet → ∀ j : JetId,
       ((stepJets raw).getLsbD j.val = true →
         d.image.jets[j] = ⟨stepDemand raw, none⟩ ∧ (d.jets[j]).owner = .showRun ∧
         (d.jets[j]).demand = stepDemand raw ∧ (d.jets[j]).burstEnd = none ∧
         (stepDemand raw = 0 → (d.jets[j]).state = .closed)) ∧
       ((stepJets raw).getLsbD j.val = false →
         d.image.jets[j] = c.image.jets[j] ∧ (d.jets[j]).owner = (c.jets[j]).owner ∧
         (d.jets[j]).demand = (c.jets[j]).demand ∧ (d.jets[j]).burstEnd = (c.jets[j]).burstEnd)) ∧
     (stepKind raw = some .burst → c.clock.value < due + stepLength raw → ∀ j : JetId,
       ((stepJets raw).getLsbD j.val = true →
         d.image.jets[j] = ⟨stepDemand raw, some (due + stepLength raw)⟩ ∧ (d.jets[j]).owner = .showRun ∧
         (d.jets[j]).demand = stepDemand raw ∧ (d.jets[j]).burstEnd = some (due + stepLength raw)) ∧
       ((stepJets raw).getLsbD j.val = false →
         d.image.jets[j] = c.image.jets[j] ∧ (d.jets[j]).owner = (c.jets[j]).owner ∧
         (d.jets[j]).demand = (c.jets[j]).demand ∧ (d.jets[j]).burstEnd = (c.jets[j]).burstEnd)) ∧
     (stepKind raw = some .burst → due + stepLength raw ≤ c.clock.value → ∀ j : JetId,
       (stepJets raw).getLsbD j.val = true →
         d.image.jets[j] = ⟨0, none⟩ ∧ (d.jets[j]).demand = 0 ∧ (d.jets[j]).burstEnd = none) ∧
     (stepKind raw = some .cut → ∀ j : JetId,
       ((stepJets raw).getLsbD j.val = true → (c.image.jets[j]).burstEnd ≠ none → d.image.jets[j] = ⟨0, none⟩) ∧
       ((stepJets raw).getLsbD j.val = false ∨ (c.image.jets[j]).burstEnd = none → d.image.jets[j] = c.image.jets[j]) ∧
       ((stepJets raw).getLsbD j.val = true → (c.jets[j]).burstEnd ≠ none →
         (d.jets[j]).demand = 0 ∧ (d.jets[j]).burstEnd = none ∧ (d.jets[j]).owner = (c.jets[j]).owner) ∧
       ((stepJets raw).getLsbD j.val = false ∨ (c.jets[j]).burstEnd = none →
         (d.jets[j]).demand = (c.jets[j]).demand ∧ (d.jets[j]).owner = (c.jets[j]).owner)) ∧
     (stepKind raw = some .pump → ∀ act : PumpAction, stepAction raw = some act → ∀ p : PumpId,
       ((stepPumps raw).getLsbD p.val = true →
         d.image.pumps[p] = (c.image.pumps[p]).apply act ∧
         ((d.pumps[p]).intent, (d.pumps[p]).policy) =
           match act with
           | .start => (.run, (c.pumps[p]).policy)
           | .stop => (.stop, (c.pumps[p]).policy)
           | .follow => ((c.pumps[p]).intent, .follow)
           | .explicit => ((c.pumps[p]).intent, .explicit)) ∧
       ((stepPumps raw).getLsbD p.val = false →
         d.image.pumps[p] = c.image.pumps[p] ∧ (d.pumps[p]).intent = (c.pumps[p]).intent ∧
         (d.pumps[p]).policy = (c.pumps[p]).policy)) ∧
     (stepKind raw = some .jet ∨ stepKind raw = some .burst ∨ stepKind raw = some .cut ∨ stepKind raw = some .pump →
       d = { c with
         image := d.image, pumps := d.pumps, queue := d.queue, joining := d.joining, history := d.history
         jets := d.jets, circ := d.circ, links := d.links } ∧ c.noticed d [] [.pumpFault])) ∧
  ((∀ (c : Chip) (raw : RawStep) (due : Nat), stepKind raw = some .light →
     ∃ d : Chip, d = c.stepEffect raw due ∧ d = { c with showLayer := d.showLayer } ∧
       ∀ (l : LumId) (k : ColourId),
         d.showLayer[channelOf l k] =
           if (stepLums raw).getLsbD l.val = true ∧ (stepMask raw).getLsbD k.val = true then
             ⟨c.showLevel (channelOf l k), stepLevel raw k, due, stepFade raw, .showTime⟩
           else c.showLayer[channelOf l k]) ∧
   (∀ c : Chip, ∃ d : Chip, d = c.expireBursts ∧
     ∀ j : JetId,
       ((∃ b, (c.image.jets[j]).burstEnd = some b ∧ b ≤ c.clock.value) → d.image.jets[j] = ⟨0, none⟩) ∧
       ((∀ b, (c.image.jets[j]).burstEnd = some b → c.clock.value < b) → d.image.jets[j] = c.image.jets[j]) ∧
       ((∃ b, (c.jets[j]).burstEnd = some b ∧ b ≤ c.clock.value) →
         (d.jets[j]).demand = 0 ∧ (d.jets[j]).burstEnd = none ∧ (d.jets[j]).state = .closed ∧
         (d.jets[j]).owner = (c.jets[j]).owner) ∧
       ((∀ b, (c.jets[j]).burstEnd = some b → c.clock.value < b) →
         (d.jets[j]).demand = (c.jets[j]).demand ∧ (d.jets[j]).burstEnd = (c.jets[j]).burstEnd ∧
         (d.jets[j]).owner = (c.jets[j]).owner)))

/-! ## Wind hold -/

/-- A gust onset at the close of the wind gate makes the hold swap of a RUNNING show with an armed hold cursor with
its first hold step due after its delay, and a first hold step of delay 0 executes as the swap is taken: shown for an ALWAYS JET
step whose next step has a delay above 0. In IDLE, CUED, PAUSED and HOLDING, in RUNNING without a hold cursor, in RESTORING with
water still to come and in ENDING with a pump up or a lamp lit, it leaves the show record, the image and the pages as they were,
and raises no HOLD (R50, R51, R148). RESUME acting under
the hold cursor ends the hold: the counters come back from the shadow, the hold cursor is left armed on the next
index, absent after index 1023, and the show is RUNNING; with the frozen step still beyond now the catch-up executes
nothing (R53, R54). -/
def Obligations.GustsHoldAndResumeEndsIt : Prop :=
  (∀ s : State, s.chip.resetHeld = false →
     s.chip.limits.site.gust ≤ min 999 (s.chip.sense.pulses * s.chip.limits.site.windScale / 16) →
     (∀ u : Nat, s.chip.sense.previous = some u → u < s.chip.limits.site.gust) →
     (s.chip.run.cue = .running → s.chip.mode.mode = .showMode → ∀ k : PageId, s.chip.run.livePage = some k →
       ∀ i : StepIndex, s.chip.run.holdCursor = some i → 0 < stepDelay (s.chip.pages[k]).steps[i] →
       Becomes .windGateClose s [.gust, .showState, .hold] [] fun d =>
         d = { s.chip with
           run := { s.chip.run with
             cue := .holding
             shadow := some s.chip.run.counters
             holdEntry := some s.chip.clock.value
             holdDue := some (s.chip.clock.value + stepDelay (s.chip.pages[k]).steps[i]) }
           sense := d.sense, now := d.now, framesLeft := d.framesLeft, hydTimer := d.hydTimer, lampTimer := d.lampTimer
           circ := d.circ, mode := { s.chip.mode with dormancy := none }, links := d.links }) ∧
     (s.chip.run.cue = .running → s.chip.mode.mode = .showMode → ∀ k : PageId, s.chip.run.livePage = some k →
       ∀ i n : StepIndex, s.chip.run.holdCursor = some i → n.val = i.val + 1 →
       stepDelay (s.chip.pages[k]).steps[i] = 0 → stepByte (s.chip.pages[k]).steps[i] 1 = 0 →
       stepKind (s.chip.pages[k]).steps[i] = some .jet → 0 < stepDelay (s.chip.pages[k]).steps[n] →
       Becomes .windGateClose s [.gust, .showState, .hold] [.pumpFault] fun d =>
         d.run = { s.chip.run with
           cue := .holding
           shadow := some s.chip.run.counters
           holdEntry := some s.chip.clock.value
           holdCursor := some n
           holdDue := some (s.chip.clock.value + stepDelay (s.chip.pages[k]).steps[n]) } ∧
         d.image.pumps = s.chip.image.pumps ∧ d.pages = s.chip.pages ∧ d.clock = s.chip.clock ∧
         d.playback = s.chip.playback ∧ d.showLayer = s.chip.showLayer ∧
         ∀ j : JetId,
           ((stepJets (s.chip.pages[k]).steps[i]).getLsbD j.val = true →
             d.image.jets[j] = ⟨stepDemand (s.chip.pages[k]).steps[i], none⟩ ∧ (d.jets[j]).owner = .showRun ∧
             (d.jets[j]).demand = stepDemand (s.chip.pages[k]).steps[i] ∧ (d.jets[j]).burstEnd = none) ∧
           ((stepJets (s.chip.pages[k]).steps[i]).getLsbD j.val = false →
             d.image.jets[j] = s.chip.image.jets[j] ∧ (d.jets[j]).owner = (s.chip.jets[j]).owner ∧
             (d.jets[j]).demand = (s.chip.jets[j]).demand ∧ (d.jets[j]).burstEnd = (s.chip.jets[j]).burstEnd)) ∧
     (s.chip.run.cue = .idle ∨ s.chip.run.cue = .cued ∨ s.chip.run.cue = .paused ∨ s.chip.run.cue = .holding ∨
         (s.chip.run.cue = .running ∧ s.chip.run.holdCursor = none) ∨
         (s.chip.run.cue = .restoring ∧ ∃ j : JetId, 0 < (s.chip.image.jets[j]).demand ∧ (s.chip.jets[j]).state ≠ .opened) ∨
         (s.chip.run.cue = .ending ∧
           ((∃ p : PumpId, (s.chip.pumps[p]).state.up = true) ∨ ∃ n : Fin 128, s.chip.outputs[n] ≠ 0)) →
       Becomes .windGateClose s [.gust] [.pumpFault] fun d =>
         d.run = s.chip.run ∧ d.image = s.chip.image ∧ d.pages = s.chip.pages ∧ d.clock = s.chip.clock ∧
         d.playback = s.chip.playback ∧ d.showLayer = s.chip.showLayer ∧ d.mode.mode = s.chip.mode.mode)) ∧
  (∀ (c : Chip) (i : StepIndex) (due : Nat) (k : PageId), c.run.livePage = some k →
     stepKind (c.pages[k]).steps[i] = some .resume → c.stepActs (c.pages[k]).steps[i] = true →
     ∀ saved : Vector Nat 4, c.run.shadow = some saved → ∀ m : Nat, c.run.mainDue = some m → c.clock.value < m →
     ∃ d : Chip, d = c.executeHold i due ∧
       d = { c with
         run := { c.run with
           cue := .running, counters := saved, shadow := none, holdCursor := d.run.holdCursor, holdDue := none
           holdEntry := none }
         pumps := d.pumps, queue := d.queue, joining := d.joining, history := d.history, jets := d.jets
         circ := d.circ, links := d.links } ∧
       (∀ n : StepIndex, n.val = i.val + 1 → d.run.holdCursor = some n) ∧ (i.val = 1023 → d.run.holdCursor = none) ∧
       c.noticed d [.showState] [.pumpFault])

/-- The catch-up (R55, R56): a BURST whose end lies at or below now is passed over; a step that does not end the show hands
neither jets nor pumps to HYD; and the hand-over at the end gives each jet and pump written its final setting, and no other
jet or pump any. -/
def Obligations.CatchUpHandsOverOnce : Prop :=
  (∀ (c : Chip) (w : Written) (i : StepIndex) (due : Nat) (n : StepIndex) (e : Nat),
    (stepKind (c.stepAt i) = some .burst → due + stepLength (c.stepAt i) ≤ c.clock.value →
      c.fallFrom i due = .arrive n e →
      c.catchUpStep w i due = ({ c with run := { c.run with mainCursor := some n, mainDue := some e } }, w)) ∧
    ((c.catchUpStep w i due).1.run.cue ≠ .ending →
      (c.catchUpStep w i due).1.pumps = c.pumps ∧ (c.catchUpStep w i due).1.jets = c.jets ∧
      (c.catchUpStep w i due).1.queue = c.queue)) ∧
  (∀ (c : Chip) (w : Written), ∃ d : Chip, d = c.handOver w ∧ d.image = c.image ∧ d.run = c.run ∧
    (∀ j : JetId,
      (j ∈ w.jets → (d.jets[j]).owner = .showRun ∧ (d.jets[j]).demand = (c.image.jets[j]).demand ∧
        (d.jets[j]).burstEnd = (c.image.jets[j]).burstEnd) ∧
      (j ∉ w.jets → (d.jets[j]).owner = (c.jets[j]).owner ∧ (d.jets[j]).demand = (c.jets[j]).demand ∧
        (d.jets[j]).burstEnd = (c.jets[j]).burstEnd)) ∧
    (∀ p : PumpId,
      (p ∈ w.pumps → (d.pumps[p]).intent = (c.image.pumps[p]).intent ∧ (d.pumps[p]).policy = (c.image.pumps[p]).policy) ∧
      (p ∉ w.pumps → (d.pumps[p]).intent = (c.pumps[p]).intent ∧ (d.pumps[p]).policy = (c.pumps[p]).policy)))

/-! ## Music and the show clock -/

/-- AUDIO: its tests, and the placing of an admitted block by the seven cases of R64 in their order (R62 to R65). -/
def Obligations.AudioBlocksArePlaced : Prop :=
  ∀ (s : State) (l : LinkId) (q n : Nat) (frames : List AudioFrame), s.chip.hears l 13 →
    (s.chip.playback.state = .off ∨ s.chip.playback.state = .finished → Refuses (.audio l q n frames) s l 13 .state) ∧
    (s.chip.playback.state ≠ .off → s.chip.playback.state ≠ .finished →
      (n = 0 ∨ 256 < n ∨ frames.length ≠ n → Refuses (.audio l q n frames) s l 13 .badArg) ∧
      (1 ≤ n → n ≤ 256 → frames.length = n →
        ∀ fill : Nat, fill = s.chip.playback.buffer.length → ∀ e : Nat, e = s.chip.playback.p + fill →
        ∀ u : Nat, u = min (q + n) s.chip.playback.streamEnd →
        ∀ put : List AudioFrame → Chip, put = (fun added => { s.chip with playback := { s.chip.playback with
            buffer := s.chip.playback.buffer ++ added
            state := if s.chip.playback.state = .starved then .playing else s.chip.playback.state } }) →
        (e < u → q < u → 32768 < fill + (u - e) → Refuses (.audio l q n frames) s l 13 .full) ∧
        (u ≤ e ∨ u ≤ q → Refuses (.audio l q n frames) s l 13 .late) ∧
        (e < u → q < u → fill + (u - e) ≤ 32768 →
          (q < e → Answers (.audio l q n frames) s l 13 (put ((frames.drop (e - q)).take (u - e))) .trimmed .none) ∧
          (q = e → u = q + n → Answers (.audio l q n frames) s l 13 (put frames) .ok .none) ∧
          (q = e → u < q + n → Answers (.audio l q n frames) s l 13 (put (frames.take (u - q))) .trimmed .none) ∧
          (e < q → q ≤ e + 4800 →
            Answers (.audio l q n frames) s l 13
              (put (List.replicate (q - e) AudioFrame.silence ++ frames.take (u - q))) .gapFilled .none) ∧
          (e + 4800 < q → Refuses (.audio l q n frames) s l 13 .ahead))))

/-- AUDIO_END: its tests; F, the frames at F and beyond removed, and the end of the music at once where F is the play
position of PLAYING or STARVED (R66, R69). One audio frame period (R67 to R69, R72, R73, R76): the mute ramp moves
toward 64 in PLAYING and 0 elsewhere, a frame goes out at the applied gain, the play position advances in PLAYING and
STARVED, and an AUDIO clock that runs takes the value floor((p − p0) / 48). Where the clock takes no new value, so
that no step runs, the buffer, the state and the notices are given too. That AUDIO_END raises no AUDIO_LOW where it cuts the
fill below 4,800 is the model's reading (log entry 17). -/
def Obligations.ThePlaybackRunsToItsEnd : Prop :=
  (∀ (s : State) (l : LinkId) (f : Nat), s.chip.hears l 14 →
     (s.chip.playback.state = .off ∨ s.chip.playback.state = .finished → Refuses (.audioEnd l f) s l 14 .state) ∧
     (s.chip.playback.state ≠ .off → s.chip.playback.state ≠ .finished →
       (f < s.chip.playback.p → Refuses (.audioEnd l f) s l 14 .badArg) ∧
       (s.chip.playback.p ≤ f →
         (f ≠ s.chip.playback.p ∨ s.chip.playback.state = .filling ∨ s.chip.playback.state = .held →
           Answers (.audioEnd l f) s l 14 { s.chip with playback := { s.chip.playback with
             endAt := some f, buffer := s.chip.playback.buffer.take (f - s.chip.playback.p) } } .ok .none) ∧
         (f = s.chip.playback.p → s.chip.playback.state = .playing ∨ s.chip.playback.state = .starved →
           Answers (.audioEnd l f) s l 14
             { s.chip with
               playback := { s.chip.playback with state := .finished, endAt := some f, buffer := [] }
               clock :=
                 if s.chip.clock.source = .audio then { s.chip.clock with source := .localTime, stamp := s.chip.now }
                 else s.chip.clock } .ok .none)))) ∧
  (∀ s : State, s.chip.resetHeld = false → ∀ a : Playback, a = s.chip.playback →
     ∀ r : Nat, r = (if a.state = .playing then min 64 (a.r + 1) else a.r - 1) →
     ∀ f : AudioFrame, f = (if a.state = .playing then a.buffer.headD a.held else a.held) →
     ∃ d : Chip, exec .audioFramePeriod s = .next { s with chip := d } ∧
       d.playback.r = r ∧ d.playback.held = f ∧ d.dac = outputFrame s.chip.gain.applied r f ∧ d.gain = s.chip.gain ∧
       d.playback.p = (if a.state = .playing ∨ a.state = .starved then a.p + 1 else a.p) ∧
       d.clock.value =
         (if s.chip.clock.source = .audio ∧ s.chip.clock.running = true then
           min 2147483647 ((d.playback.p - d.playback.p0) / 48) else s.chip.clock.value) ∧
       (d.clock.value = s.chip.clock.value →
         d = { s.chip with
           playback := d.playback, clock := d.clock, dac := d.dac, links := d.links, now := d.now
           gainPeriods := min 48 (s.chip.gainPeriods + 1), framesLeft := d.framesLeft, hydTimer := d.hydTimer, lampTimer := d.lampTimer, circ := d.circ, sense := d.sense } ∧
         s.chip.noticed d [] [.audioStarved, .audioLow] ∧
         (a.state = .playing →
           (a.streamEnd ≤ a.p + 1 → d.playback.state = .finished ∧ d.playback.buffer = []) ∧
           (a.p + 1 < a.streamEnd → d.playback.buffer = a.buffer.tail ∧
             (a.buffer.tail = [] → d.playback.state = .starved ∧ ∀ m : LinkId, .audioStarved ∈ (d.links[m]).notices) ∧
             (a.buffer.tail ≠ [] → d.playback.state = .playing ∧
               (a.buffer.length = 4800 → a.endAt ≠ some (a.p + 4800) → ∀ m : LinkId, .audioLow ∈ (d.links[m]).notices)))) ∧
         (a.state = .starved → d.playback.state = if a.streamEnd ≤ a.p + 1 then .finished else .starved) ∧
         (a.state = .off ∨ a.state = .filling ∨ a.state = .held ∨ a.state = .finished →
           d.playback.state = a.state ∧ d.playback.buffer = a.buffer)))

/-- GAIN and DUCK set G and D, clamped to 256, in every state; once 48 audio frame periods have passed since it last moved, and
not before, the applied gain moves one step toward floor(G × D / 256), and the count of the periods begins again; and each
output sample is two floors toward minus infinity taken in turn (R74, R75). That a commanded gain step has no effect before its
48th period is log entry 26. -/
def Obligations.GainsAndOutput : Prop :=
  (∀ (s : State) (l : LinkId) (v : Nat),
    (s.chip.hears l 15 → Answers (.gain l v) s l 15
      { s.chip with gain := { s.chip.gain with master := if 256 < v then 256 else v } } .ok .none) ∧
    (s.chip.hears l 30 → Answers (.duck l v) s l 30
      { s.chip with gain := { s.chip.gain with duck := if 256 < v then 256 else v } } .ok .none)) ∧
  (∀ s : State, s.chip.resetHeld = false →
    ∀ target : Nat, target = s.chip.gain.master * s.chip.gain.duck / 256 → ∀ g : Nat, g = s.chip.gain.applied →
      (48 ≤ s.chip.gainPeriods → exec .gainStep s = .next { s with chip := { s.chip with
        gain := { s.chip.gain with applied := if g < target then g + 1 else if target < g then g - 1 else g }
        gainPeriods := 0 } }) ∧
      (s.chip.gainPeriods < 48 → exec .gainStep s = .next s)) ∧
  (∀ (g r : Nat) (x : Sample), g ≤ 256 → r ≤ 64 →
    (outputSample g r x).toInt = ⌊((⌊((x.toInt * g : ℤ) : ℚ) / 256⌋ * (r : ℤ) : ℤ) : ℚ) / 64⌋) ∧
  (∀ x : Sample, outputSample 256 64 x = x)

/-- One tick of the show clock on its LOCAL source (R76): one more while it runs, up to 2,147,483,647, and nothing where it is
stopped or follows the music. In RUNNING with no step and no burst due, that is all. The moment the timebase reaches, the later of
now and the tick after the stamp, and the stamp itself are the model's reading (log entry 2). -/
def Obligations.LocalClockTicks : Prop :=
  ∀ s : State, s.chip.resetHeld = false →
    (s.chip.clock.running = false ∨ s.chip.clock.source = .audio → exec .showClockTick s = .next s) ∧
    (s.chip.clock.running = true → s.chip.clock.source = .localTime →
      (∃ d : Chip, exec .showClockTick s = .next { s with chip := d } ∧
        d.clock.value = min 2147483647 (s.chip.clock.value + 1)) ∧
      (s.chip.clock.value < 2147483647 → s.chip.run.cue = .running → s.chip.mode.mode = .showMode →
        ∀ m : Nat, s.chip.run.mainDue = some m → s.chip.clock.value + 1 < m →
        (∀ j : JetId, (s.chip.image.jets[j]).burstEnd = none ∧ (s.chip.jets[j]).burstEnd = none) →
        Becomes .showClockTick s [] [] fun d =>
          d = { s.chip with
            clock := ⟨s.chip.clock.value + 1, .localTime, true, s.chip.clock.stamp + 1⟩
            mode := { s.chip.mode with dormancy := none }
            now := max s.chip.now (s.chip.clock.stamp + 1), framesLeft := d.framesLeft, hydTimer := d.hydTimer
            lampTimer := d.lampTimer, circ := d.circ, sense := d.sense }))

/-! ## Modes, trips and resets -/

/-- TAKE (R162, R57, R139, R157, R158): refused in ENDING and TRIPPED, without effect where the panel holds the fountain or is
to have it; otherwise the show is paused for the panel, a hold undone without catch-up, every jet is the panel's with its
present demand, the pumps keep intent and policy, a flush is cut, the panel layer takes over at the levels that stand, and
the mode becomes MANUAL, at once or through a wake. That a settled fade keeps its origin is the model's choice (log entry 20). -/
def Obligations.TakeHandsTheFountainOver : Prop :=
  ∀ (s : State) (l : LinkId), s.chip.hears l 17 →
    (s.chip.mode.mode = .tripped ∨ s.chip.run.cue = .ending → Refuses (.take l) s l 17 .state) ∧
    (s.chip.run.cue ≠ .ending →
      s.chip.mode.mode = .manual ∨ (s.chip.mode.mode = .settling ∧ s.chip.mode.wake = some .manual) →
      Answers (.take l) s l 17 s.chip .ok .none) ∧
    (s.chip.run.cue ≠ .ending → s.chip.mode.mode ≠ .tripped → s.chip.mode.mode ≠ .manual →
      (s.chip.mode.mode = .settling → s.chip.mode.wake ≠ some .manual) →
      Takes (.take l) s l 17 [] [.showState, .mode, .pumpFault] fun d =>
        d = { s.chip with
          run := d.run, clock := d.clock, playback := d.playback, panelLayer := d.panelLayer, lums := d.lums
          pumps := d.pumps, queue := d.queue, joining := d.joining, history := d.history, jets := d.jets
          circ := d.circ, mode := d.mode, links := d.links } ∧
        (s.chip.run.cue = .idle ∨ s.chip.run.cue = .cued →
          d.run = s.chip.run ∧ d.clock = s.chip.clock ∧ d.playback = s.chip.playback) ∧
        (s.chip.run.cue = .running ∨ s.chip.run.cue = .paused ∨ s.chip.run.cue = .restoring →
          d.run = { s.chip.run with cue := .paused, pauseCause := some .take }) ∧
        (s.chip.run.cue = .holding → ∀ saved : Vector Nat 4, s.chip.run.shadow = some saved →
          d.run = { s.chip.run with
            cue := .paused, pauseCause := some .take, counters := saved, shadow := none, holdDue := none
            holdEntry := none }) ∧
        (s.chip.run.cue = .running ∨ s.chip.run.cue = .holding ∨ s.chip.run.cue = .paused ∨ s.chip.run.cue = .restoring →
          d.clock = { s.chip.clock with running := false } ∧ d.mode.restore = none ∧
          d.playback =
            if s.chip.playback.state = .playing ∨ s.chip.playback.state = .starved then
              { s.chip.playback with state := .held }
            else s.chip.playback) ∧
        (s.chip.run.cue = .running ∨ s.chip.run.cue = .holding ∨ s.chip.run.cue = .restoring →
          ∀ m : LinkId, .showState ∈ (d.links[m]).notices) ∧
        (∀ j : JetId, (d.jets[j]).owner = .panel ∧ (d.jets[j]).demand = (s.chip.jets[j]).demand ∧
          (d.jets[j]).burstEnd = none) ∧
        (∀ p : PumpId, (d.pumps[p]).intent = (s.chip.pumps[p]).intent ∧
          (d.pumps[p]).policy = (s.chip.pumps[p]).policy) ∧
        d.circ.flush = none ∧
        (∀ k : LumId, d.lums[k] = ⟨(s.chip.lums[k]).gate, .panelLayer, none⟩) ∧
        (∀ i : Fin 128, d.panelLayer[i] =
          ⟨s.chip.preGate i, s.chip.preGate i, (s.chip.panelLayer[i]).origin, 0, .localTime⟩) ∧
        d.mode.dormancy = none ∧
        (s.chip.mode.mode = .standby ∨ s.chip.mode.mode = .showMode ∨
            (s.chip.mode.mode = .dormant ∧ s.chip.mode.power = .on) →
          d.mode.mode = .manual ∧ ∀ m : LinkId, .mode ∈ (d.links[m]).notices) ∧
        (s.chip.mode.mode = .settling ∨ (s.chip.mode.mode = .dormant ∧ s.chip.mode.power ≠ .on) →
          d.mode.mode = .settling ∧ d.mode.wake = some .manual))

/-- RELEASE of a show that the panel took begins the restore pass (R163, R164): every jet the show's, with the image's
demand and burst end (where no burst is overdue), every pump with the image's intent and policy, a crossfade on every
luminaire, a timeout from now; and the pass completes at once where every jet with a show demand is OPEN. RELEASE
without a paused show returns the fountain to STANDBY (R165): the show record stands, every pump gets STOP, the
crossfade begins; and where no debt lets a flush begin, every jet closes with owner NONE, and with the cue state IDLE
the dormancy timer starts. The restore timeout completes the restore pass (R164): RUNNING, the timeout gone, the clock
going on from its value; in any other cue state nothing happens. The model's reading: steps overdue at the completion execute at
the clock's first new value, not at once (log entry 16); the timeout brings the timebase to its moment (log entry 2); and it has
no effect outside RESTORING (log entry 26). -/
def Obligations.ReleaseGivesTheFountainBack : Prop :=
  (∀ (s : State) (l : LinkId), s.chip.hears l 18 →
     (s.chip.mode.mode = .dormant → Refuses (.release l) s l 18 .state) ∧
     (s.chip.mode.mode ≠ .dormant → s.chip.mode.mode ≠ .manual → Refuses (.release l) s l 18 .notOwner) ∧
     (s.chip.mode.mode = .manual → s.chip.run.cue = .paused → s.chip.run.pauseCause = some .take →
       Takes (.release l) s l 18 [.showState, .mode] [.pumpFault, .audioStarved] fun d =>
         d = { s.chip with
           run := d.run, image := d.image, clock := d.clock, playback := d.playback, lums := d.lums
           pumps := d.pumps, queue := d.queue, joining := d.joining, history := d.history, jets := d.jets
           circ := d.circ, mode := d.mode, links := d.links } ∧
         d.mode.mode = .showMode ∧ d.mode.dormancy = none ∧
         (∀ j : JetId, (d.jets[j]).owner = .showRun ∧
           ((∀ b, (s.chip.image.jets[j]).burstEnd = some b → s.chip.clock.value < b) →
             (d.jets[j]).demand = (s.chip.image.jets[j]).demand ∧
             (d.jets[j]).burstEnd = (s.chip.image.jets[j]).burstEnd ∧ d.image.jets[j] = s.chip.image.jets[j])) ∧
         (∀ p : PumpId, (d.pumps[p]).intent = (s.chip.image.pumps[p]).intent ∧
           (d.pumps[p]).policy = (s.chip.image.pumps[p]).policy) ∧
         (∀ k : LumId, ∃ x : Crossfade, (d.lums[k]).crossfade = some x ∧ x.origin = s.chip.now ∧
           ∀ q : ColourId, x.start[q] = s.chip.panelLevel (channelOf k q)) ∧
         ((d.run = { s.chip.run with cue := .restoring, pauseCause := none } ∧ d.mode.restore = some s.chip.now ∧
             d.clock = s.chip.clock ∧ d.playback = s.chip.playback ∧
             ∃ j : JetId, 0 < (d.image.jets[j]).demand ∧ (d.jets[j]).state ≠ .opened) ∨
           (d.run = { s.chip.run with cue := .running, pauseCause := none } ∧ d.mode.restore = none ∧
             d.clock.value = s.chip.clock.value ∧ d.clock.running = true ∧
             ∀ j : JetId, 0 < (d.image.jets[j]).demand → (d.jets[j]).state = .opened)))) ∧
  (∀ (s : State) (l : LinkId), s.chip.hears l 18 → s.chip.mode.mode = .manual →
     s.chip.run.cue = .idle ∨ s.chip.run.cue = .cued →
     Takes (.release l) s l 18 [.mode] [.pumpFault] fun d =>
       d = { s.chip with
         lums := d.lums, pumps := d.pumps, queue := d.queue, joining := d.joining, history := d.history, jets := d.jets
         circ := d.circ, mode := d.mode, links := d.links } ∧
       d.mode.mode = .standby ∧
       (∀ p : PumpId, (d.pumps[p]).intent = .stop ∧ (d.pumps[p]).policy = (s.chip.pumps[p]).policy) ∧
       (∀ k : LumId, ∃ x : Crossfade, (d.lums[k]).crossfade = some x ∧ x.origin = s.chip.now ∧
         ∀ q : ColourId, x.start[q] = s.chip.panelLevel (channelOf k q)) ∧
       (s.chip.circ.debt = 0 →
         d.jets = Vector.replicate 48 idleJet ∧
         (s.chip.run.cue = .idle → s.chip.mode.flushRunning = false →
           d.mode.dormancy =
             if s.chip.limits.site.dormancy = 0 then none else some ⟨s.chip.now, s.chip.limits.site.dormancy⟩))) ∧
  (∀ s : State, s.chip.resetHeld = false →
     (s.chip.run.cue ≠ .restoring → exec .restoreTimeout s = .next s) ∧
     (s.chip.run.cue = .restoring → s.chip.mode.mode = .showMode → ∀ t : Nat, s.chip.mode.restore = some t →
       Becomes .restoreTimeout s [.showState] [.audioStarved] fun d =>
         d.run = { s.chip.run with cue := .running } ∧
         d.mode = { s.chip.mode with restore := none, dormancy := none } ∧
         d.now = max s.chip.now (t + 30000) ∧ d.clock.value = s.chip.clock.value ∧ d.clock.running = true ∧
         d.image = s.chip.image ∧ d.jets = s.chip.jets ∧ d.pumps = s.chip.pumps ∧ d.queue = s.chip.queue ∧
         d.showLayer = s.chip.showLayer ∧ d.panelLayer = s.chip.panelLayer ∧ d.lums = s.chip.lums ∧
         d.pages = s.chip.pages))

/-- The three trip causes (R166, R167, R150, R151): TRIP from the panel in every mode, the emergency stop at its assertion, and
LEVEL becoming 2 when LOW_TRIP has held; each enters TRIPPED with that one cause, and in TRIPPED joins the set once and raises
TRIP again. The order of the causes in the set (log entry 28) and the moment to which the end of the debounce brings the timebase
(log entry 2) are the model's. -/
def Obligations.TripsEnterTripped : Prop :=
  (∀ (s : State) (l : LinkId), s.chip.hears l 19 →
    (s.chip.mode.mode ≠ .tripped →
      Takes (.trip l) s l 19 [.mode, .trip] [.showState, .pumpFault] fun d => s.chip.tripsTo d .panel) ∧
    (s.chip.mode.mode = .tripped →
      Takes (.trip l) s l 19 [.trip] [] fun d =>
        d = { s.chip with
          mode := { s.chip.mode with
            causes := if .panel ∈ s.chip.mode.causes then s.chip.mode.causes else s.chip.mode.causes ++ [.panel] }
          links := d.links })) ∧
  (∀ s : State, s.chip.resetHeld = false → s.chip.lines.eStop = false →
    (s.chip.mode.mode ≠ .tripped →
      Becomes .eStopAssert s [.mode, .trip] [.showState, .pumpFault] fun d =>
        Chip.tripsTo
          { s.chip with lines := { s.chip.lines with eStop := true }, sense := { s.chip.sense with eStop := true } }
          d .eStop) ∧
    (s.chip.mode.mode = .tripped →
      Becomes .eStopAssert s [.trip] [] fun d =>
        d = { s.chip with
          lines := { s.chip.lines with eStop := true }
          sense := { s.chip.sense with eStop := true }
          mode := { s.chip.mode with
            causes := if .eStop ∈ s.chip.mode.causes then s.chip.mode.causes else s.chip.mode.causes ++ [.eStop] }
          links := d.links })) ∧
  (∀ s : State, s.chip.resetHeld = false → s.chip.lines.lowTrip = true → s.chip.sense.lowTrip.state = false →
    s.chip.sense.level ≠ 2 → ∀ c : Chip, c = s.chip.reach (s.chip.sense.lowTrip.since + 2000) →
    (s.chip.mode.mode ≠ .tripped →
      Becomes (.levelDebounceExpiry .lowTrip) s [.mode, .trip] [.showState, .pumpFault] fun d =>
        Chip.tripsTo
          { c with sense := { c.sense with lowTrip := { c.sense.lowTrip with state := true }, level := 2 } } d .level) ∧
    (s.chip.mode.mode = .tripped →
      Becomes (.levelDebounceExpiry .lowTrip) s [.trip] [] fun d =>
        d = { c with
          sense := { c.sense with lowTrip := { c.sense.lowTrip with state := true }, level := 2 }
          mode := { c.mode with
            causes := if .level ∈ s.chip.mode.causes then s.chip.mode.causes else s.chip.mode.causes ++ [.level] }
          links := d.links }))

/-- CLEAR_TRIP (R168): refused outside TRIPPED, and while the emergency stop is asserted or LEVEL is 2, with the causes and
those inputs in the reply; otherwise the causes are cleared, the power is raised and a wake to STANDBY begins. -/
def Obligations.ClearTripWakesTheFountain : Prop :=
  ∀ (s : State) (l : LinkId), s.chip.hears l 20 →
    (s.chip.mode.mode ≠ .tripped → Refuses (.clearTrip l) s l 20 .state) ∧
    (s.chip.mode.mode = .tripped →
      (s.chip.sense.eStop = true ∨ s.chip.sense.level = 2 →
        Answers (.clearTrip l) s l 20 s.chip .state
          (.standing s.chip.mode.causes s.chip.sense.eStop (decide (s.chip.sense.level = 2)))) ∧
      (s.chip.sense.eStop = false → s.chip.sense.level ≠ 2 → s.chip.mode.power = .off →
        (∀ j : JetId, (s.chip.jets[j]).state = .closed) →
        Takes (.clearTrip l) s l 20 [.mode] [] fun d =>
          d = { s.chip with
            mode := { s.chip.mode with
              mode := .settling, power := .settling, settle := some ⟨s.chip.now, s.chip.limits.site.settle⟩
              wake := some .standby, causes := [] }
            links := d.links }))

/-- SLEEP (R160): taken in STANDBY with the cue state IDLE, refused with STATE elsewhere; every pump gets STOP, the
lamps send a zero frame and are silent, and with no debt the power falls exactly where no flush runs and no pump is
up. WAKE (R157, R159): a wake to STANDBY in DORMANT, at once where the power is ON and through SETTLING where it is
not; no effect in SETTLING, STANDBY, SHOW and MANUAL; STATE in TRIPPED. -/
def Obligations.SleepAndWake : Prop :=
  (∀ (s : State) (l : LinkId), s.chip.hears l 34 →
     (s.chip.mode.mode ≠ .standby ∨ s.chip.run.cue ≠ .idle → Refuses (.sleep l) s l 34 .state) ∧
     (s.chip.mode.mode = .standby → s.chip.run.cue = .idle →
       Takes (.sleep l) s l 34 [.mode] [.pumpFault] fun d =>
         d = { s.chip with
           lums := d.lums, outputs := darkOutputs, lampLine := some darkOutputs
           pumps := d.pumps, queue := d.queue, joining := d.joining, history := d.history, jets := d.jets
           circ := d.circ, mode := d.mode, links := d.links } ∧
         d.mode.mode = .dormant ∧ d.mode.dormancy = none ∧
         (∀ k : LumId, d.lums[k] = ⟨(s.chip.lums[k]).gate, .showLayer, none⟩) ∧
         (∀ p : PumpId, (d.pumps[p]).intent = .stop ∧ (d.pumps[p]).policy = (s.chip.pumps[p]).policy) ∧
         (s.chip.circ.debt = 0 →
           d.mode.power =
             if s.chip.mode.flushRunning = false ∧ ∀ p : PumpId, (d.pumps[p]).state.up = false then .off
             else s.chip.mode.power))) ∧
  (∀ (s : State) (l : LinkId), s.chip.hears l 35 →
     (s.chip.mode.mode = .tripped → Refuses (.wake l) s l 35 .state) ∧
     (s.chip.mode.mode = .settling ∨ s.chip.mode.mode = .standby ∨ s.chip.mode.mode = .showMode ∨
         s.chip.mode.mode = .manual → Answers (.wake l) s l 35 s.chip .ok .none) ∧
     (s.chip.mode.mode = .dormant → s.chip.run.cue = .idle →
       Takes (.wake l) s l 35 [.mode] [.pumpFault] fun d =>
         d = { s.chip with
           pumps := d.pumps, queue := d.queue, joining := d.joining, history := d.history, jets := d.jets
           circ := d.circ, mode := d.mode, links := d.links } ∧
         (s.chip.mode.power = .on → d.mode.mode = .standby ∧ d.mode.power = .on) ∧
         (s.chip.mode.power ≠ .on →
           d.mode = { s.chip.mode with
             mode := .settling, power := .settling, wake := some .standby, dormancy := none
             settle :=
               if s.chip.mode.power = .off then some ⟨s.chip.now, s.chip.limits.site.settle⟩ else s.chip.mode.settle })))

/-- The settle time passes (R156, R158): the power is ON, and a wake completes in its continuation; where the power was raised for a
flush in DORMANT alone (R129), the fountain stays DORMANT, no jet waits for the power any longer, and the start queue has been
tested. The dormancy timer runs out on an unattended fountain (R161): it enters DORMANT as by SLEEP; where its conditions do not
hold, nothing happens (log entry 26). The moments that the timers bring the timebase to are log entry 2. -/
def Obligations.SettleAndDormancyTimers : Prop :=
  ∀ s : State, s.chip.resetHeld = false →
    (s.chip.mode.settle = none → exec .settleExpiry s = .next s) ∧
    (∀ t : Timer, s.chip.mode.settle = some t → s.chip.mode.mode = .settling →
      s.chip.run.cue = .idle ∨ s.chip.run.cue = .cued → ∀ w : WakeTo, s.chip.mode.wake = some w →
      Becomes .settleExpiry s [.mode] [.pumpFault] fun d =>
        d.mode.power = .on ∧ d.mode.settle = none ∧ d.mode.wake = none ∧
        d.mode.mode = (match w with | .standby => .standby | .manual => .manual) ∧
        d.now = max s.chip.now (t.start + t.length * 1000) ∧ d.run = s.chip.run ∧ d.image = s.chip.image ∧
        d.playback = s.chip.playback ∧ d.clock = s.chip.clock ∧ d.limits = s.chip.limits ∧ d.pages = s.chip.pages) ∧
    (∀ t : Timer, s.chip.mode.settle = some t → s.chip.mode.mode = .dormant → s.chip.mode.flushRunning = true →
      s.chip.circ.flush ≠ none → s.chip.run.cue = .idle →
      Becomes .settleExpiry s [] [.pumpFault] fun d =>
        d = { s.chip with
          now := d.now, framesLeft := d.framesLeft, hydTimer := d.hydTimer, lampTimer := d.lampTimer, sense := d.sense
          pumps := d.pumps, queue := d.queue, joining := d.joining, history := d.history, jets := d.jets, circ := d.circ
          mode := { s.chip.mode with power := .on, settle := none, dormancy := none }
          links := d.links } ∧
        d.now = max s.chip.now (t.start + t.length * 1000) ∧ d.grantable = none ∧
        ∀ j : JetId, (d.jets[j]).owner = (s.chip.jets[j]).owner ∧ (d.jets[j]).demand = (s.chip.jets[j]).demand ∧
          ((d.jets[j]).state = .waiting → (d.jets[j]).waitCause ≠ some .noPower)) ∧
    (s.chip.mode.dormancy = none ∨ s.chip.mode.mode ≠ .standby ∨ s.chip.run.cue ≠ .idle ∨
      s.chip.mode.flushRunning = true → exec .dormancyExpiry s = .next s) ∧
    (∀ t : Timer, s.chip.mode.dormancy = some t → s.chip.mode.mode = .standby → s.chip.run.cue = .idle →
      s.chip.mode.flushRunning = false →
      Becomes .dormancyExpiry s [.mode] [.pumpFault] fun d =>
        d.mode.mode = .dormant ∧ d.mode.dormancy = none ∧ d.now = max s.chip.now (t.start + t.length * 60000) ∧
        (∀ p : PumpId, (d.pumps[p]).intent = .stop ∧ (d.pumps[p]).policy = (s.chip.pumps[p]).policy) ∧
        d.outputs = darkOutputs ∧ d.lampLine = some darkOutputs ∧ d.run = s.chip.run ∧ d.image = s.chip.image ∧
        d.playback = s.chip.playback ∧ d.limits = s.chip.limits ∧ d.pages = s.chip.pages)

/-- Power-on reset (R169, R20, R47, R78, R103, R119, R130, R144, R154, R170): whatever stood before, every record has
its power-on value and the roles come from the straps, the lowest link keeping a role that several select; an
emergency stop held through it trips the fountain at once. Line reset (R169, R20, R170): from the assertion the field
lines are forced off and the links emptied; at the release the pages keep their contents, a LIVE page READY, an
interrupted one INVALID, and the rest of the part, its limit table too, takes its power-on values; an emergency
stop asserted at the release trips the fountain at once (R151). The model's choice: the 0 of
a slot's sense and threshold, of the stable-since times at power-on and of the origin of a channel record (log entry 5), the tick
from which the LOCAL clock is counted (log entry 2) and a cleared step's open bytes (log entry 31), a release without an assertion (log entry 24), and what the assertion drops at once, the field `sent` kept (log
entries 30 and 12). -/
def Obligations.ResetValues : Prop :=
  (∀ (s : State) (lines : Lines),
     (lines.eStop = false → ∃ d : Chip, exec (.powerOnReset lines) s = .next { s with chip := d } ∧
       d.mode = ⟨.dormant, .off, none, none, false, none, none, []⟩ ∧ d.resetHeld = false ∧ d.lines = lines ∧
       d.pages = Vector.replicate 4
         ⟨.free, Vector.replicate 1024 0, Vector.replicate 16 none, Vector.replicate 8 ⟨0, 0, 0⟩, none⟩ ∧
       d.run = ⟨.idle, none, none, none, none, none, #v[0, 0, 0, 0], none, none, none, none⟩ ∧
       d.image = clearedImage ∧ d.playback = ⟨.off, false, 0, 0, none, ⟨0, 0⟩, 0, []⟩ ∧ d.gain = ⟨256, 256, 0⟩ ∧
       (d.clock.value, d.clock.source, d.clock.running) = (0, .localTime, false) ∧
       (∀ p : PumpId, (d.pumps[p]).state = .outOfService ∧ (d.pumps[p]).intent = .stop ∧ (d.pumps[p]).policy = .follow ∧
         (d.pumps[p]).stopPending = false ∧ (d.pumps[p]).lastGrant = none ∧ (d.pumps[p]).idleExpiry = none ∧
         (d.pumps[p]).faultCause = none ∧ (d.pumps[p]).target = 0 ∧ (d.pumps[p]).setpoint = 0) ∧
       d.queue = [] ∧ d.history = [] ∧ d.jets = Vector.replicate 48 idleJet ∧
       (d.circ.debt, d.circ.periodTimer, d.circ.pointer, d.circ.mask, d.circ.flush) = (0, 0, 0, 0, none) ∧
       d.showLayer = Vector.replicate 128 ⟨0, 0, 0, 0, .showTime⟩ ∧
       d.panelLayer = Vector.replicate 128 ⟨0, 0, 0, 0, .localTime⟩ ∧
       d.lums = Vector.replicate 32 ⟨0, .showLayer, none⟩ ∧ d.outputs = darkOutputs ∧
       d.sense = resetSensing 0 false ∧ d.limits = defaultLimits ∧ d.protection = .opened ∧ d.siteCode = none ∧
       (∀ l : LinkId, d.links[l] = ⟨(d.links[l]).role, (lines.straps[l]).fast, .hunt, false, none, [], [], []⟩ ∧
         ((d.links[l]).role = .program ↔
           strapSelects lines.straps[l] = .program ∧ ∀ m : LinkId, m < l → strapSelects lines.straps[m] ≠ .program) ∧
         ((d.links[l]).role = .panel ↔
           strapSelects lines.straps[l] = .panel ∧ ∀ m : LinkId, m < l → strapSelects lines.straps[m] ≠ .panel))) ∧
     (lines.eStop = true → ∃ d : Chip, exec (.powerOnReset lines) s = .next { s with chip := d } ∧
       d.mode.mode = .tripped ∧ d.mode.causes = [.eStop] ∧ d.sense.eStop = true ∧ d.limits = defaultLimits ∧
       ∀ l : LinkId, .mode ∈ (d.links[l]).notices ∧ .trip ∈ (d.links[l]).notices)) ∧
  (∀ s : State,
     (∃ d : Chip, exec .lineResetAssert s = .next { s with chip := d } ∧
       d.resetHeld = true ∧ d.mode.power = .off ∧ d.pwrEn = false ∧ (∀ p : PumpId, d.runLine p = false) ∧
       (∀ j : JetId, d.valve j = false) ∧ d.audioLine = ⟨0, 0⟩ ∧ d.pages = s.chip.pages ∧
       ∀ l : LinkId, d.attn l = false ∧ d.links[l] =
         ⟨(s.chip.links[l]).role, (s.chip.links[l]).fast, .hunt, false, none, [], [], (s.chip.links[l]).sent⟩) ∧
     (∀ straps : Vector StrapPins 3,
       ∃ d : Chip, d = s.chip.lineResetValues straps ∧
         (s.chip.lines.eStop = false → exec (.lineResetRelease straps) s = .next { s with chip := d }) ∧
         (s.chip.lines.eStop = true → ∃ t : Chip, exec (.lineResetRelease straps) s = .next { s with chip := t } ∧
           d.noticed t [.mode, .trip] [] ∧ d.tripsTo t .eStop) ∧
         d.resetHeld = false ∧ d.lines = { s.chip.lines with straps := straps } ∧
         d.mode = ⟨.dormant, .off, none, none, false, none, none, []⟩ ∧
         (∀ k : PageId,
           ((s.chip.pages[k]).state = .free ∨ (s.chip.pages[k]).state = .ready ∨ (s.chip.pages[k]).state = .invalid →
             d.pages[k] = s.chip.pages[k]) ∧
           ((s.chip.pages[k]).state = .live → d.pages[k] = { s.chip.pages[k] with state := .ready }) ∧
           ((s.chip.pages[k]).state = .loading ∨ (s.chip.pages[k]).state = .checking →
             d.pages[k] = { s.chip.pages[k] with state := .invalid, fault := some ⟨none, none, .interrupted⟩ })) ∧
         d.run = ⟨.idle, none, none, none, none, none, #v[0, 0, 0, 0], none, none, none, none⟩ ∧
         d.image = clearedImage ∧ d.playback = ⟨.off, false, 0, 0, none, ⟨0, 0⟩, 0, []⟩ ∧ d.gain = ⟨256, 256, 0⟩ ∧
         (∀ p : PumpId, (d.pumps[p]).state = .outOfService ∧ (d.pumps[p]).lastGrant = none) ∧ d.queue = [] ∧
         d.history = [] ∧ d.jets = Vector.replicate 48 idleJet ∧ d.limits = defaultLimits ∧ d.protection = .opened ∧
         d.siteCode = none ∧ d.links = strapLinks straps ∧ d.clock = ⟨0, .localTime, false, s.chip.now⟩ ∧
         (d.circ.debt, d.circ.periodTimer, d.circ.pointer, d.circ.mask, d.circ.flush) = (0, 0, 0, 0, none) ∧
         d.sense = resetSensing s.chip.now s.chip.lines.eStop ∧ d.outputs = darkOutputs ∧
         d.showLayer = Vector.replicate 128 ⟨0, 0, 0, 0, .showTime⟩ ∧
         d.panelLayer = Vector.replicate 128 ⟨0, 0, 0, 0, .localTime⟩ ∧
         d.lums = Vector.replicate 32 ⟨0, .showLayer, none⟩))

/-- RESTART (R169, R103, R18, R172): its OK is sent behind the replies that wait; the limit table, the protection, the site
code, the grant history and the zone mask are kept; pumps that were up rest for a full t_rest; pages are as after a line
reset; all else takes its reset values. An emergency stop asserted through it trips the fountain at once (R151, R169). The field
`sent` with the replies that went out (log entry 12), the place of the owed PAGE_CLOSE's answer behind the OK (log entry 22), the
origin 0 of a channel record (log entry 5) and the tick from which the LOCAL clock is counted (log entry 2) are the model's
choice. -/
def Obligations.RestartValues : Prop :=
  ∀ (s : State) (l : LinkId), s.chip.hears l 21 →
    ∃ d : Chip, d = (s.chip.reply l 21 .ok .none).restartValues ∧
      (s.chip.lines.eStop = false → exec (.restart l) s = .next { s with chip := d }) ∧
      (s.chip.lines.eStop = true → ∃ t : Chip, exec (.restart l) s = .next { s with chip := t } ∧
        d.noticed t [.mode, .trip] [] ∧ d.tripsTo t .eStop) ∧
      d.sense = resetSensing s.chip.now s.chip.lines.eStop ∧ d.now = s.chip.now ∧
      d.mode = ⟨.dormant, .off, none, none, false, none, none, []⟩ ∧
      d.limits = s.chip.limits ∧ d.protection = s.chip.protection ∧ d.siteCode = s.chip.siteCode ∧
      d.history = s.chip.history ∧ d.queue = [] ∧
      d.circ = ⟨0, 0, s.chip.limits.site.period, 0, s.chip.circ.mask, none⟩ ∧
      d.clock = ⟨0, .localTime, false, s.chip.now⟩ ∧
      d.showLayer = Vector.replicate 128 ⟨0, 0, 0, 0, .showTime⟩ ∧
      d.panelLayer = Vector.replicate 128 ⟨0, 0, 0, 0, .localTime⟩ ∧
      d.lums = Vector.replicate 32 ⟨0, .showLayer, none⟩ ∧ d.lines = s.chip.lines ∧
      (∀ m : LinkId, d.links[m] =
        ⟨(s.chip.links[m]).role, (s.chip.links[m]).fast, .hunt, false, none, [], [],
          (s.chip.links[m]).replies ++ (if m = l then [⟨21, .ok, .none⟩] else []) ++
            (match (s.chip.links[m]).owed with
              | some kind => [⟨kind, .ok, .checked .invalid (some ⟨none, none, .interrupted⟩)⟩]
              | none => [])⟩) ∧
      (∀ p : PumpId, (d.pumps[p]).intent = .stop ∧ (d.pumps[p]).policy = .follow ∧ (d.pumps[p]).stopPending = false ∧
        (d.pumps[p]).idleExpiry = none ∧ (d.pumps[p]).lastGrant = (s.chip.pumps[p]).lastGrant ∧
        (d.pumps[p]).faultCause = (s.chip.pumps[p]).faultCause ∧ (d.pumps[p]).target = 0 ∧ (d.pumps[p]).setpoint = 0 ∧
        ((s.chip.pumps[p]).state.up = false →
          (d.pumps[p]).state = (s.chip.pumps[p]).state ∧ (d.pumps[p]).restEnd = (s.chip.pumps[p]).restEnd) ∧
        ((s.chip.pumps[p]).state.up = true → (d.pumps[p]).state = .resting ∧
          (d.pumps[p]).restEnd = s.chip.now + (s.chip.limits.pumps[p]).rest * 1000)) ∧
      (∀ k : PageId,
        d.pages[k] = match (s.chip.pages[k]).state with
          | .live => { s.chip.pages[k] with state := .ready }
          | .loading | .checking => { s.chip.pages[k] with state := .invalid, fault := some ⟨none, none, .interrupted⟩ }
          | .free | .ready | .invalid => s.chip.pages[k]) ∧
      d.run = ⟨.idle, none, none, none, none, none, #v[0, 0, 0, 0], none, none, none, none⟩ ∧
      d.image = clearedImage ∧ d.playback = ⟨.off, false, 0, 0, none, ⟨0, 0⟩, 0, []⟩ ∧ d.gain = ⟨256, 256, 0⟩ ∧
      d.jets = Vector.replicate 48 idleJet ∧ d.outputs = darkOutputs

/-! ## Manual control, circulation and the table -/

/-- JET_SET (R113, R107): its tests in their order; then each jet of the set is the panel's, with the demand clamped to 1000 and no
burst end, CLOSED at demand 0, OPEN on a RUNNING pump and WAITING on any other; and no other jet's owner or demand changes. -/
def Obligations.JetSetWritesItsJets : Prop :=
  ∀ (s : State) (l : LinkId) (set : JetSet) (demand : Nat), s.chip.hears l 22 →
    (s.chip.mode.mode = .dormant → Refuses (.jetSet l set demand) s l 22 .state) ∧
    (s.chip.mode.mode ≠ .dormant → s.chip.mode.mode ≠ .manual → Refuses (.jetSet l set demand) s l 22 .notOwner) ∧
    (s.chip.mode.mode = .manual → set = 0 → Refuses (.jetSet l set demand) s l 22 .badArg) ∧
    (s.chip.mode.mode = .manual → set ≠ 0 →
      Takes (.jetSet l set demand) s l 22 [] [.pumpFault] fun d =>
        d = { s.chip with
          pumps := d.pumps, queue := d.queue, joining := d.joining, history := d.history, jets := d.jets
          circ := d.circ, links := d.links } ∧
        (s.chip.circ.flush = none → d.circ = s.chip.circ) ∧
        (∀ p : PumpId, (d.pumps[p]).intent = (s.chip.pumps[p]).intent ∧
          (d.pumps[p]).policy = (s.chip.pumps[p]).policy) ∧
        (∀ j : JetId,
          (set.getLsbD j.val = true →
            (d.jets[j]).owner = .panel ∧ (d.jets[j]).demand = (if 1000 < demand then 1000 else demand) ∧
            (d.jets[j]).burstEnd = none ∧
            (d.jets[j]).state =
              (if demand = 0 then .closed
              else if (d.pumps[s.chip.pumpOf j]).state = .running then .opened else .waiting)) ∧
          (set.getLsbD j.val = false →
            (d.jets[j]).owner = (s.chip.jets[j]).owner ∧ (d.jets[j]).demand = (s.chip.jets[j]).demand ∧
            (d.jets[j]).burstEnd = (s.chip.jets[j]).burstEnd)))

/-- PUMP_START, PUMP_STOP and PUMP_POLICY (R100, R83, R92): the tests they share; then one field of each pump of the
set, and of no other pump. A started pump that was STOPPED or RESTING waits in the queue or has been granted; a
stopped pump whose jets want nothing leaves the queue, rests, or has its stop pending. CLEAR_PUMP (R98, R108): its
tests in their order, in every mode; then the pump rests for a full t_rest without a fault cause, it joins the queue
where run demand stands (R82), with the requester that R83 gives, and only there; and its waiting jets wait for the start or for the power. -/
def Obligations.ManualPumpRequests : Prop :=
  (∀ (s : State) (l : LinkId) (set : PumpSet) (policy : Nat),
     (∀ (i : Instr) (kind : Nat), (i, kind) ∈ [(Instr.pumpStart l set, 23), (.pumpStop l set, 24),
         (.pumpPolicy l set policy, 25)] → s.chip.hears l kind →
       (s.chip.mode.mode = .dormant → Refuses i s l kind .state) ∧
       (s.chip.mode.mode ≠ .dormant → s.chip.mode.mode ≠ .manual → Refuses i s l kind .notOwner) ∧
       (s.chip.mode.mode = .manual → set = 0 ∨ 4096 ≤ set.toNat → Refuses i s l kind .badArg)) ∧
     (s.chip.hears l 25 → s.chip.mode.mode = .manual → 2 ≤ policy → Refuses (.pumpPolicy l set policy) s l 25 .badArg) ∧
     (s.chip.mode.mode = .manual → set ≠ 0 → set.toNat < 4096 →
       (s.chip.hears l 23 → Takes (.pumpStart l set) s l 23 [] [.pumpFault] fun d =>
         d = { s.chip with
           pumps := d.pumps, queue := d.queue, joining := d.joining, history := d.history, jets := d.jets
           circ := d.circ, links := d.links } ∧
         ∀ p : PumpId, (d.pumps[p]).policy = (s.chip.pumps[p]).policy ∧
           (d.pumps[p]).intent = (if set.getLsbD p.val = true then .run else (s.chip.pumps[p]).intent) ∧
           (set.getLsbD p.val = true → (s.chip.pumps[p]).state = .resting → ∃ e ∈ d.queue, e.pump = p) ∧
           (set.getLsbD p.val = true → (s.chip.pumps[p]).state = .stopped →
             (∃ e ∈ d.queue, e.pump = p) ∨ (d.pumps[p]).lastGrant = some s.chip.now)) ∧
       (s.chip.hears l 24 → Takes (.pumpStop l set) s l 24 [] [.pumpFault] fun d =>
         d = { s.chip with
           pumps := d.pumps, queue := d.queue, joining := d.joining, history := d.history, jets := d.jets
           circ := d.circ, links := d.links } ∧
         ∀ p : PumpId, (d.pumps[p]).policy = (s.chip.pumps[p]).policy ∧
           (d.pumps[p]).intent = (if set.getLsbD p.val = true then .stop else (s.chip.pumps[p]).intent) ∧
           (set.getLsbD p.val = true → (∀ j : JetId, s.chip.pumpOf j = p → (s.chip.jets[j]).demand = 0) →
             ((s.chip.pumps[p]).state = .stopped ∨ (s.chip.pumps[p]).state = .resting →
               ∀ e ∈ d.queue, e.pump ≠ p) ∧
             ((s.chip.pumps[p]).state = .priming → (d.pumps[p]).state = .priming ∧ (d.pumps[p]).stopPending = true) ∧
             ((s.chip.pumps[p]).state = .running → s.chip.now < (s.chip.pumps[p]).runMinEnd →
               (d.pumps[p]).state = .running ∧ (d.pumps[p]).stopPending = true) ∧
             ((s.chip.pumps[p]).state = .running → (s.chip.pumps[p]).runMinEnd ≤ s.chip.now →
               (d.pumps[p]).state = if s.chip.lines.drvOk[p] then .resting else .faulted))) ∧
       (s.chip.hears l 25 → policy < 2 → Takes (.pumpPolicy l set policy) s l 25 [] [.pumpFault] fun d =>
         d = { s.chip with
           pumps := d.pumps, queue := d.queue, joining := d.joining, history := d.history, jets := d.jets
           circ := d.circ, links := d.links } ∧
         ∀ p : PumpId, (d.pumps[p]).intent = (s.chip.pumps[p]).intent ∧
           (d.pumps[p]).policy =
             (if set.getLsbD p.val = true then (if policy = 0 then .follow else .explicit)
             else (s.chip.pumps[p]).policy)))) ∧
  (∀ (s : State) (l : LinkId), s.chip.hears l 26 →
     (∀ n : Nat, 12 ≤ n → Refuses (.clearPump l n) s l 26 .badArg) ∧
     (∀ p : PumpId,
       ((s.chip.pumps[p]).state ≠ .faulted → Refuses (.clearPump l p) s l 26 .state) ∧
       ((s.chip.pumps[p]).state = .faulted → s.chip.lines.drvOk[p] = false → Refuses (.clearPump l p) s l 26 .state) ∧
       ((s.chip.pumps[p]).state = .faulted → s.chip.lines.drvOk[p] = true →
         Takes (.clearPump l p) s l 26 [] [.pumpFault] fun d =>
           d = { s.chip with
             pumps := d.pumps, queue := d.queue, joining := d.joining, history := d.history, jets := d.jets
             circ := d.circ, links := d.links } ∧
           (d.pumps[p]).state = .resting ∧ (d.pumps[p]).faultCause = none ∧ (d.pumps[p]).setpoint = 0 ∧
           (d.pumps[p]).restEnd = s.chip.now + (s.chip.limits.pumps[p]).rest * 1000 ∧
           (d.pumps[p]).intent = (s.chip.pumps[p]).intent ∧ (d.pumps[p]).policy = (s.chip.pumps[p]).policy ∧
           (∀ byJet byFlush : Bool,
             (byJet = true ↔ ∃ j : JetId, s.chip.pumpOf j = p ∧ 0 < (s.chip.jets[j]).demand ∧
               (s.chip.jets[j]).owner ≠ .none) →
             (byFlush = true ↔ ∃ j : JetId, s.chip.pumpOf j = p ∧ 0 < (s.chip.jets[j]).demand ∧
               (s.chip.jets[j]).owner = .flush) →
             ((s.chip.pumps[p]).intent = .run ∨ ((s.chip.pumps[p]).policy = .follow ∧ byJet = true) ∨ byFlush = true →
               s.chip.mode.mode ≠ .tripped →
               (∃ e ∈ d.queue, e.pump = p) ∧
               ((∀ e ∈ s.chip.queue ++ s.chip.joining, e.pump ≠ p) →
                 ∃ e ∈ d.queue, e = ⟨p, if byFlush = true then .flush
                   else if (s.chip.pumps[p]).intent = .run then
                     (if s.chip.mode.mode = .showMode then .showRun else .panel)
                   else .follow, s.chip.now⟩)) ∧
             ((s.chip.pumps[p]).intent = .stop → (s.chip.pumps[p]).policy = .explicit ∨ byJet = false → byFlush = false →
               (∀ e ∈ s.chip.queue ++ s.chip.joining, e.pump ≠ p) → ∀ e ∈ d.queue, e.pump ≠ p)) ∧
           (∀ j : JetId, (d.jets[j]).owner = (s.chip.jets[j]).owner ∧ (d.jets[j]).demand = (s.chip.jets[j]).demand ∧
             (s.chip.pumpOf j = p → (s.chip.jets[j]).state ≠ .closed →
               (d.jets[j]).state = .waiting ∧
               (d.jets[j]).waitCause = some (if s.chip.mode.power = .on then .pumpStarting else .noPower))))))

/-- LIGHT_SET (R135): its tests in their order; then one fade on real time, from the present panel level to the level clamped to
4095, for each masked channel of the luminaires named; no other channel and no other state changes. -/
def Obligations.LightSetFadesThePanelLayer : Prop :=
  ∀ (s : State) (l : LinkId) (lums : LumSet) (mask : ChannelMask) (red green blue white fade : Nat), s.chip.hears l 27 →
    ∀ i : Instr, i = .lightSet l lums mask red green blue white fade →
    (s.chip.mode.mode = .dormant → Refuses i s l 27 .state) ∧
    (s.chip.mode.mode ≠ .dormant → s.chip.mode.mode ≠ .manual → Refuses i s l 27 .notOwner) ∧
    (s.chip.mode.mode = .manual → lums = 0 ∨ mask = 0 → Refuses i s l 27 .badArg) ∧
    (s.chip.mode.mode = .manual → lums ≠ 0 → mask ≠ 0 →
      Takes i s l 27 [] [] fun d =>
        d = { s.chip with panelLayer := d.panelLayer, links := d.links } ∧
        ∀ (u : LumId) (k : ColourId), d.panelLayer[channelOf u k] =
          if lums.getLsbD u.val = true ∧ mask.getLsbD k.val = true then
            ⟨s.chip.panelLevel (channelOf u k), min 4095 (#v[red, green, blue, white])[k], s.chip.now, fade, .localTime⟩
          else s.chip.panelLayer[channelOf u k])

/-- ZONE_MASK and FLUSH_ALL (R122, R123, R127): the mask is replaced in every mode, and in STANDBY without debt that is all;
FLUSH_ALL is tested in its order and begins a run on the lowest flushable zone, whatever the debt and the pointer. -/
def Obligations.ZoneMaskAndFlushAll : Prop :=
  ∀ (s : State) (l : LinkId),
    (s.chip.hears l 28 → ∀ mask : ZoneMask,
      (∃ d : Chip, exec (.zoneMask l mask) s = .next { s with chip := d } ∧ d.circ.mask = mask ∧
        ⟨28, .ok, .none⟩ ∈ (d.links[l]).replies) ∧
      (s.chip.mode.mode = .standby → s.chip.run.cue = .idle → s.chip.circ.debt = 0 →
        Takes (.zoneMask l mask) s l 28 [] [] fun d =>
          d = { s.chip with circ := { s.chip.circ with mask := mask }, mode := d.mode, links := d.links } ∧
          d.mode = { s.chip.mode with dormancy := d.mode.dormancy })) ∧
    (s.chip.hears l 29 →
      (s.chip.mode.mode ≠ .dormant ∧ s.chip.mode.mode ≠ .standby → Refuses (.flushAll l) s l 29 .state) ∧
      (s.chip.run.cue ≠ .idle ∧ s.chip.run.cue ≠ .cued → Refuses (.flushAll l) s l 29 .state) ∧
      (s.chip.circ.flush ≠ none → Refuses (.flushAll l) s l 29 .state) ∧
      ((∀ z : ZoneId, s.chip.flushable z = false) → Refuses (.flushAll l) s l 29 .state) ∧
      (s.chip.mode.mode = .dormant ∨ s.chip.mode.mode = .standby → s.chip.run.cue = .idle ∨ s.chip.run.cue = .cued →
        s.chip.circ.flush = none → ∀ z : ZoneId, s.chip.flushable z = true →
        (∀ y : ZoneId, y < z → s.chip.flushable y = false) →
        Takes (.flushAll l) s l 29 [] [.pumpFault] fun d =>
          d = { s.chip with
            pumps := d.pumps, queue := d.queue, joining := d.joining, history := d.history, jets := d.jets
            circ := d.circ, mode := d.mode, links := d.links } ∧
          d.circ.debt = s.chip.circ.debt ∧ d.circ.pointer = s.chip.circ.pointer ∧ d.circ.mask = s.chip.circ.mask ∧
          (∃ f : Flush, d.circ.flush = some f ∧
            (f.mode, f.zone, f.start, f.height, f.duration, f.openTime, f.dryTime) =
              (.all, z, s.chip.now, s.chip.limits.site.flushHeight, s.chip.limits.site.flushDuration, 0, 0)) ∧
          d.mode.flushRunning = true ∧ d.mode.mode = s.chip.mode.mode ∧ d.mode.dormancy = none ∧
          (s.chip.mode.mode = .dormant → s.chip.mode.power = .off → d.mode.power = .settling) ∧
          (∀ j : JetId,
            ((s.chip.limits.jets[j]).zone = z →
              (d.jets[j]).owner = .flush ∧ (d.jets[j]).demand = s.chip.limits.site.flushHeight ∧
              (d.jets[j]).burstEnd = none) ∧
            ((s.chip.limits.jets[j]).zone ≠ z →
              (d.jets[j]).owner = (s.chip.jets[j]).owner ∧ (d.jets[j]).demand = (s.chip.jets[j]).demand))))

/-- LIMIT_WRITE (R177, R99, R149): the protection and the mode, then the payload and its ranges, then the conflicts, the first that
fails giving the code; a section taken is written whole and the other four stand; the in-service entries and the wind
factors take effect at once. -/
def Obligations.LimitWriteTests : Prop :=
  ∀ (s : State) (l : LinkId) (n : Nat) (bytes : List Byte), s.chip.hears l 31 →
    (s.chip.protection = .locked → Refuses (.limitWrite l n bytes) s l 31 .locked) ∧
    (s.chip.protection = .guarded → s.chip.mode.mode = .showMode ∨ s.chip.mode.mode = .manual →
      Refuses (.limitWrite l n bytes) s l 31 .state) ∧
    (s.chip.protection = .opened ∨
        (s.chip.protection = .guarded ∧ s.chip.mode.mode ≠ .showMode ∧ s.chip.mode.mode ≠ .manual) →
      (sectionOfBytes n bytes = none → Refuses (.limitWrite l n bytes) s l 31 .badArg) ∧
      (∀ es : Vector JetLimit 48, sectionOfBytes n bytes = some (.jets es) →
        ((∃ j : JetId, (s.chip.jets[j]).state ≠ .closed ∧
            ((es[j]).pump ≠ (s.chip.limits.jets[j]).pump ∨ (es[j]).zone ≠ (s.chip.limits.jets[j]).zone)) →
          Refuses (.limitWrite l n bytes) s l 31 .state) ∧
        ((∀ j : JetId, (s.chip.jets[j]).state ≠ .closed →
            (es[j]).pump = (s.chip.limits.jets[j]).pump ∧ (es[j]).zone = (s.chip.limits.jets[j]).zone) →
          ∃ d : Chip, exec (.limitWrite l n bytes) s = .next { s with chip := d } ∧
            d.limits = { s.chip.limits with jets := es } ∧ ⟨31, .ok, .none⟩ ∈ (d.links[l]).replies)) ∧
      (∀ es : Vector PumpLimit 12, sectionOfBytes n bytes = some (.pumps es) →
        ((∃ p : PumpId, (s.chip.pumps[p]).state.up = true ∧ (s.chip.limits.pumps[p]).inService = true ∧
            (es[p]).inService = false) → Refuses (.limitWrite l n bytes) s l 31 .state) ∧
        ((∀ p : PumpId, (s.chip.pumps[p]).state.up = true → (s.chip.limits.pumps[p]).inService = true →
            (es[p]).inService = true) →
          ∃ d : Chip, exec (.limitWrite l n bytes) s = .next { s with chip := d } ∧
            d.limits = { s.chip.limits with pumps := es } ∧ ⟨31, .ok, .none⟩ ∈ (d.links[l]).replies ∧
            ∀ p : PumpId,
              ((s.chip.limits.pumps[p]).inService = true → (es[p]).inService = false →
                (d.pumps[p]).state = .outOfService ∧ (d.pumps[p]).faultCause = none ∧ ∀ e ∈ d.queue, e.pump ≠ p) ∧
              ((s.chip.limits.pumps[p]).inService = false → (es[p]).inService = true →
                s.chip.lines.drvOk[p] = false → (d.pumps[p]).state = .faulted) ∧
              ((s.chip.limits.pumps[p]).inService = false → (es[p]).inService = true →
                s.chip.lines.drvOk[p] = true → (d.pumps[p]).state = .stopped ∨ (d.pumps[p]).state = .priming))) ∧
      (∀ e : SiteLimit, sectionOfBytes n bytes = some (.site e) →
        ∃ d : Chip, exec (.limitWrite l n bytes) s = .next { s with chip := d } ∧
          d.limits = { s.chip.limits with site := e } ∧ ⟨31, .ok, .none⟩ ∈ (d.links[l]).replies) ∧
      (∀ es : Vector WindLimit 4, sectionOfBytes n bytes = some (.wind es) →
        ∃ d : Chip, exec (.limitWrite l n bytes) s = .next { s with chip := d } ∧
          d.limits = { s.chip.limits with wind := es } ∧ ⟨31, .ok, .none⟩ ∈ (d.links[l]).replies ∧
          ∀ w : Fin 4, d.sense.factors[w] = windFactor es[w] s.chip.sense.vAvg) ∧
      (∀ es : Vector LumLimit 32, sectionOfBytes n bytes = some (.lums es) →
        ∃ d : Chip, exec (.limitWrite l n bytes) s = .next { s with chip := d } ∧
          d.limits = { s.chip.limits with lums := es } ∧ ⟨31, .ok, .none⟩ ∈ (d.links[l]).replies))

/-- COMMISSION and RELAX by the protection level (R176). -/
def Obligations.ProtectionLevels : Prop :=
  ∀ (s : State) (l : LinkId) (code : Nat),
    (s.chip.hears l 32 →
      (code = 0 → Refuses (.commission l code) s l 32 .badArg) ∧
      (1 ≤ code → code ≤ 65535 →
        (s.chip.protection = .opened →
          Answers (.commission l code) s l 32 { s.chip with protection := .locked, siteCode := some code } .ok .none) ∧
        (s.chip.protection ≠ .opened → s.chip.siteCode = some code →
          Answers (.commission l code) s l 32 { s.chip with protection := .locked } .ok .none) ∧
        (s.chip.protection ≠ .opened → s.chip.siteCode ≠ some code →
          Refuses (.commission l code) s l 32 .codeMismatch))) ∧
    (s.chip.hears l 33 →
      (code = 0 → Refuses (.relax l code) s l 33 .badArg) ∧
      (1 ≤ code → code ≤ 65535 →
        (s.chip.protection = .locked → s.chip.siteCode = some code →
          Answers (.relax l code) s l 33 { s.chip with protection := .guarded } .ok .none) ∧
        (s.chip.protection ≠ .locked ∨ s.chip.siteCode ≠ some code →
          Refuses (.relax l code) s l 33 .codeMismatch)))

/-- STATUS reports the link's notice set, the last mark, the trip causes and the FAULTED pumps, and empties that link's set alone
(R173); the eight READ requests report their records and change nothing (R174). -/
def Obligations.StatusAndReads : Prop :=
  ∀ (s : State) (l : LinkId),
    (s.chip.hears l 36 →
      Answers (.status l) s l 36
        { s.chip with links := s.chip.links.set l { s.chip.links[l] with notices := [] } } .ok
        (.status (s.chip.links[l]).notices s.chip.run.lastMark s.chip.mode.causes
          ((List.finRange 12).filter fun p => decide ((s.chip.pumps[p]).state = .faulted)))) ∧
    (s.chip.hears l 37 → Answers (.readShow l) s l 37 s.chip .ok
      (.readShow s.chip.run s.chip.image
        ⟨s.chip.playback.state, s.chip.playback.music, s.chip.playback.p, s.chip.playback.p0, s.chip.playback.endAt,
          s.chip.playback.held, s.chip.playback.r⟩
        s.chip.playback.buffer.length s.chip.gain
        ⟨s.chip.clock.value, s.chip.clock.source, s.chip.clock.running⟩)) ∧
    (s.chip.hears l 38 → Answers (.readPumps l) s l 38 s.chip .ok
      (.readPumps (s.chip.pumps.map fun q =>
          ⟨q.state, q.intent, q.policy, q.stopPending, q.lastGrant, q.stateEntry, q.idleExpiry, q.faultCause, q.target,
            q.setpoint⟩)
        s.chip.queue s.chip.history)) ∧
    (s.chip.hears l 39 → Answers (.readJets l) s l 39 s.chip .ok (.readJets s.chip.jets s.chip.limits.jets)) ∧
    (s.chip.hears l 40 →
      (∀ u : LumId, Answers (.readLamps l u) s l 40 s.chip .ok
        (.readLamps s.chip.lums[u] (Vector.ofFn fun k => s.chip.showLayer[channelOf u k])
          (Vector.ofFn fun k => s.chip.panelLayer[channelOf u k]) s.chip.outputs)) ∧
      (∀ n : Nat, 32 ≤ n → Refuses (.readLamps l n) s l 40 .badArg)) ∧
    (s.chip.hears l 41 → Answers (.readSite l) s l 41 s.chip .ok
      (.readSite s.chip.sense
        ⟨s.chip.circ.debt, s.chip.circ.periodTimer, s.chip.circ.pointer, s.chip.circ.mask, s.chip.circ.flush⟩
        s.chip.mode)) ∧
    (s.chip.hears l 42 →
      Answers (.readLimits l 0) s l 42 s.chip .ok (.readLimits (.jets s.chip.limits.jets) s.chip.protection) ∧
      Answers (.readLimits l 1) s l 42 s.chip .ok (.readLimits (.pumps s.chip.limits.pumps) s.chip.protection) ∧
      Answers (.readLimits l 2) s l 42 s.chip .ok (.readLimits (.site s.chip.limits.site) s.chip.protection) ∧
      Answers (.readLimits l 3) s l 42 s.chip .ok (.readLimits (.wind s.chip.limits.wind) s.chip.protection) ∧
      Answers (.readLimits l 4) s l 42 s.chip .ok (.readLimits (.lums s.chip.limits.lums) s.chip.protection) ∧
      (∀ n : Nat, 5 ≤ n → Refuses (.readLimits l n) s l 42 .badArg)) ∧
    (s.chip.hears l 43 →
      (∀ k : PageId, Answers (.readPage l k) s l 43 s.chip .ok
        (.readPage (s.chip.pages[k]).state (s.chip.pages[k]).scenes (s.chip.pages[k]).slots (s.chip.pages[k]).fault)) ∧
      (∀ n : Nat, 4 ≤ n → Refuses (.readPage l n) s l 43 .badArg)) ∧
    (s.chip.hears l 44 → ∀ (n start count : Nat),
      (∀ h : n < 4, 1 ≤ count → count ≤ 64 → start + count ≤ 1024 →
        ∃ steps : List RawStep,
          Answers (.readSteps l n start count) s l 44 s.chip .ok (.readSteps steps) ∧ steps.length = count ∧
          ∀ (i : Nat) (hi : i < 1024) (_ : start ≤ i) (_ : i < start + count),
            steps[i - start]? = some (s.chip.pages[n]).steps[i]) ∧
      (4 ≤ n ∨ count = 0 ∨ 64 < count ∨ 1024 < start + count →
        Refuses (.readSteps l n start count) s l 44 .badArg))

/-! ## Sensing -/

/-- The anemometer (R146, R147): a pulse counts up to 65,535; at the close of the gate the sample enters the ring, average and
peak follow, and without a gust onset (R148) nothing but the sensing record and the passing of time has changed. -/
def Obligations.WindGateSamples : Prop :=
  ∀ s : State, s.chip.resetHeld = false →
    exec .anemometerPulse s = .next { s with chip := { s.chip with sense := { s.chip.sense with
      pulses := if s.chip.sense.pulses < 65535 then s.chip.sense.pulses + 1 else 65535 } } } ∧
    (∀ v : Nat, v = min 999 (s.chip.sense.pulses * s.chip.limits.site.windScale / 16) →
      ∀ ring : List Nat, ring = (if s.chip.sense.ring = [] then List.replicate 8 v else s.chip.sense.ring.drop 1 ++ [v]) →
      (∃ d : Chip, exec .windGateClose s = .next { s with chip := d } ∧
        (d.sense.lastCount, d.sense.pulses, d.sense.ring, d.sense.vAvg, d.sense.vPeak, d.sense.previous) =
          (some s.chip.sense.pulses, 0, ring, ring.sum / 8, ring.foldl max 0, some v) ∧
        (∀ w : Fin 4, d.sense.factors[w] = windFactor s.chip.limits.wind[w] (ring.sum / 8)) ∧
        (s.chip.limits.site.gust ≤ v → (∀ u, s.chip.sense.previous = some u → u < s.chip.limits.site.gust) →
          ∀ m : LinkId, .gust ∈ (d.links[m]).notices)) ∧
      (v < s.chip.limits.site.gust ∨ (∃ u, s.chip.sense.previous = some u ∧ s.chip.limits.site.gust ≤ u) →
        ∃ d : Chip, exec .windGateClose s = .next { s with chip := d } ∧
          d = { s.chip with
            sense := d.sense, now := d.now, framesLeft := d.framesLeft, hydTimer := d.hydTimer
            lampTimer := d.lampTimer, circ := d.circ } ∧
          d.sense.level = s.chip.sense.level ∧ d.sense.lowWarn = s.chip.sense.lowWarn ∧
          d.sense.lowTrip = s.chip.sense.lowTrip ∧ d.sense.dusk = s.chip.sense.dusk))

/-- The wind factor of a class by the four cases of R149, and its bounds; all four factors are formed afresh at each sample
and at each taken LIMIT_WRITE of the wind class section (section 3, directly or in a frame), and stand between these moments and
the resets. -/
def Obligations.WindFactors : Prop :=
  (∀ (w : WindLimit) (v : Nat),
    (v ≤ w.calm → windFactor w v = 1000) ∧
    (w.calm < v → w.gale ≤ w.calm → windFactor w v = w.wMin) ∧
    (w.calm < v → w.calm < w.gale → w.gale ≤ v → windFactor w v = w.wMin) ∧
    (w.calm < v → v < w.gale →
      windFactor w v = 1000 - (v - w.calm) * (1000 - w.wMin) / (w.gale - w.calm)) ∧
    (w.wMin ≤ 1000 → w.wMin ≤ windFactor w v ∧ windFactor w v ≤ 1000 ∧
      ∀ u : Nat, v ≤ u → windFactor w u ≤ windFactor w v)) ∧
  (∀ s : State, s.chip.resetHeld = false → ∃ t : State, exec .windGateClose s = .next t ∧
    ∀ w : Fin 4, t.chip.sense.factors[w] = windFactor s.chip.limits.wind[w] t.chip.sense.vAvg) ∧
  (∀ (s : State) (l : LinkId) (bytes : List Byte) (es : Vector WindLimit 4), s.chip.hears l 31 →
    s.chip.protection = .opened ∨
      (s.chip.protection = .guarded ∧ s.chip.mode.mode ≠ .showMode ∧ s.chip.mode.mode ≠ .manual) →
    sectionOfBytes 3 bytes = some (.wind es) → ∃ t : State, exec (.limitWrite l 3 bytes) s = .next t ∧
      ∀ w : Fin 4, t.chip.sense.factors[w] = windFactor es[w] s.chip.sense.vAvg) ∧
  (∀ (i : Instr) (s t : State), exec i s = .next t → t.chip.sense.factors ≠ s.chip.sense.factors →
    i = .windGateClose ∨ (∃ (l : LinkId) (bytes : List Byte), i = .limitWrite l 3 bytes) ∨
    (∃ l : LinkId, i = .restart l) ∨ (∃ lines : Lines, i = .powerOnReset lines) ∨
    (∃ straps : Vector StrapPins 3, i = .lineResetRelease straps) ∨
    ∃ (l : LinkId) (kind : Byte) (payload : List Byte) (crc : BitVec 16), i = .frameReceived l kind payload crc ∧
      (kind.toNat = 21 ∨ (kind.toNat = 31 ∧ payload.head? = some 3)))

/-- The level switches, the emergency stop's release and the dusk line (R150 to R152): a change of the input starts the hold time
afresh; a level held for 2 s, or 10 s on the DUSK line, becomes the debounced state, and LEVEL is formed from the two
switches, LOW_TRIP first. That a commanded expiry brings the timebase to the end of the hold time is log entry 2, and that an
event whose condition does not hold has no effect is log entry 26: both are the model's reading. -/
def Obligations.SwitchesAndDusk : Prop :=
  ∀ s : State, s.chip.resetHeld = false →
    (∀ v : Bool,
      (s.chip.lines.lowWarn = v → exec (.levelInputChange .lowWarn v) s = .next s) ∧
      (s.chip.lines.lowWarn ≠ v → exec (.levelInputChange .lowWarn v) s = .next { s with chip := { s.chip with
        lines := { s.chip.lines with lowWarn := v }
        sense := { s.chip.sense with lowWarn := ⟨s.chip.sense.lowWarn.state, s.chip.now⟩ } } }) ∧
      (s.chip.lines.lowTrip = v → exec (.levelInputChange .lowTrip v) s = .next s) ∧
      (s.chip.lines.lowTrip ≠ v → exec (.levelInputChange .lowTrip v) s = .next { s with chip := { s.chip with
        lines := { s.chip.lines with lowTrip := v }
        sense := { s.chip.sense with lowTrip := ⟨s.chip.sense.lowTrip.state, s.chip.now⟩ } } }) ∧
      (s.chip.lines.dusk = v → exec (.duskInputChange v) s = .next s) ∧
      (s.chip.lines.dusk ≠ v → exec (.duskInputChange v) s = .next { s with chip := { s.chip with
        lines := { s.chip.lines with dusk := v }
        sense := { s.chip.sense with dusk := ⟨s.chip.sense.dusk.state, s.chip.now⟩ } } })) ∧
    (s.chip.lines.lowWarn = s.chip.sense.lowWarn.state → exec (.levelDebounceExpiry .lowWarn) s = .next s) ∧
    (s.chip.lines.lowWarn ≠ s.chip.sense.lowWarn.state → s.chip.sense.lowTrip.state = false ∨ s.chip.sense.level = 2 →
      ∃ c : Chip, c = s.chip.reach (s.chip.sense.lowWarn.since + 2000) ∧
        exec (.levelDebounceExpiry .lowWarn) s = .next { s with chip := { c with sense := { c.sense with
          lowWarn := ⟨s.chip.lines.lowWarn, s.chip.sense.lowWarn.since⟩
          level := if s.chip.sense.lowTrip.state then 2 else if s.chip.lines.lowWarn then 1 else 0 } } }) ∧
    (s.chip.lines.lowTrip = s.chip.sense.lowTrip.state → exec (.levelDebounceExpiry .lowTrip) s = .next s) ∧
    (s.chip.lines.lowTrip = false → s.chip.sense.lowTrip.state = true →
      ∃ c : Chip, c = s.chip.reach (s.chip.sense.lowTrip.since + 2000) ∧
        exec (.levelDebounceExpiry .lowTrip) s = .next { s with chip := { c with sense := { c.sense with
          lowTrip := ⟨false, s.chip.sense.lowTrip.since⟩
          level := if s.chip.sense.lowWarn.state then 1 else 0 } } }) ∧
    (s.chip.lines.eStop = true → exec .eStopRelease s = .next { s with chip := { s.chip with
      lines := { s.chip.lines with eStop := false }, sense := { s.chip.sense with eStop := false } } }) ∧
    (s.chip.lines.eStop = false → exec .eStopRelease s = .next s) ∧
    (s.chip.lines.dusk = s.chip.sense.dusk.state → exec .duskDebounceExpiry s = .next s) ∧
    (s.chip.lines.dusk ≠ s.chip.sense.dusk.state →
      ∃ c : Chip, c = s.chip.reach (s.chip.sense.dusk.since + 10000) ∧
        exec .duskDebounceExpiry s = .next { s with chip := { c with sense := { c.sense with
          dusk := ⟨s.chip.lines.dusk, s.chip.sense.dusk.since⟩ } } })

/-- The sections of the limit table on the link (R175, R177, R179): the bytes of a section whose entries are in range decode to
it, and what decodes is in range. -/
def Obligations.LimitSectionsDecode : Prop :=
  (∀ v : Vector JetLimit 48, (∀ j : JetId, (v[j]).height ≤ 1000) →
    sectionOfBytes 0 (v.toList.flatMap fun k =>
      beBytes 2 k.height ++ beBytes 1 k.pump.val ++ beBytes 1 k.zone.val ++ beBytes 1 k.wind.val) = some (.jets v)) ∧
  (∀ v : Vector PumpLimit 12, (∀ p : PumpId, (v[p]).inRange) →
    sectionOfBytes 1 (v.toList.flatMap fun k =>
      beBytes 1 (if k.inService then 1 else 0) ++ beBytes 2 k.sMin ++ beBytes 2 k.sMax ++ beBytes 2 k.primeMin ++
        beBytes 2 k.primeMax ++ beBytes 2 k.runMin ++ beBytes 2 k.rest ++ beBytes 2 k.cycle ++ beBytes 2 k.idle ++
        beBytes 1 k.rUp ++ beBytes 1 k.rDown) = some (.pumps v)) ∧
  (∀ k : SiteLimit, k.inRange →
    sectionOfBytes 2 (beBytes 1 k.windowGrants ++ beBytes 2 k.window ++ beBytes 2 k.space ++ beBytes 1 k.settle ++
      beBytes 1 k.dormancy ++ beBytes 2 k.levelFactor ++ beBytes 1 k.windScale ++ beBytes 2 k.gust ++ beBytes 2 k.period ++
      beBytes 2 k.flushHeight ++ beBytes 2 k.flushDuration ++ beBytes 4 k.cap) = some (.site k)) ∧
  (∀ v : Vector WindLimit 4, (∀ w : Fin 4, (v[w]).inRange) →
    sectionOfBytes 3 (v.toList.flatMap fun k => beBytes 2 k.calm ++ beBytes 2 k.gale ++ beBytes 2 k.wMin) =
      some (.wind v)) ∧
  (∀ v : Vector LumLimit 32,
    sectionOfBytes 4 (v.toList.flatMap fun k =>
      beBytes 1 (match k.jet with | some j => j.val | none => 255) ++
        beBytes 1 (match k.coupling with | .none => 0 | .gate => 1)) = some (.lums v)) ∧
  (∀ (n : Nat) (bytes : List Byte) (v : Vector JetLimit 48), sectionOfBytes n bytes = some (.jets v) →
    n = 0 ∧ ∀ j : JetId, (v[j]).height ≤ 1000) ∧
  (∀ (n : Nat) (bytes : List Byte) (v : Vector PumpLimit 12), sectionOfBytes n bytes = some (.pumps v) →
    n = 1 ∧ ∀ p : PumpId, (v[p]).inRange) ∧
  (∀ (n : Nat) (bytes : List Byte) (k : SiteLimit), sectionOfBytes n bytes = some (.site k) → n = 2 ∧ k.inRange) ∧
  (∀ (n : Nat) (bytes : List Byte) (v : Vector WindLimit 4), sectionOfBytes n bytes = some (.wind v) →
    n = 3 ∧ ∀ w : Fin 4, (v[w]).inRange)

/-! ## Pumps, jets and the hydraulic update -/

/-- A start request and a stop request by the pump's state (R83, R84, R92). The start arbiter (R85 to R88): what may
be granted; that while the shared conditions hold it is the first eligible entry of the queue, the window counted with its
earlier end exclusive; what a grant does, the S_min in force for its setpoint; that a test of the queue makes that grant and tests
again, ends with nothing grantable, and takes the grants of the window to N_w at most. That a pump joins the queue through the field `joining`, at the end of the
event, is the model's choice (log entry 14). -/
def Obligations.StartsAndGrants : Prop :=
  (∀ (c : Chip) (p : PumpId) (r : Requester),
     (c.mode.mode = .tripped → c.startRequest p r = c) ∧
     ((c.pumps[p]).state.up = true ∨ (c.pumps[p]).state = .faulted ∨ (c.pumps[p]).state = .outOfService →
       c.startRequest p r = c) ∧
     (c.mode.mode ≠ .tripped → (c.pumps[p]).state = .stopped ∨ (c.pumps[p]).state = .resting →
       ((∃ e ∈ c.queue ++ c.joining, e.pump = p) → c.startRequest p r = c) ∧
       ((∀ e ∈ c.queue ++ c.joining, e.pump ≠ p) → ∃ d : Chip, d = c.startRequest p r ∧
         d = { c with joining := d.joining } ∧ d.joining.Perm (⟨p, r, c.now⟩ :: c.joining) ∧
         (c.joining.Pairwise (fun a b => a.pump < b.pump) → d.joining.Pairwise (fun a b => a.pump < b.pump)))) ∧
     ((c.pumps[p]).state = .stopped ∨ (c.pumps[p]).state = .resting → ∃ d : Chip, d = c.stopRequest p ∧
       d = { c with
         pumps := c.pumps.set p { c.pumps[p] with idleExpiry := none }
         queue := c.queue.filter fun e => decide (e.pump ≠ p)
         joining := c.joining.filter fun e => decide (e.pump ≠ p) }) ∧
     ((c.pumps[p]).state = .priming ∨ ((c.pumps[p]).state = .running ∧ c.now < (c.pumps[p]).runMinEnd) →
       c.stopRequest p =
         { c with pumps := c.pumps.set p { c.pumps[p] with idleExpiry := none, stopPending := true } }) ∧
     ((c.pumps[p]).state = .running → (c.pumps[p]).runMinEnd ≤ c.now →
       ((c.stopRequest p).pumps[p]).state = (if c.lines.drvOk[p] then .resting else .faulted) ∧
       ((c.stopRequest p).pumps[p]).setpoint = 0 ∧ ((c.stopRequest p).pumps[p]).idleExpiry = none ∧
       ((c.stopRequest p).pumps[p]).stopPending = false) ∧
     ((c.pumps[p]).state = .faulted ∨ (c.pumps[p]).state = .outOfService →
       c.stopRequest p = { c with pumps := c.pumps.set p { c.pumps[p] with idleExpiry := none } })) ∧
  ((∀ (c : Chip) (e : StartEntry), c.grantable = some e →
     c.mode.power = .on ∧ (∀ g, c.history.getLast? = some g → c.limits.site.space ≤ c.now - g) ∧
     c.windowCount < c.limits.site.windowGrants ∧ e ∈ c.queue ∧ (c.pumps[e.pump]).state = .stopped ∧
     (∀ g, (c.pumps[e.pump]).lastGrant = some g → (c.limits.pumps[e.pump]).cycle * 1000 ≤ c.now - g) ∧
     (∃ d : Chip, d = c.grant e ∧
       d = { c with
         pumps := d.pumps, queue := d.queue, joining := d.joining, history := d.history, jets := d.jets
         circ := d.circ, links := d.links } ∧
       (∀ x ∈ d.queue, x.pump ≠ e.pump) ∧ d.history = (c.history ++ [c.now]).drop (c.history.length + 1 - 8) ∧
       (d.pumps[e.pump]).lastGrant = some c.now ∧
       (d.pumps[e.pump]).runMinEnd = c.now + (c.limits.pumps[e.pump]).runMin * 1000 ∧
       (d.pumps[e.pump]).primeMinEnd = c.now + (c.limits.pumps[e.pump]).primeMin ∧
       (d.pumps[e.pump]).primeMaxEnd = c.now + (c.limits.pumps[e.pump]).primeMax ∧
       (c.lines.drvOk[e.pump] = true →
         (d.pumps[e.pump]).state = .priming ∧ (d.pumps[e.pump]).stopPending = false ∧
         (d.pumps[e.pump]).setpoint = c.sMinInForce[e.pump]) ∧
       (c.lines.drvOk[e.pump] = false → (d.pumps[e.pump]).state = .faulted) ∧
       ∀ q : PumpId, q ≠ e.pump → d.pumps[q] = c.pumps[q])) ∧
   (∀ (c : Chip) (ahead behind : List StartEntry) (e : StartEntry), c.queue = ahead ++ e :: behind →
     c.mode.power = .on → (∀ g, c.history.getLast? = some g → c.limits.site.space ≤ c.now - g) →
     c.history.countP (fun g => decide (c.now < g + c.limits.site.window * 1000)) < c.limits.site.windowGrants →
     (c.pumps[e.pump]).state = .stopped →
     (∀ g, (c.pumps[e.pump]).lastGrant = some g → (c.limits.pumps[e.pump]).cycle * 1000 ≤ c.now - g) →
     (∀ x ∈ ahead, (c.pumps[x.pump]).state ≠ .stopped ∨
       ∃ g, (c.pumps[x.pump]).lastGrant = some g ∧ c.now - g < (c.limits.pumps[x.pump]).cycle * 1000) →
     c.grantable = some e ∧ c.testQueue = (c.grant e).testQueue) ∧
   (∀ c : Chip, (c.testQueue).grantable = none ∧
     (c.windowCount ≤ c.limits.site.windowGrants → (c.testQueue).windowCount ≤ c.limits.site.windowGrants)) ∧
   (∀ s : State, s.chip.resetHeld = false →
     exec .queueTimingExpiry s = .next { s with chip := s.chip.testQueue } ∧
     (s.chip.grantable = none → s.chip.testQueue = s.chip)))

/-- A PRIMING pump (R89, R90): RUNNING once t_prime_min has passed and PRESS_OK is high, whichever comes last; FAULTED
with PRIME_TIMEOUT and a notice when t_prime_max passes; in any other state the events change no pump. A pump on its
way down (R92 to R97): the pending stop once t_run_min has passed, the idle expiry, the end of the rest, and a drive
fault; and a PRIMING pump with a stop pending that proves its pressure: it runs on, or rests at once where t_run_min has passed
(R89, R93; that MOD's restore test does not come between is the model's choice, log entry 34). Without debt no flush begins as the event ends, which could renew a run demand at once. Where a flush may begin as
PRIMING ends, the limit table's ranges (`tableKept`) give it a height above 0. The model's reading: the moments the expiries
bring the timebase to (log entry 2), the level of a line after its edge (log entry 3), and no effect of an event whose condition
does not hold (log entry 26). -/
def Obligations.PumpsStartAndStop : Prop :=
  (∀ (s : State) (p : PumpId), s.chip.resetHeld = false →
     (∀ high : Bool,
       ((s.chip.pumps[p]).state ≠ .priming ∨ s.chip.now < (s.chip.pumps[p]).primeMinEnd →
         exec (.pressOkRise p high) s = .next { s with chip := { s.chip with
           lines := { s.chip.lines with pressOk := s.chip.lines.pressOk.set p high } } }) ∧
       ((s.chip.pumps[p]).state = .priming → (s.chip.pumps[p]).primeMinEnd ≤ s.chip.now →
         (s.chip.pumps[p]).stopPending = false → s.chip.tableKept →
         ∃ d : Chip, exec (.pressOkRise p high) s = .next { s with chip := d } ∧ (d.pumps[p]).state = .running ∧
           (d.pumps[p]).setpoint = (s.chip.pumps[p]).setpoint ∧ (d.pumps[p]).lastGrant = (s.chip.pumps[p]).lastGrant ∧
           d.lines = { s.chip.lines with pressOk := s.chip.lines.pressOk.set p high } ∧ d.limits = s.chip.limits ∧
           (∀ j : JetId, s.chip.pumpOf j = p → (s.chip.jets[j]).state = .waiting → (d.jets[j]).state = .opened))) ∧
     ((s.chip.pumps[p]).state ≠ .priming →
       exec (.primeMinExpiry p) s = .next s ∧ exec (.primeTimeout p) s = .next s) ∧
     ((s.chip.pumps[p]).state = .priming →
       (s.chip.lines.pressOk[p] = false → exec (.primeMinExpiry p) s =
         .next { s with chip := s.chip.reach (s.chip.pumps[p]).primeMinEnd }) ∧
       (s.chip.lines.pressOk[p] = true → (s.chip.pumps[p]).stopPending = false → s.chip.tableKept →
         ∃ d : Chip, exec (.primeMinExpiry p) s = .next { s with chip := d } ∧ (d.pumps[p]).state = .running ∧
           d.now = max s.chip.now (s.chip.pumps[p]).primeMinEnd ∧
           (∀ j : JetId, s.chip.pumpOf j = p → (s.chip.jets[j]).state = .waiting → (d.jets[j]).state = .opened)) ∧
       (∃ d : Chip, exec (.primeTimeout p) s = .next { s with chip := d } ∧
         ((d.pumps[p]).state, (d.pumps[p]).faultCause, (d.pumps[p]).setpoint, (d.pumps[p]).stopPending,
             (d.pumps[p]).idleExpiry) = (.faulted, some .primeTimeout, 0, false, none) ∧
         (∀ e ∈ d.queue, e.pump ≠ p) ∧ d.now = max s.chip.now (s.chip.pumps[p]).primeMaxEnd ∧
         ∀ m : LinkId, .pumpFault ∈ (d.links[m]).notices))) ∧
  (∀ (s : State) (p : PumpId), s.chip.resetHeld = false → s.chip.circ.debt = 0 →
     ((s.chip.pumps[p]).state = .priming → (s.chip.pumps[p]).stopPending = true →
       ∀ i : Instr, ((s.chip.pumps[p]).primeMinEnd ≤ s.chip.now ∧ ∃ high : Bool, i = .pressOkRise p high) ∨
           (s.chip.lines.pressOk[p] = true ∧ i = .primeMinExpiry p) →
       ∃ d : Chip, exec i s = .next { s with chip := d } ∧ d.now = max s.chip.now (s.chip.pumps[p]).primeMinEnd ∧
         ((s.chip.pumps[p]).runMinEnd ≤ d.now →
           (d.pumps[p]).state = (if s.chip.lines.drvOk[p] then .resting else .faulted) ∧
           (d.pumps[p]).stopPending = false ∧ (d.pumps[p]).setpoint = 0 ∧
           (s.chip.lines.drvOk[p] = true →
             (d.pumps[p]).restEnd = d.now + (s.chip.limits.pumps[p]).rest * 1000)) ∧
         (d.now < (s.chip.pumps[p]).runMinEnd →
           (d.pumps[p]).state = .running ∧ (d.pumps[p]).stopPending = true ∧
           (d.pumps[p]).setpoint = (s.chip.pumps[p]).setpoint ∧
           ∀ j : JetId, s.chip.pumpOf j = p → (s.chip.jets[j]).state = .waiting → (d.jets[j]).state = .opened)) ∧
     ((s.chip.pumps[p]).state ≠ .running ∨ (s.chip.pumps[p]).stopPending = false →
       exec (.runMinExpiry p) s = .next s) ∧
     ((s.chip.pumps[p]).state = .running → (s.chip.pumps[p]).stopPending = true →
       ∃ d : Chip, exec (.runMinExpiry p) s = .next { s with chip := d } ∧
         (d.pumps[p]).state = (if s.chip.lines.drvOk[p] then .resting else .faulted) ∧
         (d.pumps[p]).stopPending = false ∧ (d.pumps[p]).setpoint = 0 ∧
         d.now = max s.chip.now (s.chip.pumps[p]).runMinEnd ∧
         (s.chip.lines.drvOk[p] = true →
           (d.pumps[p]).restEnd = d.now + (s.chip.limits.pumps[p]).rest * 1000)) ∧
     ((s.chip.pumps[p]).idleExpiry = none → exec (.idleExpiry p) s = .next s) ∧
     (∀ t : Nat, (s.chip.pumps[p]).idleExpiry = some t →
       ∃ d : Chip, exec (.idleExpiry p) s = .next { s with chip := d } ∧ d.now = max s.chip.now t ∧
         (d.pumps[p]).idleExpiry = none ∧
         ((s.chip.pumps[p]).state = .priming → (d.pumps[p]).state = .priming ∧ (d.pumps[p]).stopPending = true) ∧
         ((s.chip.pumps[p]).state = .running → d.now < (s.chip.pumps[p]).runMinEnd →
           (d.pumps[p]).state = .running ∧ (d.pumps[p]).stopPending = true) ∧
         ((s.chip.pumps[p]).state = .running → (s.chip.pumps[p]).runMinEnd ≤ d.now →
           (d.pumps[p]).state = if s.chip.lines.drvOk[p] then .resting else .faulted)) ∧
     ((s.chip.pumps[p]).state ≠ .resting → exec (.restEnd p) s = .next s) ∧
     ((s.chip.pumps[p]).state = .resting →
       ∃ d : Chip, exec (.restEnd p) s = .next { s with chip := d } ∧
         d.now = max s.chip.now (s.chip.pumps[p]).restEnd ∧
         (s.chip.lines.drvOk[p] = false →
           (d.pumps[p]).state = .faulted ∧ (d.pumps[p]).faultCause = some .drive ∧
           ∀ m : LinkId, .pumpFault ∈ (d.links[m]).notices) ∧
         (s.chip.lines.drvOk[p] = true →
           ((d.pumps[p]).state = .stopped ∧
             ((s.chip.pumps[p]).intent = .run → s.chip.mode.mode ≠ .tripped → ∃ e ∈ d.queue, e.pump = p)) ∨
           ((d.pumps[p]).state = .priming ∧ (d.pumps[p]).lastGrant = some d.now))) ∧
     (∀ high : Bool, ∃ d : Chip, exec (.drvOkFall p high) s = .next { s with chip := d } ∧
       d.lines = { s.chip.lines with drvOk := s.chip.lines.drvOk.set p high } ∧
       (d.pumps[p]).intent = (s.chip.pumps[p]).intent ∧ (d.pumps[p]).policy = (s.chip.pumps[p]).policy ∧
       (d.pumps[p]).lastGrant = (s.chip.pumps[p]).lastGrant ∧
       ((s.chip.pumps[p]).state = .faulted ∨ (s.chip.pumps[p]).state = .outOfService → d.pumps[p] = s.chip.pumps[p]) ∧
       ((s.chip.pumps[p]).state ≠ .faulted → (s.chip.pumps[p]).state ≠ .outOfService →
         ((d.pumps[p]).state, (d.pumps[p]).faultCause, (d.pumps[p]).setpoint, (d.pumps[p]).stopPending,
             (d.pumps[p]).idleExpiry) = (.faulted, some .drive, 0, false, none) ∧
         (∀ e ∈ d.queue, e.pump ≠ p) ∧ ∀ m : LinkId, .pumpFault ∈ (d.links[m]).notices)))

/-- The function csqrt maps x in 0..1,000,000 to the least r whose square is at least x, and r lies in 0..1000 (R116). -/
def Obligations.CsqrtIsTheLeastRoot : Prop :=
  (∀ x : Nat, x ≤ 1000000 → x ≤ csqrt x * csqrt x ∧ (∀ r : Nat, x ≤ r * r → csqrt x ≤ r) ∧ csqrt x ≤ 1000) ∧
  csqrt 0 = 0 ∧ csqrt 1 = 1 ∧ csqrt 1000 = 32 ∧ csqrt 250000 = 500 ∧ csqrt 1000000 = 1000

/-- The hydraulic update (R114, R117, R101): every effective height, then every target, then every setpoint, and nothing else but
the passing of time: each height by R114's floor; each target the largest csqrt of the heights that the pump's wanting jets have
or would have if OPEN, raised to S_min and lowered to S_max, and with no wanting jet S_min on a pump that is up and 0 on any
other; and the S_min of the limit table in force from now on. No height is above the jet's limit or its demand, every RUNNING
pump's setpoint lies within S_min..S_max, a PRIMING pump's is S_min, every other pump's 0. The moment the update brings the
timebase to is log entry 2, its phase log entry 21. -/
def Obligations.HydraulicUpdateComputes : Prop :=
  ∀ s : State, s.chip.resetHeld = false →
    ∃ d : Chip, exec .hydraulicUpdate s = .next { s with chip := d } ∧
      d = { s.chip with
        jets := d.jets, pumps := d.pumps, sMinInForce := d.sMinInForce, hydTimer := 0, now := d.now
        framesLeft := d.framesLeft, lampTimer := d.lampTimer, circ := d.circ, sense := d.sense } ∧
      (∀ p : PumpId, d.sMinInForce[p] = (s.chip.limits.pumps[p]).sMin) ∧
      (∀ j : JetId, d.jets[j] = { s.chip.jets[j] with height := (d.jets[j]).height } ∧
        (d.jets[j]).height =
          (if (s.chip.jets[j]).state = .opened then
            min (s.chip.limits.jets[j]).height
              ((s.chip.jets[j]).demand * s.chip.sense.factors[(s.chip.limits.jets[j]).wind] *
                (if s.chip.sense.level = 1 then s.chip.limits.site.levelFactor else 1000) / 1000000)
          else 0) ∧
        ((∀ w : Fin 4, s.chip.sense.factors[w] ≤ 1000) → s.chip.limits.site.levelFactor ≤ 1000 →
          (d.jets[j]).height ≤ (s.chip.limits.jets[j]).height ∧ (d.jets[j]).height ≤ (s.chip.jets[j]).demand)) ∧
      (∀ p : PumpId, d.pumps[p] = { s.chip.pumps[p] with
          target := (d.pumps[p]).target, setpoint := (d.pumps[p]).setpoint } ∧
        (∀ wanting : List JetId, wanting = (List.finRange 48).filter (fun j => decide (s.chip.pumpOf j = p ∧
            (s.chip.jets[j]).state ≠ .closed ∧ 0 < (s.chip.jets[j]).demand)) → ∀ h : JetId → Nat,
          (∀ j : JetId, h j = min (s.chip.limits.jets[j]).height
            ((s.chip.jets[j]).demand * s.chip.sense.factors[(s.chip.limits.jets[j]).wind] *
              (if s.chip.sense.level = 1 then s.chip.limits.site.levelFactor else 1000) / 1000000)) →
          (d.pumps[p]).target =
            if wanting = [] then (if (s.chip.pumps[p]).state.up = true then (s.chip.limits.pumps[p]).sMin else 0)
            else min (s.chip.limits.pumps[p]).sMax (max (s.chip.limits.pumps[p]).sMin
              ((wanting.map fun j => csqrt (h j * 1000)).foldl max 0))) ∧
        ((s.chip.limits.pumps[p]).sMin ≤ (s.chip.limits.pumps[p]).sMax →
          ((∃ j : JetId, s.chip.pumpOf j = p ∧ (s.chip.jets[j]).state ≠ .closed ∧ 0 < (s.chip.jets[j]).demand) →
            (s.chip.limits.pumps[p]).sMin ≤ (d.pumps[p]).target ∧
            (d.pumps[p]).target ≤ (s.chip.limits.pumps[p]).sMax) ∧
          ((s.chip.pumps[p]).state = .running → ∀ a : Nat,
            a = min (s.chip.limits.pumps[p]).sMax (max (s.chip.limits.pumps[p]).sMin (s.chip.pumps[p]).setpoint) →
            (d.pumps[p]).setpoint =
              (if a < (d.pumps[p]).target then min (d.pumps[p]).target (a + (s.chip.limits.pumps[p]).rUp)
              else if (d.pumps[p]).target < a then max (d.pumps[p]).target (a - (s.chip.limits.pumps[p]).rDown)
              else a) ∧
            (s.chip.limits.pumps[p]).sMin ≤ (d.pumps[p]).setpoint ∧
            (d.pumps[p]).setpoint ≤ (s.chip.limits.pumps[p]).sMax)) ∧
        ((s.chip.pumps[p]).state = .priming → (d.pumps[p]).setpoint = (s.chip.limits.pumps[p]).sMin) ∧
        ((s.chip.pumps[p]).state.up = false → (d.pumps[p]).setpoint = 0))

/-! ## Circulation -/

/-- The pointer advances to the first flushable zone in the cyclic order after its own, its own last, and by one where
no zone is flushable (R122); a single flush and the next zone of a FLUSH_ALL run begin only on a flushable zone (R121
to R123, R128). Where the five conditions of R123 hold, a single flush begins, on the first flushable zone from the pointer's own
on: at CIR's test, at a period expiry, and after the end or the stall of a flush. A period expiry raises the debt to at most 8 and notices FLUSH_OVERDUE from 7 on; the end of a single
flush lowers the debt and moves the pointer on; a stall keeps the debt, moves the pointer on from a single flush, and is noticed; a FLUSH_ALL run goes on to the
next flushable zone, or ends without debt at Z0 (R121, R124, R125, R128). That FLUSH_END, FLUSH_ALL_ZONE_DONE and FLUSH_STALL have no
effect where their conditions do not hold is the model's reading (log entry 26). -/
def Obligations.FlushesAndCirculation : Prop :=
  ((∀ (c : Chip) (z : ZoneId),
     ((∀ y : ZoneId, c.flushable y = false) → c.zoneAfter z = z + 1) ∧
     (∀ n : Fin 8, c.flushable (z + 1 + n) = true → (∀ m : Fin 8, m < n → c.flushable (z + 1 + m) = false) →
       c.zoneAfter z = z + 1 + n) ∧
     (∀ y : ZoneId, c.nextZone z = some y →
       z < y ∧ c.flushable y = true ∧ ∀ x : ZoneId, z < x → x < y → c.flushable x = false) ∧
     (c.flushable z = true ↔ c.circ.mask.getLsbD z.val = false ∧ ∃ j : JetId, (c.limits.jets[j]).zone = z)) ∧
   (∀ c : Chip, (c.circ.flush ≠ none ∨ c.circ.debt = 0 ∨ (c.mode.mode ≠ .dormant ∧ c.mode.mode ≠ .standby) ∨
       (c.run.cue ≠ .idle ∧ c.run.cue ≠ .cued) → c.testFlush = c) ∧
     (c.circ.flush = none → ∀ f : Flush, (c.testFlush).circ.flush = some f →
       c.flushable f.zone = true ∧ f.mode = .single ∧ (c.testFlush).circ.pointer = f.zone ∧
       (c.testFlush).circ.debt = c.circ.debt ∧ (c.testFlush).mode.flushRunning = true) ∧
     (c.circ.flush = none → 0 < c.circ.debt → c.mayFlush → ∀ z : ZoneId, c.firstFlushable c.circ.pointer z →
       (c.testFlush).singleBegun z ∧ (c.testFlush).now = c.now ∧ (c.testFlush).limits = c.limits ∧
       (c.testFlush).circ.debt = c.circ.debt ∧
       (c.mode.mode = .dormant → c.mode.power = .off → (c.testFlush).mode.power = .settling)))) ∧
  (∀ s : State, s.chip.resetHeld = false →
     (∃ d : Chip, exec .flushPeriodExpiry s = .next { s with chip := d } ∧
       d.circ.debt = (if s.chip.circ.debt < 8 then s.chip.circ.debt + 1 else 8) ∧ d.circ.periodTimer = 0 ∧
       d.circ.period = s.chip.limits.site.period ∧
       (7 ≤ s.chip.circ.debt → ∀ m : LinkId, .flushOverdue ∈ (d.links[m]).notices) ∧
       (s.chip.circ.flush = none → s.chip.mayFlush → ∀ z : ZoneId, s.chip.firstFlushable s.chip.circ.pointer z →
         d.singleBegun z ∧ d.limits = s.chip.limits)) ∧
     (s.chip.circ.flush = none → exec .flushEnd s = .next s ∧ exec .flushAllZoneDone s = .next s ∧
       exec .flushStall s = .next s) ∧
     (∀ f : Flush, s.chip.circ.flush = some f →
       (f.mode = .single → s.chip.flushOpen = true →
         exec .flushAllZoneDone s = .next s ∧
         ∃ d : Chip, exec .flushEnd s = .next { s with chip := d } ∧ d.circ.debt = s.chip.circ.debt - 1 ∧
           (2 ≤ s.chip.circ.debt → s.chip.mayFlush → ∀ z : ZoneId, s.chip.firstFlushable (f.zone + 1) z →
             d.singleBegun z ∧ d.limits = s.chip.limits ∧
             ∀ j : JetId, (s.chip.jets[j]).owner = .flush → (s.chip.limits.jets[j]).zone ≠ z → d.jets[j] = idleJet) ∧
           (s.chip.circ.debt ≤ 1 ∨ (∀ y : ZoneId, s.chip.flushable y = false) → d.circ.flush = none ∧ d.mode.flushRunning = false ∧
             d.circ.pointer = s.chip.zoneAfter f.zone ∧
             ∀ j : JetId,
               ((s.chip.jets[j]).owner = .flush → d.jets[j] = idleJet) ∧
               ((s.chip.jets[j]).owner ≠ .flush →
                 (d.jets[j]).owner = (s.chip.jets[j]).owner ∧ (d.jets[j]).demand = (s.chip.jets[j]).demand))) ∧
       (s.chip.flushOpen = false →
         ∃ d : Chip, exec .flushStall s = .next { s with chip := d } ∧ d.circ.debt = s.chip.circ.debt ∧
           (∀ m : LinkId, .flushStalled ∈ (d.links[m]).notices) ∧
           (0 < s.chip.circ.debt → s.chip.mayFlush → ∀ z : ZoneId,
             s.chip.firstFlushable (if f.mode = .single then f.zone + 1 else s.chip.circ.pointer) z →
             d.singleBegun z ∧ d.limits = s.chip.limits ∧
             ∀ j : JetId, (s.chip.jets[j]).owner = .flush → (s.chip.limits.jets[j]).zone ≠ z → d.jets[j] = idleJet) ∧
           (s.chip.circ.debt = 0 ∨ (∀ y : ZoneId, s.chip.flushable y = false) → d.circ.flush = none ∧ d.mode.flushRunning = false ∧
             d.circ.pointer = (if f.mode = .single then s.chip.zoneAfter f.zone else s.chip.circ.pointer) ∧
             ∀ j : JetId, (s.chip.jets[j]).owner = .flush → d.jets[j] = idleJet)) ∧
       (f.mode = .all → s.chip.flushOpen = true →
         exec .flushEnd s = .next s ∧
         ∃ d : Chip, exec .flushAllZoneDone s = .next { s with chip := d } ∧
           (∀ z : ZoneId, s.chip.nextZone f.zone = some z →
             d.circ.debt = s.chip.circ.debt ∧ d.circ.pointer = s.chip.circ.pointer ∧
             (∃ g : Flush, d.circ.flush = some g ∧
               (g.mode, g.zone, g.start, g.height, g.duration, g.openTime) =
                 (.all, z, d.now, f.height, f.duration, 0)) ∧
             ∀ j : JetId, (s.chip.limits.jets[j]).zone = z →
               (d.jets[j]).owner = .flush ∧ (d.jets[j]).demand = f.height) ∧
           (s.chip.nextZone f.zone = none →
             d.circ.debt = 0 ∧ d.circ.pointer = 0 ∧ d.circ.flush = none ∧ d.mode.flushRunning = false ∧
             ∀ j : JetId, (s.chip.jets[j]).owner = .flush → d.jets[j] = idleJet))))

/-! ## Lighting -/

/-- The level of a fade (R133): the start plus the sign of the difference times the floor of its magnitude by e / D, the target
from D on; it never leaves the range between start and target. -/
def Obligations.FadeLevels : Prop :=
  ∀ start target duration e : Nat,
    (duration = 0 ∨ duration ≤ e → fadeLevel start target duration e = target) ∧
    (e < duration →
      (fadeLevel start target duration e : ℤ) =
        start + ((target : ℤ) - start).sign * (((target : ℤ) - start).natAbs * e / duration : ℕ)) ∧
    min start target ≤ fadeLevel start target duration e ∧ fadeLevel start target duration e ≤ max start target

/-- The lamp frame (R136, R137, R138, R140, R143): every gate moves by its coupling; each output is its gated value
where their sum S is at most C, and floor(x × C / S) where S exceeds C, and all are 0 in DORMANT and TRIPPED; the
outputs are sent unless the fountain is DORMANT; a crossfade that has run for 1 s ends on the show layer; and the sum
of the 128 outputs is at most C. The moment the frame brings the timebase to, and its phase, are the model's (log entries 2 and
21). -/
def Obligations.TheLampFrameHoldsThePowerCap : Prop :=
  (∀ s : State, s.chip.resetHeld = false →
     ∀ c : Chip, c = s.chip.advance (25 - s.chip.lampTimer) →
     ∃ d : Chip, exec .lampFrame s = .next { s with chip := d } ∧ d.lampTimer = 0 ∧
       (∀ u : LumId, (d.lums[u]).gate =
         (match (s.chip.limits.lums[u]).coupling, (s.chip.limits.lums[u]).jet with
           | .none, _ => 256
           | .gate, some j =>
             if (s.chip.jets[j]).state = .opened then min 256 ((s.chip.lums[u]).gate + 64)
             else (s.chip.lums[u]).gate - 64
           | .gate, none => (s.chip.lums[u]).gate - 64) ∧
         ((d.lums[u]).active, (d.lums[u]).crossfade) =
           (match (s.chip.lums[u]).crossfade with
             | some x => if 1000 ≤ c.now - x.origin then (.showLayer, none) else ((s.chip.lums[u]).active, some x)
             | none => ((s.chip.lums[u]).active, none))) ∧
       (∀ i : Fin 128, ∀ sum : Nat,
         sum = ((List.finRange 128).map fun k : Fin 128 => c.preGate k * (d.lums[lumOf k]).gate / 256).sum →
         d.outputs[i] =
           if s.chip.mode.mode = .dormant ∨ s.chip.mode.mode = .tripped then 0
           else if sum ≤ s.chip.limits.site.cap then c.preGate i * (d.lums[lumOf i]).gate / 256
           else c.preGate i * (d.lums[lumOf i]).gate / 256 * s.chip.limits.site.cap / sum) ∧
       d.lampLine = (if s.chip.mode.mode = .dormant then s.chip.lampLine else some d.outputs) ∧
       d.panelLayer = s.chip.panelLayer ∧ d.limits = s.chip.limits ∧ d.gain = s.chip.gain) ∧
  ((∀ (c : Chip) (i : Fin 128),
     (c.gatedSum ≤ c.limits.site.cap → c.cappedOutputs[i] = c.gated i) ∧
     (c.limits.site.cap < c.gatedSum → c.cappedOutputs[i] = c.gated i * c.limits.site.cap / c.gatedSum)) ∧
   (∀ s : State, s.chip.resetHeld = false → ∃ d : Chip, exec .lampFrame s = .next { s with chip := d } ∧
     d.outputs.toList.sum ≤ s.chip.limits.site.cap))

/-! ## Invariants that every step keeps -/

/-- In `State.reset`, the part right after power-on reset with the input lines that log entry 4 chooses and the values that log
entry 5 chooses, every invariant of `Safety` holds. -/
def Obligations.ResetMeetsTheInvariants : Prop :=
  State.reset.chip.jetsFollow ∧ State.reset.chip.darkWhileTripped ∧ State.reset.chip.showKept ∧
  State.reset.chip.queueKept ∧ State.reset.chip.linksKept ∧ State.reset.chip.audioKept ∧ State.reset.chip.clockKept ∧
  State.reset.chip.pumpsKept ∧ State.reset.chip.circKept ∧ State.reset.chip.sensingKept ∧ State.reset.chip.tableKept

/-- Every step keeps each jet in the state that its demand and its pump give it (R104, R107 to R109). -/
def Obligations.JetsFollowTheirPumps : Prop :=
  ∀ s t : State, s.chip.jetsFollow → step s = .next t → t.chip.jetsFollow

/-- Every step keeps TRIPPED dark, dry and silent, and only CLEAR_TRIP, RESTART (in a frame or directly) and the resets leave it
(R102, R118, R142, R166, R168, R169). -/
def Obligations.TrippedIsDark : Prop :=
  (∀ s t : State, s.chip.darkWhileTripped → step s = .next t → t.chip.darkWhileTripped) ∧
  (∀ (i : Instr) (s t : State), s.chip.darkWhileTripped → exec i s = .next t → s.chip.mode.mode = .tripped →
    t.chip.mode.mode ≠ .tripped →
    (∃ l : LinkId, i = .clearTrip l ∨ i = .restart l ∨
      ∃ (kind : Byte) (payload : List Byte) (crc : BitVec 16), i = .frameReceived l kind payload crc ∧
        (kind.toNat = 20 ∨ kind.toNat = 21)) ∨
    (∃ lines : Lines, i = .powerOnReset lines) ∨ (∃ straps : Vector StrapPins 3, i = .lineResetRelease straps))

/-- Every step keeps the show record in the shape of its cue state, with the LIVE page the show's (R19, R21, R48, R155). -/
def Obligations.ShowRecordKeepsItsShape : Prop :=
  ∀ s t : State, s.chip.showKept → step s = .next t → t.chip.showKept

/-- Every step keeps the start queue to waiting pumps, once each, and the grant history to eight (R84, R85). -/
def Obligations.StartQueueKeepsItsShape : Prop :=
  ∀ s t : State, s.chip.queueKept → step s = .next t → t.chip.queueKept

/-- Every step keeps the pump records, the circulation record and the sensing record consistent (R79, R90 to R97, R101, R121,
R124, R125, R145 to R151, R155). -/
def Obligations.RecordsStayConsistent : Prop :=
  (∀ s t : State, s.chip.pumpsKept → step s = .next t → t.chip.pumpsKept) ∧
  (∀ s t : State, s.chip.circKept → step s = .next t → t.chip.circKept) ∧
  (∀ s t : State, s.chip.sensingKept → step s = .next t → t.chip.sensingKept)

/-- Every step keeps the reply queues, the notice sets and the roles in their bounds (R170, R172, R173). -/
def Obligations.LinksStayInBounds : Prop :=
  ∀ s t : State, s.chip.linksKept → step s = .next t → t.chip.linksKept

/-- Every step keeps the audio buffer in its bounds and the show clock in agreement with the cue state and the music; and while
the cue state is not IDLE the clock never goes back, and advances only in RUNNING, HOLDING and ENDING (R59, R60, R70, R76). -/
def Obligations.TheClockFollowsTheMusic : Prop :=
  (∀ s t : State, s.chip.audioKept → step s = .next t → t.chip.audioKept) ∧
  (∀ s t : State, s.chip.audioKept → s.chip.clockKept → step s = .next t → t.chip.clockKept ∧
    (s.chip.run.cue ≠ .idle → t.chip.run.cue ≠ .idle →
      s.chip.clock.value ≤ t.chip.clock.value ∧
      (s.chip.clock.value < t.chip.clock.value →
        s.chip.run.cue = .running ∨ s.chip.run.cue = .holding ∨ s.chip.run.cue = .ending)))

/-- Every step keeps the limit table in its ranges; a LOCKED table changes only at a power-on or a line reset, and the contents
of a LIVE page only at a power-on reset (R19, R20, R175 to R177). -/
def Obligations.TableAndLivePageStand : Prop :=
  (∀ s t : State, s.chip.tableKept → step s = .next t → t.chip.tableKept) ∧
  (∀ (i : Instr) (s t : State), exec i s = .next t → s.chip.protection = .locked → t.chip.limits ≠ s.chip.limits →
    (∃ lines : Lines, i = .powerOnReset lines) ∨ (∃ straps : Vector StrapPins 3, i = .lineResetRelease straps)) ∧
  (∀ (i : Instr) (s t : State) (k : PageId), exec i s = .next t → (s.chip.pages[k]).state = .live →
    ((t.chip.pages[k]).steps ≠ (s.chip.pages[k]).steps ∨ (t.chip.pages[k]).scenes ≠ (s.chip.pages[k]).scenes ∨
      (t.chip.pages[k]).slots ≠ (s.chip.pages[k]).slots) → ∃ lines : Lines, i = .powerOnReset lines)
end

