-- ==== Sys2Proof/Laws/State.lean ====
section
/-! SUPPORT. The fields of the part after each shared update, one lemma for each field, and one for each entry of the table
that the update rewrites. -/

namespace Sys2Proof.Machine

variable (c : Chip)

/-! ## updPump -/

@[simp] theorem Chip.updPump_now (p : PumpId) (f : Pump → Pump) : (c.updPump p f).now = c.now := rfl
@[simp] theorem Chip.updPump_resetHeld (p : PumpId) (f : Pump → Pump) : (c.updPump p f).resetHeld = c.resetHeld := rfl
@[simp] theorem Chip.updPump_lines (p : PumpId) (f : Pump → Pump) : (c.updPump p f).lines = c.lines := rfl
@[simp] theorem Chip.updPump_links (p : PumpId) (f : Pump → Pump) : (c.updPump p f).links = c.links := rfl
@[simp] theorem Chip.updPump_pages (p : PumpId) (f : Pump → Pump) : (c.updPump p f).pages = c.pages := rfl
@[simp] theorem Chip.updPump_run (p : PumpId) (f : Pump → Pump) : (c.updPump p f).run = c.run := rfl
@[simp] theorem Chip.updPump_image (p : PumpId) (f : Pump → Pump) : (c.updPump p f).image = c.image := rfl
@[simp] theorem Chip.updPump_playback (p : PumpId) (f : Pump → Pump) : (c.updPump p f).playback = c.playback := rfl
@[simp] theorem Chip.updPump_gain (p : PumpId) (f : Pump → Pump) : (c.updPump p f).gain = c.gain := rfl
@[simp] theorem Chip.updPump_gainPeriods (p : PumpId) (f : Pump → Pump) : (c.updPump p f).gainPeriods = c.gainPeriods := rfl
@[simp] theorem Chip.updPump_clock (p : PumpId) (f : Pump → Pump) : (c.updPump p f).clock = c.clock := rfl
@[simp] theorem Chip.updPump_dac (p : PumpId) (f : Pump → Pump) : (c.updPump p f).dac = c.dac := rfl
@[simp] theorem Chip.updPump_framesLeft (p : PumpId) (f : Pump → Pump) : (c.updPump p f).framesLeft = c.framesLeft := rfl
@[simp] theorem Chip.updPump_queue (p : PumpId) (f : Pump → Pump) : (c.updPump p f).queue = c.queue := rfl
@[simp] theorem Chip.updPump_joining (p : PumpId) (f : Pump → Pump) : (c.updPump p f).joining = c.joining := rfl
@[simp] theorem Chip.updPump_history (p : PumpId) (f : Pump → Pump) : (c.updPump p f).history = c.history := rfl
@[simp] theorem Chip.updPump_hydTimer (p : PumpId) (f : Pump → Pump) : (c.updPump p f).hydTimer = c.hydTimer := rfl
@[simp] theorem Chip.updPump_sMinInForce (p : PumpId) (f : Pump → Pump) : (c.updPump p f).sMinInForce = c.sMinInForce := rfl
@[simp] theorem Chip.updPump_jets (p : PumpId) (f : Pump → Pump) : (c.updPump p f).jets = c.jets := rfl
@[simp] theorem Chip.updPump_circ (p : PumpId) (f : Pump → Pump) : (c.updPump p f).circ = c.circ := rfl
@[simp] theorem Chip.updPump_showLayer (p : PumpId) (f : Pump → Pump) : (c.updPump p f).showLayer = c.showLayer := rfl
@[simp] theorem Chip.updPump_panelLayer (p : PumpId) (f : Pump → Pump) : (c.updPump p f).panelLayer = c.panelLayer := rfl
@[simp] theorem Chip.updPump_lums (p : PumpId) (f : Pump → Pump) : (c.updPump p f).lums = c.lums := rfl
@[simp] theorem Chip.updPump_outputs (p : PumpId) (f : Pump → Pump) : (c.updPump p f).outputs = c.outputs := rfl
@[simp] theorem Chip.updPump_lampLine (p : PumpId) (f : Pump → Pump) : (c.updPump p f).lampLine = c.lampLine := rfl
@[simp] theorem Chip.updPump_lampTimer (p : PumpId) (f : Pump → Pump) : (c.updPump p f).lampTimer = c.lampTimer := rfl
@[simp] theorem Chip.updPump_sense (p : PumpId) (f : Pump → Pump) : (c.updPump p f).sense = c.sense := rfl
@[simp] theorem Chip.updPump_mode (p : PumpId) (f : Pump → Pump) : (c.updPump p f).mode = c.mode := rfl
@[simp] theorem Chip.updPump_limits (p : PumpId) (f : Pump → Pump) : (c.updPump p f).limits = c.limits := rfl
@[simp] theorem Chip.updPump_protection (p : PumpId) (f : Pump → Pump) : (c.updPump p f).protection = c.protection := rfl
@[simp] theorem Chip.updPump_siteCode (p : PumpId) (f : Pump → Pump) : (c.updPump p f).siteCode = c.siteCode := rfl

@[simp] theorem Chip.updPump_pump (p q : PumpId) (f : Pump → Pump) :
    (c.updPump p f).pumps[q.val] = if q = p then f c.pumps[p] else c.pumps[q] := by
  by_cases h : q = p
  · subst h; simp [Chip.updPump]
  · have : (p : Nat) ≠ q := fun e => h (Fin.ext e.symm)
    simp [Chip.updPump, h, Vector.getElem_set_ne, this]

/-! ## updLink -/

@[simp] theorem Chip.updLink_now (l : LinkId) (f : Link → Link) : (c.updLink l f).now = c.now := rfl
@[simp] theorem Chip.updLink_resetHeld (l : LinkId) (f : Link → Link) : (c.updLink l f).resetHeld = c.resetHeld := rfl
@[simp] theorem Chip.updLink_lines (l : LinkId) (f : Link → Link) : (c.updLink l f).lines = c.lines := rfl
@[simp] theorem Chip.updLink_pages (l : LinkId) (f : Link → Link) : (c.updLink l f).pages = c.pages := rfl
@[simp] theorem Chip.updLink_run (l : LinkId) (f : Link → Link) : (c.updLink l f).run = c.run := rfl
@[simp] theorem Chip.updLink_image (l : LinkId) (f : Link → Link) : (c.updLink l f).image = c.image := rfl
@[simp] theorem Chip.updLink_playback (l : LinkId) (f : Link → Link) : (c.updLink l f).playback = c.playback := rfl
@[simp] theorem Chip.updLink_gain (l : LinkId) (f : Link → Link) : (c.updLink l f).gain = c.gain := rfl
@[simp] theorem Chip.updLink_gainPeriods (l : LinkId) (f : Link → Link) : (c.updLink l f).gainPeriods = c.gainPeriods := rfl
@[simp] theorem Chip.updLink_clock (l : LinkId) (f : Link → Link) : (c.updLink l f).clock = c.clock := rfl
@[simp] theorem Chip.updLink_dac (l : LinkId) (f : Link → Link) : (c.updLink l f).dac = c.dac := rfl
@[simp] theorem Chip.updLink_framesLeft (l : LinkId) (f : Link → Link) : (c.updLink l f).framesLeft = c.framesLeft := rfl
@[simp] theorem Chip.updLink_pumps (l : LinkId) (f : Link → Link) : (c.updLink l f).pumps = c.pumps := rfl
@[simp] theorem Chip.updLink_queue (l : LinkId) (f : Link → Link) : (c.updLink l f).queue = c.queue := rfl
@[simp] theorem Chip.updLink_joining (l : LinkId) (f : Link → Link) : (c.updLink l f).joining = c.joining := rfl
@[simp] theorem Chip.updLink_history (l : LinkId) (f : Link → Link) : (c.updLink l f).history = c.history := rfl
@[simp] theorem Chip.updLink_hydTimer (l : LinkId) (f : Link → Link) : (c.updLink l f).hydTimer = c.hydTimer := rfl
@[simp] theorem Chip.updLink_sMinInForce (l : LinkId) (f : Link → Link) : (c.updLink l f).sMinInForce = c.sMinInForce := rfl
@[simp] theorem Chip.updLink_jets (l : LinkId) (f : Link → Link) : (c.updLink l f).jets = c.jets := rfl
@[simp] theorem Chip.updLink_circ (l : LinkId) (f : Link → Link) : (c.updLink l f).circ = c.circ := rfl
@[simp] theorem Chip.updLink_showLayer (l : LinkId) (f : Link → Link) : (c.updLink l f).showLayer = c.showLayer := rfl
@[simp] theorem Chip.updLink_panelLayer (l : LinkId) (f : Link → Link) : (c.updLink l f).panelLayer = c.panelLayer := rfl
@[simp] theorem Chip.updLink_lums (l : LinkId) (f : Link → Link) : (c.updLink l f).lums = c.lums := rfl
@[simp] theorem Chip.updLink_outputs (l : LinkId) (f : Link → Link) : (c.updLink l f).outputs = c.outputs := rfl
@[simp] theorem Chip.updLink_lampLine (l : LinkId) (f : Link → Link) : (c.updLink l f).lampLine = c.lampLine := rfl
@[simp] theorem Chip.updLink_lampTimer (l : LinkId) (f : Link → Link) : (c.updLink l f).lampTimer = c.lampTimer := rfl
@[simp] theorem Chip.updLink_sense (l : LinkId) (f : Link → Link) : (c.updLink l f).sense = c.sense := rfl
@[simp] theorem Chip.updLink_mode (l : LinkId) (f : Link → Link) : (c.updLink l f).mode = c.mode := rfl
@[simp] theorem Chip.updLink_limits (l : LinkId) (f : Link → Link) : (c.updLink l f).limits = c.limits := rfl
@[simp] theorem Chip.updLink_protection (l : LinkId) (f : Link → Link) : (c.updLink l f).protection = c.protection := rfl
@[simp] theorem Chip.updLink_siteCode (l : LinkId) (f : Link → Link) : (c.updLink l f).siteCode = c.siteCode := rfl

@[simp] theorem Chip.updLink_link (l m : LinkId) (f : Link → Link) :
    (c.updLink l f).links[m.val] = if m = l then f c.links[l] else c.links[m] := by
  by_cases h : m = l
  · subst h; simp [Chip.updLink]
  · have : (l : Nat) ≠ m := fun e => h (Fin.ext e.symm)
    simp [Chip.updLink, h, Vector.getElem_set_ne, this]

/-! ## updLinks -/

@[simp] theorem Chip.updLinks_now (f : Link → Link) : (c.updLinks f).now = c.now := rfl
@[simp] theorem Chip.updLinks_resetHeld (f : Link → Link) : (c.updLinks f).resetHeld = c.resetHeld := rfl
@[simp] theorem Chip.updLinks_lines (f : Link → Link) : (c.updLinks f).lines = c.lines := rfl
@[simp] theorem Chip.updLinks_pages (f : Link → Link) : (c.updLinks f).pages = c.pages := rfl
@[simp] theorem Chip.updLinks_run (f : Link → Link) : (c.updLinks f).run = c.run := rfl
@[simp] theorem Chip.updLinks_image (f : Link → Link) : (c.updLinks f).image = c.image := rfl
@[simp] theorem Chip.updLinks_playback (f : Link → Link) : (c.updLinks f).playback = c.playback := rfl
@[simp] theorem Chip.updLinks_gain (f : Link → Link) : (c.updLinks f).gain = c.gain := rfl
@[simp] theorem Chip.updLinks_gainPeriods (f : Link → Link) : (c.updLinks f).gainPeriods = c.gainPeriods := rfl
@[simp] theorem Chip.updLinks_clock (f : Link → Link) : (c.updLinks f).clock = c.clock := rfl
@[simp] theorem Chip.updLinks_dac (f : Link → Link) : (c.updLinks f).dac = c.dac := rfl
@[simp] theorem Chip.updLinks_framesLeft (f : Link → Link) : (c.updLinks f).framesLeft = c.framesLeft := rfl
@[simp] theorem Chip.updLinks_pumps (f : Link → Link) : (c.updLinks f).pumps = c.pumps := rfl
@[simp] theorem Chip.updLinks_queue (f : Link → Link) : (c.updLinks f).queue = c.queue := rfl
@[simp] theorem Chip.updLinks_joining (f : Link → Link) : (c.updLinks f).joining = c.joining := rfl
@[simp] theorem Chip.updLinks_history (f : Link → Link) : (c.updLinks f).history = c.history := rfl
@[simp] theorem Chip.updLinks_hydTimer (f : Link → Link) : (c.updLinks f).hydTimer = c.hydTimer := rfl
@[simp] theorem Chip.updLinks_sMinInForce (f : Link → Link) : (c.updLinks f).sMinInForce = c.sMinInForce := rfl
@[simp] theorem Chip.updLinks_jets (f : Link → Link) : (c.updLinks f).jets = c.jets := rfl
@[simp] theorem Chip.updLinks_circ (f : Link → Link) : (c.updLinks f).circ = c.circ := rfl
@[simp] theorem Chip.updLinks_showLayer (f : Link → Link) : (c.updLinks f).showLayer = c.showLayer := rfl
@[simp] theorem Chip.updLinks_panelLayer (f : Link → Link) : (c.updLinks f).panelLayer = c.panelLayer := rfl
@[simp] theorem Chip.updLinks_lums (f : Link → Link) : (c.updLinks f).lums = c.lums := rfl
@[simp] theorem Chip.updLinks_outputs (f : Link → Link) : (c.updLinks f).outputs = c.outputs := rfl
@[simp] theorem Chip.updLinks_lampLine (f : Link → Link) : (c.updLinks f).lampLine = c.lampLine := rfl
@[simp] theorem Chip.updLinks_lampTimer (f : Link → Link) : (c.updLinks f).lampTimer = c.lampTimer := rfl
@[simp] theorem Chip.updLinks_sense (f : Link → Link) : (c.updLinks f).sense = c.sense := rfl
@[simp] theorem Chip.updLinks_mode (f : Link → Link) : (c.updLinks f).mode = c.mode := rfl
@[simp] theorem Chip.updLinks_limits (f : Link → Link) : (c.updLinks f).limits = c.limits := rfl
@[simp] theorem Chip.updLinks_protection (f : Link → Link) : (c.updLinks f).protection = c.protection := rfl
@[simp] theorem Chip.updLinks_siteCode (f : Link → Link) : (c.updLinks f).siteCode = c.siteCode := rfl

@[simp] theorem Chip.updLinks_link (m : LinkId) (f : Link → Link) : (c.updLinks f).links[m.val] = f c.links[m] := by
  simp [Chip.updLinks]

/-! ## updPage -/

@[simp] theorem Chip.updPage_now (k : PageId) (f : Page → Page) : (c.updPage k f).now = c.now := rfl
@[simp] theorem Chip.updPage_resetHeld (k : PageId) (f : Page → Page) : (c.updPage k f).resetHeld = c.resetHeld := rfl
@[simp] theorem Chip.updPage_lines (k : PageId) (f : Page → Page) : (c.updPage k f).lines = c.lines := rfl
@[simp] theorem Chip.updPage_links (k : PageId) (f : Page → Page) : (c.updPage k f).links = c.links := rfl
@[simp] theorem Chip.updPage_run (k : PageId) (f : Page → Page) : (c.updPage k f).run = c.run := rfl
@[simp] theorem Chip.updPage_image (k : PageId) (f : Page → Page) : (c.updPage k f).image = c.image := rfl
@[simp] theorem Chip.updPage_playback (k : PageId) (f : Page → Page) : (c.updPage k f).playback = c.playback := rfl
@[simp] theorem Chip.updPage_gain (k : PageId) (f : Page → Page) : (c.updPage k f).gain = c.gain := rfl
@[simp] theorem Chip.updPage_gainPeriods (k : PageId) (f : Page → Page) : (c.updPage k f).gainPeriods = c.gainPeriods := rfl
@[simp] theorem Chip.updPage_clock (k : PageId) (f : Page → Page) : (c.updPage k f).clock = c.clock := rfl
@[simp] theorem Chip.updPage_dac (k : PageId) (f : Page → Page) : (c.updPage k f).dac = c.dac := rfl
@[simp] theorem Chip.updPage_framesLeft (k : PageId) (f : Page → Page) : (c.updPage k f).framesLeft = c.framesLeft := rfl
@[simp] theorem Chip.updPage_pumps (k : PageId) (f : Page → Page) : (c.updPage k f).pumps = c.pumps := rfl
@[simp] theorem Chip.updPage_queue (k : PageId) (f : Page → Page) : (c.updPage k f).queue = c.queue := rfl
@[simp] theorem Chip.updPage_joining (k : PageId) (f : Page → Page) : (c.updPage k f).joining = c.joining := rfl
@[simp] theorem Chip.updPage_history (k : PageId) (f : Page → Page) : (c.updPage k f).history = c.history := rfl
@[simp] theorem Chip.updPage_hydTimer (k : PageId) (f : Page → Page) : (c.updPage k f).hydTimer = c.hydTimer := rfl
@[simp] theorem Chip.updPage_sMinInForce (k : PageId) (f : Page → Page) : (c.updPage k f).sMinInForce = c.sMinInForce := rfl
@[simp] theorem Chip.updPage_jets (k : PageId) (f : Page → Page) : (c.updPage k f).jets = c.jets := rfl
@[simp] theorem Chip.updPage_circ (k : PageId) (f : Page → Page) : (c.updPage k f).circ = c.circ := rfl
@[simp] theorem Chip.updPage_showLayer (k : PageId) (f : Page → Page) : (c.updPage k f).showLayer = c.showLayer := rfl
@[simp] theorem Chip.updPage_panelLayer (k : PageId) (f : Page → Page) : (c.updPage k f).panelLayer = c.panelLayer := rfl
@[simp] theorem Chip.updPage_lums (k : PageId) (f : Page → Page) : (c.updPage k f).lums = c.lums := rfl
@[simp] theorem Chip.updPage_outputs (k : PageId) (f : Page → Page) : (c.updPage k f).outputs = c.outputs := rfl
@[simp] theorem Chip.updPage_lampLine (k : PageId) (f : Page → Page) : (c.updPage k f).lampLine = c.lampLine := rfl
@[simp] theorem Chip.updPage_lampTimer (k : PageId) (f : Page → Page) : (c.updPage k f).lampTimer = c.lampTimer := rfl
@[simp] theorem Chip.updPage_sense (k : PageId) (f : Page → Page) : (c.updPage k f).sense = c.sense := rfl
@[simp] theorem Chip.updPage_mode (k : PageId) (f : Page → Page) : (c.updPage k f).mode = c.mode := rfl
@[simp] theorem Chip.updPage_limits (k : PageId) (f : Page → Page) : (c.updPage k f).limits = c.limits := rfl
@[simp] theorem Chip.updPage_protection (k : PageId) (f : Page → Page) : (c.updPage k f).protection = c.protection := rfl
@[simp] theorem Chip.updPage_siteCode (k : PageId) (f : Page → Page) : (c.updPage k f).siteCode = c.siteCode := rfl

@[simp] theorem Chip.updPage_page (k m : PageId) (f : Page → Page) :
    (c.updPage k f).pages[m.val] = if m = k then f c.pages[k] else c.pages[m] := by
  by_cases h : m = k
  · subst h; simp [Chip.updPage]
  · have : (k : Nat) ≠ m := fun e => h (Fin.ext e.symm)
    simp [Chip.updPage, h, Vector.getElem_set_ne, this]

/-! ## notify -/

@[simp] theorem Chip.notify_now (n : Notice) : (c.notify n).now = c.now := rfl
@[simp] theorem Chip.notify_resetHeld (n : Notice) : (c.notify n).resetHeld = c.resetHeld := rfl
@[simp] theorem Chip.notify_lines (n : Notice) : (c.notify n).lines = c.lines := rfl
@[simp] theorem Chip.notify_pages (n : Notice) : (c.notify n).pages = c.pages := rfl
@[simp] theorem Chip.notify_run (n : Notice) : (c.notify n).run = c.run := rfl
@[simp] theorem Chip.notify_image (n : Notice) : (c.notify n).image = c.image := rfl
@[simp] theorem Chip.notify_playback (n : Notice) : (c.notify n).playback = c.playback := rfl
@[simp] theorem Chip.notify_gain (n : Notice) : (c.notify n).gain = c.gain := rfl
@[simp] theorem Chip.notify_gainPeriods (n : Notice) : (c.notify n).gainPeriods = c.gainPeriods := rfl
@[simp] theorem Chip.notify_clock (n : Notice) : (c.notify n).clock = c.clock := rfl
@[simp] theorem Chip.notify_dac (n : Notice) : (c.notify n).dac = c.dac := rfl
@[simp] theorem Chip.notify_framesLeft (n : Notice) : (c.notify n).framesLeft = c.framesLeft := rfl
@[simp] theorem Chip.notify_pumps (n : Notice) : (c.notify n).pumps = c.pumps := rfl
@[simp] theorem Chip.notify_queue (n : Notice) : (c.notify n).queue = c.queue := rfl
@[simp] theorem Chip.notify_joining (n : Notice) : (c.notify n).joining = c.joining := rfl
@[simp] theorem Chip.notify_history (n : Notice) : (c.notify n).history = c.history := rfl
@[simp] theorem Chip.notify_hydTimer (n : Notice) : (c.notify n).hydTimer = c.hydTimer := rfl
@[simp] theorem Chip.notify_sMinInForce (n : Notice) : (c.notify n).sMinInForce = c.sMinInForce := rfl
@[simp] theorem Chip.notify_jets (n : Notice) : (c.notify n).jets = c.jets := rfl
@[simp] theorem Chip.notify_circ (n : Notice) : (c.notify n).circ = c.circ := rfl
@[simp] theorem Chip.notify_showLayer (n : Notice) : (c.notify n).showLayer = c.showLayer := rfl
@[simp] theorem Chip.notify_panelLayer (n : Notice) : (c.notify n).panelLayer = c.panelLayer := rfl
@[simp] theorem Chip.notify_lums (n : Notice) : (c.notify n).lums = c.lums := rfl
@[simp] theorem Chip.notify_outputs (n : Notice) : (c.notify n).outputs = c.outputs := rfl
@[simp] theorem Chip.notify_lampLine (n : Notice) : (c.notify n).lampLine = c.lampLine := rfl
@[simp] theorem Chip.notify_lampTimer (n : Notice) : (c.notify n).lampTimer = c.lampTimer := rfl
@[simp] theorem Chip.notify_sense (n : Notice) : (c.notify n).sense = c.sense := rfl
@[simp] theorem Chip.notify_mode (n : Notice) : (c.notify n).mode = c.mode := rfl
@[simp] theorem Chip.notify_limits (n : Notice) : (c.notify n).limits = c.limits := rfl
@[simp] theorem Chip.notify_protection (n : Notice) : (c.notify n).protection = c.protection := rfl
@[simp] theorem Chip.notify_siteCode (n : Notice) : (c.notify n).siteCode = c.siteCode := rfl

@[simp] theorem Chip.notify_link (n : Notice) (m : LinkId) :
    (c.notify n).links[m.val] = { c.links[m] with notices := withNotice n (c.links[m]).notices } := by
  simp [Chip.notify]

/-! ## reply -/

@[simp] theorem Chip.reply_now (l : LinkId) (kind : Nat) (code : ReplyCode) (data : ReplyData) : (c.reply l kind code data).now = c.now := rfl
@[simp] theorem Chip.reply_resetHeld (l : LinkId) (kind : Nat) (code : ReplyCode) (data : ReplyData) : (c.reply l kind code data).resetHeld = c.resetHeld := rfl
@[simp] theorem Chip.reply_lines (l : LinkId) (kind : Nat) (code : ReplyCode) (data : ReplyData) : (c.reply l kind code data).lines = c.lines := rfl
@[simp] theorem Chip.reply_pages (l : LinkId) (kind : Nat) (code : ReplyCode) (data : ReplyData) : (c.reply l kind code data).pages = c.pages := rfl
@[simp] theorem Chip.reply_run (l : LinkId) (kind : Nat) (code : ReplyCode) (data : ReplyData) : (c.reply l kind code data).run = c.run := rfl
@[simp] theorem Chip.reply_image (l : LinkId) (kind : Nat) (code : ReplyCode) (data : ReplyData) : (c.reply l kind code data).image = c.image := rfl
@[simp] theorem Chip.reply_playback (l : LinkId) (kind : Nat) (code : ReplyCode) (data : ReplyData) : (c.reply l kind code data).playback = c.playback := rfl
@[simp] theorem Chip.reply_gain (l : LinkId) (kind : Nat) (code : ReplyCode) (data : ReplyData) : (c.reply l kind code data).gain = c.gain := rfl
@[simp] theorem Chip.reply_gainPeriods (l : LinkId) (kind : Nat) (code : ReplyCode) (data : ReplyData) : (c.reply l kind code data).gainPeriods = c.gainPeriods := rfl
@[simp] theorem Chip.reply_clock (l : LinkId) (kind : Nat) (code : ReplyCode) (data : ReplyData) : (c.reply l kind code data).clock = c.clock := rfl
@[simp] theorem Chip.reply_dac (l : LinkId) (kind : Nat) (code : ReplyCode) (data : ReplyData) : (c.reply l kind code data).dac = c.dac := rfl
@[simp] theorem Chip.reply_framesLeft (l : LinkId) (kind : Nat) (code : ReplyCode) (data : ReplyData) : (c.reply l kind code data).framesLeft = c.framesLeft := rfl
@[simp] theorem Chip.reply_pumps (l : LinkId) (kind : Nat) (code : ReplyCode) (data : ReplyData) : (c.reply l kind code data).pumps = c.pumps := rfl
@[simp] theorem Chip.reply_queue (l : LinkId) (kind : Nat) (code : ReplyCode) (data : ReplyData) : (c.reply l kind code data).queue = c.queue := rfl
@[simp] theorem Chip.reply_joining (l : LinkId) (kind : Nat) (code : ReplyCode) (data : ReplyData) : (c.reply l kind code data).joining = c.joining := rfl
@[simp] theorem Chip.reply_history (l : LinkId) (kind : Nat) (code : ReplyCode) (data : ReplyData) : (c.reply l kind code data).history = c.history := rfl
@[simp] theorem Chip.reply_hydTimer (l : LinkId) (kind : Nat) (code : ReplyCode) (data : ReplyData) : (c.reply l kind code data).hydTimer = c.hydTimer := rfl
@[simp] theorem Chip.reply_sMinInForce (l : LinkId) (kind : Nat) (code : ReplyCode) (data : ReplyData) : (c.reply l kind code data).sMinInForce = c.sMinInForce := rfl
@[simp] theorem Chip.reply_jets (l : LinkId) (kind : Nat) (code : ReplyCode) (data : ReplyData) : (c.reply l kind code data).jets = c.jets := rfl
@[simp] theorem Chip.reply_circ (l : LinkId) (kind : Nat) (code : ReplyCode) (data : ReplyData) : (c.reply l kind code data).circ = c.circ := rfl
@[simp] theorem Chip.reply_showLayer (l : LinkId) (kind : Nat) (code : ReplyCode) (data : ReplyData) : (c.reply l kind code data).showLayer = c.showLayer := rfl
@[simp] theorem Chip.reply_panelLayer (l : LinkId) (kind : Nat) (code : ReplyCode) (data : ReplyData) : (c.reply l kind code data).panelLayer = c.panelLayer := rfl
@[simp] theorem Chip.reply_lums (l : LinkId) (kind : Nat) (code : ReplyCode) (data : ReplyData) : (c.reply l kind code data).lums = c.lums := rfl
@[simp] theorem Chip.reply_outputs (l : LinkId) (kind : Nat) (code : ReplyCode) (data : ReplyData) : (c.reply l kind code data).outputs = c.outputs := rfl
@[simp] theorem Chip.reply_lampLine (l : LinkId) (kind : Nat) (code : ReplyCode) (data : ReplyData) : (c.reply l kind code data).lampLine = c.lampLine := rfl
@[simp] theorem Chip.reply_lampTimer (l : LinkId) (kind : Nat) (code : ReplyCode) (data : ReplyData) : (c.reply l kind code data).lampTimer = c.lampTimer := rfl
@[simp] theorem Chip.reply_sense (l : LinkId) (kind : Nat) (code : ReplyCode) (data : ReplyData) : (c.reply l kind code data).sense = c.sense := rfl
@[simp] theorem Chip.reply_mode (l : LinkId) (kind : Nat) (code : ReplyCode) (data : ReplyData) : (c.reply l kind code data).mode = c.mode := rfl
@[simp] theorem Chip.reply_limits (l : LinkId) (kind : Nat) (code : ReplyCode) (data : ReplyData) : (c.reply l kind code data).limits = c.limits := rfl
@[simp] theorem Chip.reply_protection (l : LinkId) (kind : Nat) (code : ReplyCode) (data : ReplyData) : (c.reply l kind code data).protection = c.protection := rfl
@[simp] theorem Chip.reply_siteCode (l : LinkId) (kind : Nat) (code : ReplyCode) (data : ReplyData) : (c.reply l kind code data).siteCode = c.siteCode := rfl

@[simp] theorem Chip.reply_link (l m : LinkId) (kind : Nat) (code : ReplyCode) (data : ReplyData) :
    (c.reply l kind code data).links[m.val] =
      if m = l then { c.links[l] with replies := (c.links[l]).replies ++ [⟨kind, code, data⟩] } else c.links[m] := by
  simp [Chip.reply]

/-! ## advance -/

@[simp] theorem Chip.advance_resetHeld (k : Nat) : (c.advance k).resetHeld = c.resetHeld := rfl
@[simp] theorem Chip.advance_lines (k : Nat) : (c.advance k).lines = c.lines := rfl
@[simp] theorem Chip.advance_links (k : Nat) : (c.advance k).links = c.links := rfl
@[simp] theorem Chip.advance_pages (k : Nat) : (c.advance k).pages = c.pages := rfl
@[simp] theorem Chip.advance_run (k : Nat) : (c.advance k).run = c.run := rfl
@[simp] theorem Chip.advance_image (k : Nat) : (c.advance k).image = c.image := rfl
@[simp] theorem Chip.advance_playback (k : Nat) : (c.advance k).playback = c.playback := rfl
@[simp] theorem Chip.advance_gain (k : Nat) : (c.advance k).gain = c.gain := rfl
@[simp] theorem Chip.advance_gainPeriods (k : Nat) : (c.advance k).gainPeriods = c.gainPeriods := rfl
@[simp] theorem Chip.advance_clock (k : Nat) : (c.advance k).clock = c.clock := rfl
@[simp] theorem Chip.advance_dac (k : Nat) : (c.advance k).dac = c.dac := rfl
@[simp] theorem Chip.advance_pumps (k : Nat) : (c.advance k).pumps = c.pumps := rfl
@[simp] theorem Chip.advance_queue (k : Nat) : (c.advance k).queue = c.queue := rfl
@[simp] theorem Chip.advance_joining (k : Nat) : (c.advance k).joining = c.joining := rfl
@[simp] theorem Chip.advance_history (k : Nat) : (c.advance k).history = c.history := rfl
@[simp] theorem Chip.advance_sMinInForce (k : Nat) : (c.advance k).sMinInForce = c.sMinInForce := rfl
@[simp] theorem Chip.advance_jets (k : Nat) : (c.advance k).jets = c.jets := rfl
@[simp] theorem Chip.advance_showLayer (k : Nat) : (c.advance k).showLayer = c.showLayer := rfl
@[simp] theorem Chip.advance_panelLayer (k : Nat) : (c.advance k).panelLayer = c.panelLayer := rfl
@[simp] theorem Chip.advance_lums (k : Nat) : (c.advance k).lums = c.lums := rfl
@[simp] theorem Chip.advance_outputs (k : Nat) : (c.advance k).outputs = c.outputs := rfl
@[simp] theorem Chip.advance_lampLine (k : Nat) : (c.advance k).lampLine = c.lampLine := rfl
@[simp] theorem Chip.advance_mode (k : Nat) : (c.advance k).mode = c.mode := rfl
@[simp] theorem Chip.advance_limits (k : Nat) : (c.advance k).limits = c.limits := rfl
@[simp] theorem Chip.advance_protection (k : Nat) : (c.advance k).protection = c.protection := rfl
@[simp] theorem Chip.advance_siteCode (k : Nat) : (c.advance k).siteCode = c.siteCode := rfl
@[simp] theorem Chip.advance_now (k : Nat) : (c.advance k).now = c.now + k := rfl
@[simp] theorem Chip.advance_framesLeft (k : Nat) :
    (c.advance k).framesLeft = if k = 0 then c.framesLeft else 48 := rfl
@[simp] theorem Chip.advance_hydTimer (k : Nat) : (c.advance k).hydTimer = min 20 (c.hydTimer + k) := rfl
@[simp] theorem Chip.advance_lampTimer (k : Nat) : (c.advance k).lampTimer = min 25 (c.lampTimer + k) := rfl
@[simp] theorem Chip.advance_sense (k : Nat) :
    (c.advance k).sense = { c.sense with gateTimer := min 1000 (c.sense.gateTimer + k) } := rfl
@[simp] theorem Chip.advance_circ (k : Nat) :
    (c.advance k).circ = { c.circ with
      periodTimer := min (c.circ.period * 1000) (c.circ.periodTimer + k)
      flush := c.circ.flush.map fun f => f.grow k c.flushOpen } := rfl

/-! ## reach -/

@[simp] theorem Chip.reach_resetHeld (t : Nat) : (c.reach t).resetHeld = c.resetHeld := rfl
@[simp] theorem Chip.reach_lines (t : Nat) : (c.reach t).lines = c.lines := rfl
@[simp] theorem Chip.reach_links (t : Nat) : (c.reach t).links = c.links := rfl
@[simp] theorem Chip.reach_pages (t : Nat) : (c.reach t).pages = c.pages := rfl
@[simp] theorem Chip.reach_run (t : Nat) : (c.reach t).run = c.run := rfl
@[simp] theorem Chip.reach_image (t : Nat) : (c.reach t).image = c.image := rfl
@[simp] theorem Chip.reach_playback (t : Nat) : (c.reach t).playback = c.playback := rfl
@[simp] theorem Chip.reach_gain (t : Nat) : (c.reach t).gain = c.gain := rfl
@[simp] theorem Chip.reach_gainPeriods (t : Nat) : (c.reach t).gainPeriods = c.gainPeriods := rfl
@[simp] theorem Chip.reach_clock (t : Nat) : (c.reach t).clock = c.clock := rfl
@[simp] theorem Chip.reach_dac (t : Nat) : (c.reach t).dac = c.dac := rfl
@[simp] theorem Chip.reach_pumps (t : Nat) : (c.reach t).pumps = c.pumps := rfl
@[simp] theorem Chip.reach_queue (t : Nat) : (c.reach t).queue = c.queue := rfl
@[simp] theorem Chip.reach_joining (t : Nat) : (c.reach t).joining = c.joining := rfl
@[simp] theorem Chip.reach_history (t : Nat) : (c.reach t).history = c.history := rfl
@[simp] theorem Chip.reach_sMinInForce (t : Nat) : (c.reach t).sMinInForce = c.sMinInForce := rfl
@[simp] theorem Chip.reach_jets (t : Nat) : (c.reach t).jets = c.jets := rfl
@[simp] theorem Chip.reach_showLayer (t : Nat) : (c.reach t).showLayer = c.showLayer := rfl
@[simp] theorem Chip.reach_panelLayer (t : Nat) : (c.reach t).panelLayer = c.panelLayer := rfl
@[simp] theorem Chip.reach_lums (t : Nat) : (c.reach t).lums = c.lums := rfl
@[simp] theorem Chip.reach_outputs (t : Nat) : (c.reach t).outputs = c.outputs := rfl
@[simp] theorem Chip.reach_lampLine (t : Nat) : (c.reach t).lampLine = c.lampLine := rfl
@[simp] theorem Chip.reach_mode (t : Nat) : (c.reach t).mode = c.mode := rfl
@[simp] theorem Chip.reach_limits (t : Nat) : (c.reach t).limits = c.limits := rfl
@[simp] theorem Chip.reach_protection (t : Nat) : (c.reach t).protection = c.protection := rfl
@[simp] theorem Chip.reach_siteCode (t : Nat) : (c.reach t).siteCode = c.siteCode := rfl
@[simp] theorem Chip.reach_now (t : Nat) : (c.reach t).now = max c.now t := by
  simp only [Chip.reach, Chip.advance_now]; omega

end Sys2Proof.Machine
end

