-- ==== Sys2Proof/Laws/Ops.lean ====
section
/-! SUPPORT. What each shared operation of `Ops` can do: one lemma for each, which the proofs cite instead of unfolding it. -/

namespace Sys2Proof.Machine

variable {c : Chip}

/-! ## Running over a list -/

@[simp] theorem Chip.forEach_nil {α : Type} (f : α → Chip → Chip) : Chip.forEach [] f c = c := rfl

@[simp] theorem Chip.forEach_cons {α : Type} (a : α) (ids : List α) (f : α → Chip → Chip) :
    Chip.forEach (a :: ids) f c = Chip.forEach ids f (f a c) := rfl

theorem Chip.forEach_append {α : Type} (xs ys : List α) (f : α → Chip → Chip) :
    Chip.forEach (xs ++ ys) f c = Chip.forEach ys f (Chip.forEach xs f c) := by
  simp [Chip.forEach, List.foldl_append]

/-- What every member's update keeps, the whole run keeps. -/
theorem Chip.forEach_keeps {α : Type} {P : Chip → Prop} {f : α → Chip → Chip} (ids : List α)
    (step : ∀ a ∈ ids, ∀ d, P d → P (f a d)) (h : P c) : P (Chip.forEach ids f c) := by
  induction ids generalizing c with
  | nil => exact h
  | cons a ids ih => exact ih (fun b hb => step b (List.mem_cons_of_mem a hb)) (step a List.mem_cons_self c h)

/-- A relation that is reflexive and transitive, and that every member's update respects, holds across the whole run. -/
theorem Chip.forEach_rel {α : Type} {R : Chip → Chip → Prop} {f : α → Chip → Chip} (ids : List α)
    (refl : ∀ d, R d d) (trans : ∀ x y z, R x y → R y z → R x z) (step : ∀ a ∈ ids, ∀ d, R d (f a d)) :
    R c (Chip.forEach ids f c) :=
  Chip.forEach_keeps (P := R c) ids (fun a ha d h => trans c d _ h (step a ha d)) (refl c)

/-! ## Requests (R172) -/

/-- A request while RESET_N is held does nothing. -/
theorem Chip.request_held {l : LinkId} {kind : Nat} {rule : Rule} (h : c.resetHeld = true) :
    Chip.request l kind rule c = c := by simp [Chip.request, h]

/-- A request that finds four replies waiting is discarded. -/
theorem Chip.request_full {l : LinkId} {kind : Nat} {rule : Rule} (h : 4 ≤ (c.links[l]).replies.length) :
    Chip.request l kind rule c = c := by
  simp only [Chip.request, h, if_true, ite_self]

/-- A request that LNK hears is left to its rule. -/
theorem Chip.request_heard {l : LinkId} {kind : Nat} {rule : Rule} (known : kindKnown kind = true)
    (h : c.hears l kind) : Chip.request l kind rule c = Chip.react l kind (rule c) := by
  obtain ⟨h1, h2, h3, h4⟩ := h
  simp only [Fin.getElem_fin] at h2 h3 h4
  simp [Chip.request, h1, h3, h4, known, Nat.not_le.mpr h2]

/-- A request does nothing, is refused by LNK, or is left to its rule. -/
theorem Chip.request_cases (l : LinkId) (kind : Nat) (rule : Rule) :
    Chip.request l kind rule c = c ∨
    (∃ code : ReplyCode, (code = .busy ∨ code = .unknown ∨ code = .role) ∧
      Chip.request l kind rule c = c.reply l kind code .none) ∨
    (c.hears l kind ∧ Chip.request l kind rule c = Chip.react l kind (rule c)) := by
  unfold Chip.request
  split
  · exact .inl rfl
  · split
    · exact .inl rfl
    · split
      · exact .inr (.inl ⟨_, .inl rfl, rfl⟩)
      · split
        · exact .inr (.inl ⟨_, .inr (.inl rfl), rfl⟩)
        · split
          · exact .inr (.inl ⟨_, .inr (.inr rfl), rfl⟩)
          · simp only [Chip.hears]
            simp_all

/-- What a reply cannot break and the rule with its reaction keeps, the request keeps. -/
theorem Chip.request_keeps {P : Chip → Prop} {l : LinkId} {kind : Nat} {rule : Rule} (h : P c)
    (replies : ∀ code, P (c.reply l kind code .none)) (rules : c.hears l kind → P (Chip.react l kind (rule c))) :
    P (Chip.request l kind rule c) := by
  rcases Chip.request_cases (c := c) l kind rule with e | ⟨code, -, e⟩ | ⟨hh, e⟩ <;> rw [e]
  · exact h
  · exact replies code
  · exact rules hh

@[simp] theorem Chip.react_answer (l : LinkId) (kind : Nat) (d : Chip) (code : ReplyCode) (data : ReplyData) :
    Chip.react l kind (d, .answer code data) = d.reply l kind code data := rfl

@[simp] theorem Chip.react_owe (l : LinkId) (kind : Nat) (d : Chip) :
    Chip.react l kind (d, .owe) = d.updLink l fun k => { k with owed := some kind } := rfl

@[simp] theorem Chip.react_produced (l : LinkId) (kind : Nat) (d : Chip) : Chip.react l kind (d, .produced) = d := rfl

@[simp] theorem Chip.react_refuse (l : LinkId) (kind : Nat) (d : Chip) (code : ReplyCode) :
    Chip.react l kind (d.refuse code) = d.reply l kind code .none := rfl

@[simp] theorem Chip.react_taken (l : LinkId) (kind : Nat) (d : Chip) :
    Chip.react l kind d.taken = d.reply l kind .ok .none := rfl

/-- A BAD_FRAME reply is produced or dropped. -/
theorem Chip.badFrame_cases (l : LinkId) (kind : Nat) :
    c.badFrame l kind = c ∨ ((c.links[l]).replies.length < 4 ∧ c.badFrame l kind = c.reply l kind .badFrame .none) := by
  unfold Chip.badFrame
  split
  · exact .inl rfl
  · exact .inr ⟨Nat.not_le.mp ‹_›, rfl⟩

@[simp] theorem withoutPayload_exact (kind : Nat) (rule : Rule) : withoutPayload kind true rule c = rule c := rfl

/-- A payload of the wrong length gets a refusal that leaves the part as it is, or the reply of a rule that does not take
the request. -/
theorem withoutPayload_wrong (kind : Nat) (rule : Rule) :
    ∃ code data, withoutPayload kind false rule c = (c, .answer code data) ∧ code.taken = false := by
  simp only [withoutPayload, Bool.false_eq_true, if_false]
  split
  · exact ⟨_, _, rfl, rfl⟩
  · split
    · split
      · exact ⟨_, _, rfl, rfl⟩
      · exact ⟨_, _, rfl, Bool.eq_false_iff.mpr ‹_›⟩
    · exact ⟨_, _, rfl, rfl⟩

/-! ## Events -/

@[simp] theorem Chip.event_held {f : Chip → Chip} (h : c.resetHeld = true) : Chip.event f c = c := by
  simp [Chip.event, h]

@[simp] theorem Chip.event_free {f : Chip → Chip} (h : c.resetHeld = false) : Chip.event f c = f c := by
  simp [Chip.event, h]

/-- What the event keeps, it keeps whether or not RESET_N is held. -/
theorem Chip.event_keeps {P : Chip → Prop} {f : Chip → Chip} (h : P c) (step : c.resetHeld = false → P (f c)) :
    P (Chip.event f c) := by
  unfold Chip.event
  split
  · exact h
  · exact step (Bool.eq_false_iff.mpr ‹_›)

/-! ## Real time -/

@[simp] theorem Chip.advance_zero_now : (c.advance 0).now = c.now := rfl

/-- The moment reached is not before the moment aimed at. -/
theorem Chip.le_reach_now (t : Nat) : t ≤ (c.reach t).now := by simp

/-- Reaching moves nothing but the timebase and what is counted from it. -/
theorem Chip.reach_eq (t : Nat) :
    c.reach t = { c with
      now := (c.reach t).now, framesLeft := (c.reach t).framesLeft, hydTimer := (c.reach t).hydTimer
      lampTimer := (c.reach t).lampTimer, sense := (c.reach t).sense, circ := (c.reach t).circ } := rfl

/-! ## One step -/

@[simp] theorem State.act_eq (f : Chip → Chip) (s : State) : s.act f = .next { s with chip := f s.chip } := rfl

/-- A notice stands after it has been raised. -/
theorem mem_withNotice (n : Notice) (ns : List Notice) : n ∈ withNotice n ns := by
  unfold withNotice
  split <;> simp_all

/-- A notice set keeps what it held, and gains the one notice raised at most. -/
theorem mem_withNotice_iff {m n : Notice} {ns : List Notice} : m ∈ withNotice n ns ↔ m = n ∨ m ∈ ns := by
  unfold withNotice
  split <;> aesop

/-- A notice set without repeats stays without repeats. -/
theorem withNotice_nodup {n : Notice} {ns : List Notice} (h : ns.Nodup) : (withNotice n ns).Nodup := by
  unfold withNotice
  split
  · exact h
  · refine List.nodup_append.mpr ⟨h, by simp, fun a ha b hb => ?_⟩
    rintro rfl
    simp_all

end Sys2Proof.Machine
end

