-- ==== Sys2Proof/Laws/Audio.lean ====
section
/-! SUPPORT. What each operation of AUD can do: it writes the playback record, the show clock, the frame sent to the DAC and
the notices, and nothing else of the part. -/

namespace Sys2Proof.Machine

/-- From `c` to `d` nothing but the playback record, the show clock, the DAC frame and the notice sets have changed. -/
def Chip.AudioOnly (c d : Chip) : Prop :=
  d = { c with
    playback := d.playback, clock := d.clock, dac := d.dac, links := d.links } ∧
  ∀ l : LinkId, d.links[l] = { c.links[l] with notices := (d.links[l]).notices }

namespace Chip.AudioOnly

theorem refl (c : Chip) : c.AudioOnly c := ⟨rfl, fun _ => rfl⟩

theorem trans {c d e : Chip} (h : c.AudioOnly d) (k : d.AudioOnly e) : c.AudioOnly e := by
  refine ⟨?_, fun l => ?_⟩
  · refine k.1.trans ?_
    rw [h.1]
  · refine (k.2 l).trans ?_
    rw [h.2 l]

/-- An update of these alone, with the links as they stand. -/
theorem of_eq {c d : Chip} (h : d = { c with
    playback := d.playback, clock := d.clock, dac := d.dac, links := c.links }) : c.AudioOnly d := by
  have e : d.links = c.links := by rw [h]
  refine ⟨h.trans (by rw [e]), fun l => ?_⟩
  rw [e]

theorem now {c d : Chip} (h : c.AudioOnly d) : d.now = c.now := by rw [h.1]
theorem resetHeld {c d : Chip} (h : c.AudioOnly d) : d.resetHeld = c.resetHeld := by rw [h.1]
theorem lines {c d : Chip} (h : c.AudioOnly d) : d.lines = c.lines := by rw [h.1]
theorem pages {c d : Chip} (h : c.AudioOnly d) : d.pages = c.pages := by rw [h.1]
theorem run {c d : Chip} (h : c.AudioOnly d) : d.run = c.run := by rw [h.1]
theorem image {c d : Chip} (h : c.AudioOnly d) : d.image = c.image := by rw [h.1]
theorem gain {c d : Chip} (h : c.AudioOnly d) : d.gain = c.gain := by rw [h.1]
theorem framesLeft {c d : Chip} (h : c.AudioOnly d) : d.framesLeft = c.framesLeft := by rw [h.1]
theorem pumps {c d : Chip} (h : c.AudioOnly d) : d.pumps = c.pumps := by rw [h.1]
theorem queue {c d : Chip} (h : c.AudioOnly d) : d.queue = c.queue := by rw [h.1]
theorem joining {c d : Chip} (h : c.AudioOnly d) : d.joining = c.joining := by rw [h.1]
theorem history {c d : Chip} (h : c.AudioOnly d) : d.history = c.history := by rw [h.1]
theorem hydTimer {c d : Chip} (h : c.AudioOnly d) : d.hydTimer = c.hydTimer := by rw [h.1]
theorem jets {c d : Chip} (h : c.AudioOnly d) : d.jets = c.jets := by rw [h.1]
theorem circ {c d : Chip} (h : c.AudioOnly d) : d.circ = c.circ := by rw [h.1]
theorem showLayer {c d : Chip} (h : c.AudioOnly d) : d.showLayer = c.showLayer := by rw [h.1]
theorem panelLayer {c d : Chip} (h : c.AudioOnly d) : d.panelLayer = c.panelLayer := by rw [h.1]
theorem lums {c d : Chip} (h : c.AudioOnly d) : d.lums = c.lums := by rw [h.1]
theorem outputs {c d : Chip} (h : c.AudioOnly d) : d.outputs = c.outputs := by rw [h.1]
theorem lampLine {c d : Chip} (h : c.AudioOnly d) : d.lampLine = c.lampLine := by rw [h.1]
theorem lampTimer {c d : Chip} (h : c.AudioOnly d) : d.lampTimer = c.lampTimer := by rw [h.1]
theorem sense {c d : Chip} (h : c.AudioOnly d) : d.sense = c.sense := by rw [h.1]
theorem mode {c d : Chip} (h : c.AudioOnly d) : d.mode = c.mode := by rw [h.1]
theorem limits {c d : Chip} (h : c.AudioOnly d) : d.limits = c.limits := by rw [h.1]
theorem protection {c d : Chip} (h : c.AudioOnly d) : d.protection = c.protection := by rw [h.1]
theorem siteCode {c d : Chip} (h : c.AudioOnly d) : d.siteCode = c.siteCode := by rw [h.1]

theorem ite {c d e : Chip} {p : Prop} [Decidable p] (h : c.AudioOnly d) (k : c.AudioOnly e) :
    c.AudioOnly (if p then d else e) := by split <;> assumption

theorem forEach {α : Type} {c : Chip} {ids : List α} {f : α → Chip → Chip} (h : ∀ (a : α) (d : Chip), d.AudioOnly (f a d)) :
    c.AudioOnly (Chip.forEach ids f c) :=
  Chip.forEach_rel ids refl (fun _ _ _ => trans) fun a _ d => h a d

end Chip.AudioOnly

variable (c : Chip)

theorem Chip.playback_audio (a : Playback) : c.AudioOnly { c with playback := a } := .of_eq rfl

theorem Chip.clock_audio (k : ShowClock) : c.AudioOnly { c with clock := k } := .of_eq rfl

theorem Chip.notify_audio (n : Notice) : c.AudioOnly (c.notify n) := ⟨rfl, fun l => by simp⟩

theorem Chip.endOfMusic_audio : c.AudioOnly c.endOfMusic := .of_eq rfl

theorem Chip.starve_audio : c.AudioOnly c.starve := (Chip.playback_audio c _).trans (Chip.notify_audio _ _)

theorem Chip.holdAudio_audio : c.AudioOnly c.holdAudio := by
  unfold Chip.holdAudio
  split
  · exact Chip.playback_audio c _
  · exact Chip.playback_audio c _
  all_goals exact .refl c

theorem Chip.resumeAudio_audio : c.AudioOnly c.resumeAudio :=
  .ite (.refl c) (.ite (Chip.endOfMusic_audio c) (.ite (Chip.playback_audio c _) (Chip.starve_audio c)))

theorem Chip.stopClock_audio : c.AudioOnly c.stopClock := Chip.clock_audio c _

theorem Chip.startClock_audio : c.AudioOnly c.startClock := Chip.clock_audio c _

theorem Chip.endAudio_audio : c.AudioOnly c.endAudio := .of_eq rfl

theorem Chip.tripAudio_audio : c.AudioOnly c.tripAudio := .of_eq rfl

theorem Chip.audioOff_audio : c.AudioOnly c.audioOff := .of_eq rfl

theorem Chip.cueAudio_audio (music : Bool) (origin : Nat) : c.AudioOnly (c.cueAudio music origin) := .of_eq rfl

theorem Chip.startAudio_audio : c.AudioOnly c.startAudio := .of_eq rfl

theorem Chip.lowCrossing_audio (fill : Nat) : c.AudioOnly (c.lowCrossing fill) :=
  .ite (Chip.notify_audio c _) (.refl c)

theorem Chip.playFrame_audio : c.AudioOnly c.playFrame := by
  unfold Chip.playFrame
  extract_lets
  split <;> exact .of_eq rfl

theorem Chip.testBuffer_audio (fill : Nat) : c.AudioOnly (c.testBuffer fill) := by
  unfold Chip.testBuffer
  split
  · exact .ite (Chip.endOfMusic_audio c) (.ite (Chip.starve_audio c) (Chip.lowCrossing_audio c fill))
  · exact .ite (Chip.endOfMusic_audio c) (.refl c)
  all_goals exact .refl c

theorem Chip.followPosition_audio : c.AudioOnly c.followPosition := .ite (Chip.clock_audio c _) (.refl c)

theorem Chip.framePeriod_audio : c.AudioOnly c.framePeriod :=
  ((Chip.playFrame_audio c).trans (Chip.followPosition_audio _)).trans (Chip.testBuffer_audio _ _)

/-- A block that is placed never makes the buffer longer than 32,768 frames. -/
theorem Playback.place_length (a : Playback) (q : Nat) (frames : List AudioFrame) (h : a.fill ≤ bufferSize) :
    a.fill + (a.place q frames).2.length ≤ bufferSize := by
  simp only [Playback.place]
  split_ifs <;> simp only [List.length_nil, List.length_append, List.length_replicate, List.length_take, List.length_drop] <;>
    omega

/-- A block that is refused appends nothing. -/
theorem Playback.place_refused (a : Playback) (q : Nat) (frames : List AudioFrame)
    (h : (a.place q frames).1.taken = false) : (a.place q frames).2 = [] := by
  revert h
  simp only [Playback.place]
  split_ifs <;> simp [ReplyCode.taken]

/-- The mute ramp stays in 0..64. -/
theorem rampMove_le (state : AudioState) (r : Nat) (h : r ≤ 64) : rampMove state r ≤ 64 := by
  unfold rampMove; split <;> omega

end Sys2Proof.Machine
end

