-- ==== Sys2Proof/Laws/Hydraulics.lean ====
section
/-! SUPPORT. What each operation of HYD can do. Its requests, writes and changes of state touch the pumps, the start queue, the
grant history, the jets, the circulation record and the notices, and nothing else of the part. -/

namespace Sys2Proof.Machine

/-- From `c` to `d` nothing but the water has changed: the pumps, the start queue and the requests that join it, the grant
history, the jets, the circulation record, and the notice sets of the links. -/
def Chip.WaterOnly (c d : Chip) : Prop :=
  d = { c with
    pumps := d.pumps, queue := d.queue, joining := d.joining, history := d.history, jets := d.jets
    circ := d.circ, links := d.links } ∧
  ∀ l : LinkId, d.links[l] = { c.links[l] with notices := (d.links[l]).notices }

namespace Chip.WaterOnly

theorem refl (c : Chip) : c.WaterOnly c := ⟨rfl, fun _ => rfl⟩

theorem trans {c d e : Chip} (h : c.WaterOnly d) (k : d.WaterOnly e) : c.WaterOnly e := by
  refine ⟨?_, fun l => ?_⟩
  · refine k.1.trans ?_
    rw [h.1]
  · refine (k.2 l).trans ?_
    rw [h.2 l]

/-- An update of the water alone, with the links as they stand. -/
theorem of_eq {c d : Chip} (h : d = { c with
    pumps := d.pumps, queue := d.queue, joining := d.joining, history := d.history, jets := d.jets
    circ := d.circ, links := c.links }) : c.WaterOnly d := by
  have e : d.links = c.links := by rw [h]
  refine ⟨h.trans (by rw [e]), fun l => ?_⟩
  rw [e]

theorem resetHeld {c d : Chip} (h : c.WaterOnly d) : d.resetHeld = c.resetHeld := by rw [h.1]
theorem now {c d : Chip} (h : c.WaterOnly d) : d.now = c.now := by rw [h.1]
theorem lines {c d : Chip} (h : c.WaterOnly d) : d.lines = c.lines := by rw [h.1]
theorem pages {c d : Chip} (h : c.WaterOnly d) : d.pages = c.pages := by rw [h.1]
theorem run {c d : Chip} (h : c.WaterOnly d) : d.run = c.run := by rw [h.1]
theorem image {c d : Chip} (h : c.WaterOnly d) : d.image = c.image := by rw [h.1]
theorem playback {c d : Chip} (h : c.WaterOnly d) : d.playback = c.playback := by rw [h.1]
theorem gain {c d : Chip} (h : c.WaterOnly d) : d.gain = c.gain := by rw [h.1]
theorem gainPeriods {c d : Chip} (h : c.WaterOnly d) : d.gainPeriods = c.gainPeriods := by rw [h.1]
theorem sMinInForce {c d : Chip} (h : c.WaterOnly d) : d.sMinInForce = c.sMinInForce := by rw [h.1]
theorem clock {c d : Chip} (h : c.WaterOnly d) : d.clock = c.clock := by rw [h.1]
theorem showLayer {c d : Chip} (h : c.WaterOnly d) : d.showLayer = c.showLayer := by rw [h.1]
theorem panelLayer {c d : Chip} (h : c.WaterOnly d) : d.panelLayer = c.panelLayer := by rw [h.1]
theorem lums {c d : Chip} (h : c.WaterOnly d) : d.lums = c.lums := by rw [h.1]
theorem outputs {c d : Chip} (h : c.WaterOnly d) : d.outputs = c.outputs := by rw [h.1]
theorem lampLine {c d : Chip} (h : c.WaterOnly d) : d.lampLine = c.lampLine := by rw [h.1]
theorem sense {c d : Chip} (h : c.WaterOnly d) : d.sense = c.sense := by rw [h.1]
theorem mode {c d : Chip} (h : c.WaterOnly d) : d.mode = c.mode := by rw [h.1]
theorem limits {c d : Chip} (h : c.WaterOnly d) : d.limits = c.limits := by rw [h.1]
theorem protection {c d : Chip} (h : c.WaterOnly d) : d.protection = c.protection := by rw [h.1]
theorem siteCode {c d : Chip} (h : c.WaterOnly d) : d.siteCode = c.siteCode := by rw [h.1]

theorem pumpOf {c d : Chip} (h : c.WaterOnly d) (j : JetId) : d.pumpOf j = c.pumpOf j := by
  unfold Chip.pumpOf; rw [h.limits]

theorem ite {c d e : Chip} {p : Prop} [Decidable p] (h : c.WaterOnly d) (k : c.WaterOnly e) :
    c.WaterOnly (if p then d else e) := by split <;> assumption

theorem forEach {α : Type} {c : Chip} {ids : List α} {f : α → Chip → Chip} (h : ∀ (a : α) (d : Chip), d.WaterOnly (f a d)) :
    c.WaterOnly (Chip.forEach ids f c) :=
  Chip.forEach_rel ids refl (fun _ _ _ => trans) fun a _ d => h a d

end Chip.WaterOnly

variable (c : Chip)

theorem Chip.updPump_water (p : PumpId) (f : Pump → Pump) : c.WaterOnly (c.updPump p f) := .of_eq rfl

theorem Chip.notify_water (n : Notice) : c.WaterOnly (c.notify n) := ⟨rfl, fun l => by simp⟩

theorem Chip.wetFlush_water : c.WaterOnly c.wetFlush := by
  unfold Chip.wetFlush; exact .ite (.of_eq rfl) (.refl c)

/-- Writing the jet table is writing the water. -/
theorem Chip.jets_water (js : Vector Jet 48) : c.WaterOnly { c with jets := js } := .of_eq rfl

theorem Chip.followPump_water (p : PumpId) : c.WaterOnly (c.followPump p) :=
  (Chip.jets_water c _).trans (Chip.wetFlush_water _)

theorem Chip.recauseJets_water : c.WaterOnly c.recauseJets := by
  unfold Chip.recauseJets; exact Chip.jets_water c _

theorem Chip.dequeue_water (p : PumpId) : c.WaterOnly (c.dequeue p) := .of_eq rfl

theorem Chip.startRequest_water (p : PumpId) (r : Requester) : c.WaterOnly (c.startRequest p r) := by
  unfold Chip.startRequest
  split
  · exact .refl c
  · split <;> first | exact .ite (.refl c) (.of_eq rfl) | exact .refl c

theorem Chip.enterState_water (p : PumpId) (st : PumpState) (fault : Option PumpFault) :
    c.WaterOnly (c.enterState p st fault) :=
  (Chip.updPump_water c p _).trans (Chip.followPump_water _ p)

theorem Chip.enterFaulted_water (p : PumpId) (cause : PumpFault) : c.WaterOnly (c.enterFaulted p cause) :=
  ((Chip.dequeue_water c p).trans (Chip.enterState_water _ p _ _)).trans (Chip.notify_water _ _)

theorem Chip.watchDrive_water (p : PumpId) : c.WaterOnly (c.watchDrive p) := by
  unfold Chip.watchDrive
  split <;> first | exact .ite (.refl c) (Chip.enterFaulted_water c p _) | exact .refl c

theorem Chip.enterResting_water (p : PumpId) : c.WaterOnly (c.enterResting p) :=
  ((Chip.enterState_water c p _ _).trans (Chip.updPump_water _ p _)).trans (Chip.watchDrive_water _ p)

theorem Chip.enterStopped_water (p : PumpId) : c.WaterOnly (c.enterStopped p) := by
  have h : c.WaterOnly ((c.enterState p .stopped none).watchDrive p) :=
    (Chip.enterState_water c p _ _).trans (Chip.watchDrive_water _ p)
  unfold Chip.enterStopped
  exact .ite (h.trans (Chip.startRequest_water _ p _)) h

theorem Chip.stopRequest_water (p : PumpId) : c.WaterOnly (c.stopRequest p) := by
  have h := Chip.updPump_water c p fun r => { r with idleExpiry := none }
  unfold Chip.stopRequest
  dsimp only
  split
  · exact h.trans (Chip.dequeue_water _ p)
  · exact h.trans (Chip.dequeue_water _ p)
  · exact h.trans (Chip.updPump_water _ p _)
  · exact .ite (h.trans (Chip.enterResting_water _ p)) (h.trans (Chip.updPump_water _ p _))
  · exact h
  · exact h

theorem Chip.enterRunning_water (p : PumpId) : c.WaterOnly (c.enterRunning p) := by
  unfold Chip.enterRunning
  exact .ite ((Chip.enterState_water c p _ _).trans (Chip.enterResting_water _ p)) (Chip.enterState_water c p _ _)

theorem Chip.demandAppears_water (p : PumpId) (r : Requester) : c.WaterOnly (c.demandAppears p r) := by
  unfold Chip.demandAppears
  split <;> first | exact Chip.startRequest_water c p r | exact Chip.updPump_water c p _ | exact .refl c

theorem Chip.idleOut_water (p : PumpId) : c.WaterOnly (c.idleOut p) :=
  .ite (.ite (.refl c) (.ite (Chip.stopRequest_water c p) (Chip.updPump_water c p _))) (Chip.stopRequest_water c p)

theorem Chip.demandLost_water (p : PumpId) (was : Owner) : c.WaterOnly (c.demandLost p was) :=
  .ite (.ite (.refl c) (.ite (Chip.idleOut_water c p) (Chip.stopRequest_water c p))) (Chip.idleOut_water c p)

theorem Chip.stopUnlessDemanded_water (p : PumpId) : c.WaterOnly (c.stopUnlessDemanded p) :=
  .ite (.refl c) (Chip.stopRequest_water c p)

theorem Chip.intentRun_water (p : PumpId) (r : Requester) : c.WaterOnly (c.intentRun p r) := by
  have h := Chip.updPump_water c p fun q => { q with intent := .run }
  exact (Chip.WaterOnly.ite h (h.trans (Chip.demandAppears_water _ p r))).trans (Chip.startRequest_water _ p r)

theorem Chip.intentStop_water (p : PumpId) : c.WaterOnly (c.intentStop p) :=
  (Chip.updPump_water c p _).trans (Chip.stopUnlessDemanded_water _ p)

theorem Chip.setPolicy_water (p : PumpId) (policy : Policy) : c.WaterOnly (c.setPolicy p policy) := by
  have h := Chip.updPump_water c p fun q => { q with policy := policy }
  exact .ite (.ite h (h.trans (Chip.demandAppears_water _ p _)))
    (.ite (h.trans (Chip.stopRequest_water _ p)) h)

theorem Chip.handDrive_water (p : PumpId) (intent : Intent) (policy : Policy) (atOnce : Bool) :
    c.WaterOnly (c.handDrive p intent policy atOnce) := by
  have h := Chip.updPump_water c p fun q => { q with intent := intent, policy := policy }
  exact .ite ((Chip.WaterOnly.ite h (h.trans (Chip.demandAppears_water _ p _))).trans (Chip.startRequest_water _ p _))
    (.ite (h.trans (Chip.stopRequest_water _ p)) h)

theorem Chip.demandWrite_water (owner : Owner) (demand : Nat) (burstEnd : Option Nat) (j : JetId) :
    c.WaterOnly (c.demandWrite owner demand burstEnd j) := by
  unfold Chip.demandWrite
  extract_lets p was now d
  have h : c.WaterOnly d := (Chip.jets_water c _).trans (Chip.wetFlush_water _)
  refine h.trans ?_
  exact .ite (.ite (.refl _) (Chip.demandAppears_water _ _ _)) (.ite (Chip.demandLost_water _ _ _) (.refl _))

theorem Chip.demandWrites_water (js : List JetId) (owner : Owner) (demand : Nat) :
    c.WaterOnly (c.demandWrites js owner demand) :=
  .forEach fun j d => Chip.demandWrite_water d owner demand none j

theorem Chip.countStarted_water (e : StartEntry) : c.WaterOnly (c.countStarted e) := .ite (.of_eq rfl) (.refl c)

theorem Chip.grant_water (e : StartEntry) : c.WaterOnly (c.grant e) := by
  have h : c.WaterOnly { c.dequeue e.pump with history := lastEight (c.history ++ [c.now]) } := .of_eq rfl
  exact (((h.trans (Chip.enterState_water _ _ _ _)).trans (Chip.updPump_water _ _ _)).trans
    (Chip.countStarted_water _ e)).trans (Chip.watchDrive_water _ _)

theorem Chip.grants_water (fuel : Nat) : c.WaterOnly (Chip.grants fuel c) := by
  induction fuel generalizing c with
  | zero => exact .refl c
  | succ n ih =>
    unfold Chip.grants
    split
    · exact (Chip.grant_water c _).trans (ih _)
    · exact .refl c

theorem Chip.testQueue_water : c.WaterOnly c.testQueue := Chip.grants_water c _

theorem Chip.endEvent_water : c.WaterOnly c.endEvent := by
  have h : c.WaterOnly { c with queue := c.queue ++ c.joining, joining := [] } := .of_eq rfl
  exact h.trans (Chip.testQueue_water _)

theorem Chip.expireJetBursts_water : c.WaterOnly c.expireJetBursts :=
  .forEach fun j d => by
    split
    · exact .ite (Chip.demandWrite_water d _ _ _ j) (.refl d)
    · exact .refl d

theorem Chip.cutJets_water (set : JetSet) : c.WaterOnly (c.cutJets set) :=
  .forEach fun j d => .ite (Chip.demandWrite_water d _ _ _ j) (.refl d)

/-- The hydraulic update writes heights, targets, setpoints and the S_min in force, and nothing else. -/
theorem Chip.hydraulics_eq : c.hydraulics = { c with
    jets := c.hydraulics.jets, pumps := c.hydraulics.pumps, sMinInForce := c.limits.sMins } := rfl

@[simp] theorem Chip.hydraulics_jet (j : JetId) :
    c.hydraulics.jets[j.val] = { c.jets[j] with height := c.effectiveHeight j } := by simp [Chip.hydraulics]

@[simp] theorem Chip.hydraulics_pump (p : PumpId) :
    c.hydraulics.pumps[p.val] =
      { c.pumps[p] with target := c.targetOf p, setpoint := c.setpointOf p (c.targetOf p) } := by simp [Chip.hydraulics]

@[simp] theorem Chip.hydraulics_sMin (p : PumpId) : c.hydraulics.sMinInForce[p.val] = (c.limits.pumps[p]).sMin := by
  simp [Chip.hydraulics, Limits.sMins]

/-- With nothing to grant a test of the queue changes nothing. -/
theorem Chip.testQueue_none (h : c.grantable = none) : c.testQueue = c := by
  unfold Chip.testQueue
  cases c.queue.length with
  | zero => rfl
  | succ n => simp [Chip.grants, h]

/-! ## What single operations write -/

/-- A demand write gives the jet its owner, its demand, its burst end, and the state that its demand and its pump ask for. -/
theorem Chip.settleJet_state (p : PumpId) (j : Jet) (h : j.state ≠ .closed) :
    (c.settleJet p j).state = if (c.pumps[p]).state = .running then .opened else .waiting := by
  unfold Chip.settleJet
  rw [if_neg h]
  split <;> rfl

@[simp] theorem Chip.settleJet_owner (p : PumpId) (j : Jet) : (c.settleJet p j).owner = j.owner := by
  unfold Chip.settleJet
  split
  · rfl
  · split <;> rfl

@[simp] theorem Chip.settleJet_demand (p : PumpId) (j : Jet) : (c.settleJet p j).demand = j.demand := by
  unfold Chip.settleJet
  split
  · rfl
  · split <;> rfl

@[simp] theorem Chip.settleJet_burstEnd (p : PumpId) (j : Jet) : (c.settleJet p j).burstEnd = j.burstEnd := by
  unfold Chip.settleJet
  split
  · rfl
  · split <;> rfl

@[simp] theorem Chip.wetFlush_pumps : c.wetFlush.pumps = c.pumps := by unfold Chip.wetFlush; split <;> rfl
@[simp] theorem Chip.wetFlush_jets : c.wetFlush.jets = c.jets := by unfold Chip.wetFlush; split <;> rfl
@[simp] theorem Chip.wetFlush_queue : c.wetFlush.queue = c.queue := by unfold Chip.wetFlush; split <;> rfl
@[simp] theorem Chip.wetFlush_joining : c.wetFlush.joining = c.joining := by unfold Chip.wetFlush; split <;> rfl
@[simp] theorem Chip.wetFlush_links : c.wetFlush.links = c.links := by unfold Chip.wetFlush; split <;> rfl

/-- Settling the jets of a pump writes no pump and no queue. -/
@[simp] theorem Chip.followPump_pumps (p : PumpId) : (c.followPump p).pumps = c.pumps := by simp [Chip.followPump]
@[simp] theorem Chip.followPump_queue (p : PumpId) : (c.followPump p).queue = c.queue := by simp [Chip.followPump]
@[simp] theorem Chip.followPump_joining (p : PumpId) : (c.followPump p).joining = c.joining := by simp [Chip.followPump]
@[simp] theorem Chip.followPump_links (p : PumpId) : (c.followPump p).links = c.links := by simp [Chip.followPump]

/-- A grant takes an entry that is granted out of the queue, so a test of the queue ends. -/
theorem Chip.grantable_mem {e : StartEntry} (h : c.grantable = some e) : e ∈ c.queue ∧ c.eligible e = true ∧ c.slotFree = true := by
  unfold Chip.grantable at h
  split at h
  · exact ⟨List.mem_of_find?_eq_some h, List.find?_some h, ‹_›⟩
  · cases h

end Sys2Proof.Machine
end

