-- ==== Sys2Proof/Laws/Lamps.lean ====
section
/-! SUPPORT. What each operation of LMP can do: it writes the lamp layers, the luminaires, the output record and the lamp line, and
nothing else of the part. -/

namespace Sys2Proof.Machine

/-- From `c` to `d` nothing but the lamp layers, the luminaires, the outputs, the lamp line and its timer have changed. -/
def Chip.LampsOnly (c d : Chip) : Prop :=
  d = { c with
    showLayer := d.showLayer, panelLayer := d.panelLayer, lums := d.lums, outputs := d.outputs
    lampLine := d.lampLine, lampTimer := d.lampTimer }

namespace Chip.LampsOnly

theorem refl (c : Chip) : c.LampsOnly c := rfl

theorem trans {c d e : Chip} (h : c.LampsOnly d) (k : d.LampsOnly e) : c.LampsOnly e := by
  unfold Chip.LampsOnly at *
  refine k.trans ?_
  rw [h]

theorem now {c d : Chip} (h : c.LampsOnly d) : d.now = c.now := by rw [h]
theorem resetHeld {c d : Chip} (h : c.LampsOnly d) : d.resetHeld = c.resetHeld := by rw [h]
theorem lines {c d : Chip} (h : c.LampsOnly d) : d.lines = c.lines := by rw [h]
theorem pages {c d : Chip} (h : c.LampsOnly d) : d.pages = c.pages := by rw [h]
theorem run {c d : Chip} (h : c.LampsOnly d) : d.run = c.run := by rw [h]
theorem image {c d : Chip} (h : c.LampsOnly d) : d.image = c.image := by rw [h]
theorem playback {c d : Chip} (h : c.LampsOnly d) : d.playback = c.playback := by rw [h]
theorem gain {c d : Chip} (h : c.LampsOnly d) : d.gain = c.gain := by rw [h]
theorem clock {c d : Chip} (h : c.LampsOnly d) : d.clock = c.clock := by rw [h]
theorem dac {c d : Chip} (h : c.LampsOnly d) : d.dac = c.dac := by rw [h]
theorem framesLeft {c d : Chip} (h : c.LampsOnly d) : d.framesLeft = c.framesLeft := by rw [h]
theorem pumps {c d : Chip} (h : c.LampsOnly d) : d.pumps = c.pumps := by rw [h]
theorem queue {c d : Chip} (h : c.LampsOnly d) : d.queue = c.queue := by rw [h]
theorem joining {c d : Chip} (h : c.LampsOnly d) : d.joining = c.joining := by rw [h]
theorem history {c d : Chip} (h : c.LampsOnly d) : d.history = c.history := by rw [h]
theorem hydTimer {c d : Chip} (h : c.LampsOnly d) : d.hydTimer = c.hydTimer := by rw [h]
theorem jets {c d : Chip} (h : c.LampsOnly d) : d.jets = c.jets := by rw [h]
theorem circ {c d : Chip} (h : c.LampsOnly d) : d.circ = c.circ := by rw [h]
theorem sense {c d : Chip} (h : c.LampsOnly d) : d.sense = c.sense := by rw [h]
theorem mode {c d : Chip} (h : c.LampsOnly d) : d.mode = c.mode := by rw [h]
theorem limits {c d : Chip} (h : c.LampsOnly d) : d.limits = c.limits := by rw [h]
theorem protection {c d : Chip} (h : c.LampsOnly d) : d.protection = c.protection := by rw [h]
theorem siteCode {c d : Chip} (h : c.LampsOnly d) : d.siteCode = c.siteCode := by rw [h]
theorem links {c d : Chip} (h : c.LampsOnly d) : d.links = c.links := by rw [h]

theorem ite {c d e : Chip} {p : Prop} [Decidable p] (h : c.LampsOnly d) (k : c.LampsOnly e) :
    c.LampsOnly (if p then d else e) := by split <;> assumption

theorem forEach {α : Type} {c : Chip} {ids : List α} {f : α → Chip → Chip} (h : ∀ (a : α) (d : Chip), d.LampsOnly (f a d)) :
    c.LampsOnly (Chip.forEach ids f c) :=
  Chip.forEach_rel ids refl (fun _ _ _ => trans) fun a _ d => h a d

end Chip.LampsOnly

variable (c : Chip)

/-- Writing the lamps is writing the lamps alone. -/
theorem Chip.lamps_lamps (show_ panel : Vector Fade 128) (lums : Vector Luminaire 32) (out : Vector Nat 128)
    (line : Option (Vector Nat 128)) (timer : Nat) :
    c.LampsOnly { c with
      showLayer := show_, panelLayer := panel, lums := lums, outputs := out, lampLine := line, lampTimer := timer } := rfl

theorem Chip.darkenShow_lamps : c.LampsOnly c.darkenShow := by
  unfold Chip.darkenShow; exact Chip.lamps_lamps c _ _ _ _ _ _

theorem Chip.darkenPanel_lamps : c.LampsOnly c.darkenPanel := by
  unfold Chip.darkenPanel; exact Chip.lamps_lamps c _ _ _ _ _ _

theorem Chip.fadeShow_lamps (lums : LumSet) (mask : ChannelMask) (level : ColourId → Nat) (origin duration : Nat) :
    c.LampsOnly (c.fadeShow lums mask level origin duration) := by
  unfold Chip.fadeShow; exact Chip.lamps_lamps c _ _ _ _ _ _

theorem Chip.fadeOut_lamps (origin duration : Nat) : c.LampsOnly (c.fadeOut origin duration) := by
  unfold Chip.fadeOut; exact Chip.lamps_lamps c _ _ _ _ _ _

theorem Chip.fadePanel_lamps (lums : LumSet) (mask : ChannelMask) (level : ColourId → Nat) (duration : Nat) :
    c.LampsOnly (c.fadePanel lums mask level duration) := by
  unfold Chip.fadePanel; exact Chip.lamps_lamps c _ _ _ _ _ _

theorem Chip.moveGates_lamps : c.LampsOnly c.moveGates := by
  unfold Chip.moveGates; exact Chip.lamps_lamps c _ _ _ _ _ _

theorem Chip.endCrossfades_lamps : c.LampsOnly c.endCrossfades := by
  unfold Chip.endCrossfades; exact Chip.lamps_lamps c _ _ _ _ _ _

theorem Chip.lampFrame_lamps : c.LampsOnly c.lampFrame := by
  unfold Chip.lampFrame
  exact ((Chip.moveGates_lamps c).trans (Chip.endCrossfades_lamps _)).trans (Chip.lamps_lamps _ _ _ _ _ _ _)

theorem Chip.lampsToPanel_lamps : c.LampsOnly c.lampsToPanel := by
  unfold Chip.lampsToPanel; exact Chip.lamps_lamps c _ _ _ _ _ _

theorem Chip.beginCrossfade_lamps : c.LampsOnly c.beginCrossfade := by
  unfold Chip.beginCrossfade; exact Chip.lamps_lamps c _ _ _ _ _ _

theorem Chip.zeroFrame_lamps : c.LampsOnly c.zeroFrame := by
  unfold Chip.zeroFrame; exact Chip.lamps_lamps c _ _ _ _ _ _

theorem Chip.tripLamps_lamps : c.LampsOnly c.tripLamps :=
  ((Chip.darkenShow_lamps c).trans (Chip.darkenPanel_lamps _)).trans (Chip.zeroFrame_lamps _)

/-- The channel of a luminaire and a colour names that luminaire and that colour. -/
@[simp] theorem lumOf_channelOf (l : LumId) (k : ColourId) : lumOf (channelOf l k) = l :=
  Fin.ext (by simp only [lumOf, channelOf]; omega)

@[simp] theorem colourOf_channelOf (l : LumId) (k : ColourId) : colourOf (channelOf l k) = k :=
  Fin.ext (by simp only [colourOf, channelOf]; omega)

/-- Every channel is the channel of its luminaire and its colour. -/
@[simp] theorem channelOf_lumOf (i : Fin 128) : channelOf (lumOf i) (colourOf i) = i :=
  Fin.ext (by simp only [lumOf, colourOf, channelOf]; omega)

end Sys2Proof.Machine
end

