-- ==== Sys2Proof/Laws/Show.lean ====
section
/-! SUPPORT. What the steps of a show can do: they write the show record, the show image, the show layer, the audio and the clock,
the restore timeout and the water, and nothing else of the part; no page, no limit and no panel lamp. -/

namespace Sys2Proof.Machine

/-- From `c` to `d` nothing but the show has changed: its record and image, the mode record, the playback and the clock, the show
layer, the water, and the notice sets. -/
def Chip.ShowOnly (c d : Chip) : Prop :=
  d = { c with
    run := d.run, image := d.image, mode := d.mode, playback := d.playback, clock := d.clock, dac := d.dac
    showLayer := d.showLayer, pumps := d.pumps, queue := d.queue, joining := d.joining
    history := d.history, jets := d.jets, circ := d.circ, links := d.links } ∧
  ∀ l : LinkId, d.links[l] = { c.links[l] with notices := (d.links[l]).notices }

namespace Chip.ShowOnly

theorem refl (c : Chip) : c.ShowOnly c := ⟨rfl, fun _ => rfl⟩

theorem trans {c d e : Chip} (h : c.ShowOnly d) (k : d.ShowOnly e) : c.ShowOnly e := by
  refine ⟨?_, fun l => ?_⟩
  · refine k.1.trans ?_
    rw [h.1]
  · refine (k.2 l).trans ?_
    rw [h.2 l]

/-- An update of these alone, with the links as they stand. -/
theorem of_eq {c d : Chip} (h : d = { c with
    run := d.run, image := d.image, mode := d.mode, playback := d.playback, clock := d.clock, dac := d.dac
    showLayer := d.showLayer, pumps := d.pumps, queue := d.queue, joining := d.joining
    history := d.history, jets := d.jets, circ := d.circ, links := c.links }) : c.ShowOnly d := by
  have e : d.links = c.links := by rw [h]
  refine ⟨h.trans (by rw [e]), fun l => ?_⟩
  rw [e]

theorem now {c d : Chip} (h : c.ShowOnly d) : d.now = c.now := by rw [h.1]
theorem resetHeld {c d : Chip} (h : c.ShowOnly d) : d.resetHeld = c.resetHeld := by rw [h.1]
theorem lines {c d : Chip} (h : c.ShowOnly d) : d.lines = c.lines := by rw [h.1]
theorem pages {c d : Chip} (h : c.ShowOnly d) : d.pages = c.pages := by rw [h.1]
theorem gain {c d : Chip} (h : c.ShowOnly d) : d.gain = c.gain := by rw [h.1]
theorem framesLeft {c d : Chip} (h : c.ShowOnly d) : d.framesLeft = c.framesLeft := by rw [h.1]
theorem hydTimer {c d : Chip} (h : c.ShowOnly d) : d.hydTimer = c.hydTimer := by rw [h.1]
theorem panelLayer {c d : Chip} (h : c.ShowOnly d) : d.panelLayer = c.panelLayer := by rw [h.1]
theorem lums {c d : Chip} (h : c.ShowOnly d) : d.lums = c.lums := by rw [h.1]
theorem outputs {c d : Chip} (h : c.ShowOnly d) : d.outputs = c.outputs := by rw [h.1]
theorem lampLine {c d : Chip} (h : c.ShowOnly d) : d.lampLine = c.lampLine := by rw [h.1]
theorem lampTimer {c d : Chip} (h : c.ShowOnly d) : d.lampTimer = c.lampTimer := by rw [h.1]
theorem sense {c d : Chip} (h : c.ShowOnly d) : d.sense = c.sense := by rw [h.1]
theorem limits {c d : Chip} (h : c.ShowOnly d) : d.limits = c.limits := by rw [h.1]
theorem protection {c d : Chip} (h : c.ShowOnly d) : d.protection = c.protection := by rw [h.1]
theorem siteCode {c d : Chip} (h : c.ShowOnly d) : d.siteCode = c.siteCode := by rw [h.1]

theorem ite {c d e : Chip} {p : Prop} [Decidable p] (h : c.ShowOnly d) (k : c.ShowOnly e) :
    c.ShowOnly (if p then d else e) := by split <;> assumption

theorem forEach {α : Type} {c : Chip} {ids : List α} {f : α → Chip → Chip} (h : ∀ (a : α) (d : Chip), d.ShowOnly (f a d)) :
    c.ShowOnly (Chip.forEach ids f c) :=
  Chip.forEach_rel ids refl (fun _ _ _ => trans) fun a _ d => h a d

end Chip.ShowOnly

theorem Chip.WaterOnly.show {c d : Chip} (h : c.WaterOnly d) : c.ShowOnly d := by
  refine ⟨?_, h.2⟩
  have e := h.1
  rw [h.run, h.image, h.mode, h.playback, h.clock, h.showLayer, show d.dac = c.dac by rw [e]]
  exact e

theorem Chip.AudioOnly.show {c d : Chip} (h : c.AudioOnly d) : c.ShowOnly d := by
  refine ⟨?_, h.2⟩
  have e := h.1
  rw [h.run, h.image, h.mode, h.showLayer, h.pumps, h.queue, h.joining, h.history, h.jets, h.circ]
  exact e

variable (c : Chip)

theorem Chip.run_show (r : ShowRecord) : c.ShowOnly { c with run := r } := .of_eq rfl

theorem Chip.image_show (m : ShowImage) : c.ShowOnly { c with image := m } := .of_eq rfl

theorem Chip.showLayer_show (fades : Vector Fade 128) : c.ShowOnly { c with showLayer := fades } := .of_eq rfl

theorem Chip.fadeShow_show (lums : LumSet) (mask : ChannelMask) (level : ColourId → Nat) (origin duration : Nat) :
    c.ShowOnly (c.fadeShow lums mask level origin duration) := by
  unfold Chip.fadeShow; exact Chip.showLayer_show c _

theorem Chip.fadeOut_show (origin duration : Nat) : c.ShowOnly (c.fadeOut origin duration) := by
  unfold Chip.fadeOut; exact Chip.showLayer_show c _

theorem Chip.notify_show (n : Notice) : c.ShowOnly (c.notify n) := (Chip.notify_water c n).show

theorem Chip.imageJets_show (js : List JetId) (demand : Nat) (burstEnd : Option Nat) :
    c.ShowOnly (c.imageJets js demand burstEnd) := Chip.image_show c _

theorem Chip.imagePumps_show (ps : List PumpId) (act : PumpAction) : c.ShowOnly (c.imagePumps ps act) :=
  Chip.image_show c _

theorem Chip.expireBursts_show : c.ShowOnly c.expireBursts :=
  (Chip.image_show c _).trans (Chip.expireJetBursts_water _).show

theorem Chip.setCounter_show (n v : Nat) : c.ShowOnly (c.setCounter n v) := by
  unfold Chip.setCounter
  split
  · exact Chip.run_show c _
  · exact .refl c

theorem Chip.stepImage_show (raw : RawStep) (due : Nat) : c.ShowOnly (c.stepImage raw due) := by
  unfold Chip.stepImage
  split
  · exact Chip.imageJets_show c _ _ _
  · exact Chip.imageJets_show c _ _ _
  · exact Chip.imageJets_show c _ _ _
  · split
    · exact Chip.imagePumps_show c _ _
    · exact .refl c
  · exact Chip.fadeShow_show c _ _ _ _ _
  · exact Chip.setCounter_show c _ _
  · exact Chip.setCounter_show c _ _
  · exact (Chip.run_show c _).trans (Chip.notify_show _ _)
  all_goals exact .refl c

theorem Chip.drive_water (act : PumpAction) (p : PumpId) : c.WaterOnly (c.drive act p) := by
  unfold Chip.drive
  split
  · exact Chip.intentRun_water c p _
  · exact Chip.intentStop_water c p
  · exact Chip.setPolicy_water c p _
  · exact Chip.setPolicy_water c p _

theorem Chip.stepWater_show (raw : RawStep) (due : Nat) : c.ShowOnly (c.stepWater raw due) := by
  unfold Chip.stepWater
  split
  · exact ((Chip.demandWrites_water c _ _ _).trans (Chip.endEvent_water _)).show
  · extract_lets finish d
    have h : c.ShowOnly d := (Chip.WaterOnly.forEach fun j e => Chip.demandWrite_water e _ _ _ j).show
    exact (Chip.ShowOnly.ite (h.trans (Chip.expireBursts_show d)) h).trans (Chip.endEvent_water _).show
  · exact ((Chip.cutJets_water c _).trans (Chip.endEvent_water _)).show
  · split
    · exact ((Chip.WaterOnly.forEach fun p e => Chip.drive_water e _ p).trans (Chip.endEvent_water _)).show
    · exact .refl c
  all_goals exact .refl c

theorem Chip.stepEffect_show (raw : RawStep) (due : Nat) : c.ShowOnly (c.stepEffect raw due) :=
  (Chip.stepImage_show c raw due).trans (Chip.stepWater_show _ raw due)

theorem Chip.ending_show (r : ShowRecord) (m : ShowImage) (k : ModeRecord) :
    c.ShowOnly { c with run := r, image := m, mode := k } := .of_eq rfl

theorem Chip.enterEnding_show (fade origin : Nat) : c.ShowOnly (c.enterEnding fade origin) := by
  unfold Chip.enterEnding
  dsimp only
  refine ((((?_ : Chip.ShowOnly c _).trans (Chip.demandWrites_water _ _ _ _).show).trans
    (Chip.WaterOnly.forEach fun p x => (Chip.updPump_water x p _).trans (Chip.stopRequest_water _ p)).show).trans
    ((Chip.endEvent_water _).show.trans (Chip.endAudio_audio _).show)).trans (Chip.notify_show _ _)
  exact (Chip.fadeOut_show c origin fade).trans (Chip.ending_show _ _ _ _)

theorem Chip.placeMain_show (i : StepIndex) (due : Nat) : c.ShowOnly (c.placeMain i due) := Chip.run_show c _

theorem Chip.placeHold_show (i : StepIndex) (due : Nat) : c.ShowOnly (c.placeHold i due) := Chip.run_show c _

theorem Chip.catchUpStep_show (w : Written) (i : StepIndex) (due : Nat) : c.ShowOnly (c.catchUpStep w i due).1 := by
  unfold Chip.catchUpStep
  extract_lets raw acts d w
  have h : c.ShowOnly d := .ite (Chip.stepImage_show c raw due) (.refl c)
  split
  · exact h.trans (Chip.placeMain_show d _ _)
  · exact h.trans (Chip.enterEnding_show d _ _)
  · exact h

theorem Chip.catchUpRun_show (fuel : Nat) (w : Written) : c.ShowOnly (Chip.catchUpRun fuel c w).1 := by
  induction fuel generalizing c w with
  | zero => exact .refl c
  | succ n ih =>
    unfold Chip.catchUpRun
    split
    · split
      · exact (Chip.catchUpStep_show c w _ _).trans (ih _ _)
      · exact .refl c
    · exact .refl c

theorem Chip.handOver_water (w : Written) : c.WaterOnly (c.handOver w) :=
  ((Chip.WaterOnly.forEach fun j d => Chip.demandWrite_water d _ _ _ j).trans
    (Chip.WaterOnly.forEach fun p d => Chip.handDrive_water d p _ _ _)).trans (Chip.endEvent_water _)

theorem Chip.catchUp_show : c.ShowOnly c.catchUp := by
  unfold Chip.catchUp
  extract_lets x
  have h : c.ShowOnly x.1 := Chip.catchUpRun_show c _ _
  exact .ite h (h.trans (Chip.handOver_water _ _).show)

theorem Chip.endHold_show (i : StepIndex) : c.ShowOnly (c.endHold i) :=
  ((Chip.run_show c _).trans (Chip.notify_show _ _)).trans (Chip.catchUp_show _)

theorem Chip.executeMain_show (i : StepIndex) (due : Nat) : c.ShowOnly (c.executeMain i due) := by
  unfold Chip.executeMain
  extract_lets raw acts d
  have h : c.ShowOnly d := .ite (Chip.stepEffect_show c raw due) (.refl c)
  split
  · exact h.trans (Chip.placeMain_show d _ _)
  · exact h.trans (Chip.enterEnding_show d _ _)
  · exact h

theorem Chip.executeHold_show (i : StepIndex) (due : Nat) : c.ShowOnly (c.executeHold i due) := by
  unfold Chip.executeHold
  extract_lets raw acts d
  have h : c.ShowOnly d := .ite (Chip.stepEffect_show c raw due) (.refl c)
  split
  · exact h.trans (Chip.placeHold_show d _ _)
  · exact h.trans (Chip.enterEnding_show d _ _)
  · exact h.trans (Chip.endHold_show d i)

theorem Chip.runCursors_show (fuel : Nat) : c.ShowOnly (Chip.runCursors fuel c) := by
  induction fuel generalizing c with
  | zero => exact .refl c
  | succ n ih =>
    unfold Chip.runCursors
    split
    · split
      · exact .ite ((Chip.executeMain_show c _ _).trans (ih _)) (.refl c)
      · exact .refl c
    · split
      · exact .ite ((Chip.executeHold_show c _ _).trans (ih _)) (.refl c)
      · exact .refl c
    all_goals exact .refl c

theorem Chip.runSteps_show : c.ShowOnly c.runSteps := Chip.runCursors_show c _

theorem Chip.clockTook_show : c.ShowOnly c.clockTook :=
  .ite ((Chip.expireBursts_show c).trans (Chip.runSteps_show _)) (.refl c)

theorem Chip.holdSwap_show (i : StepIndex) : c.ShowOnly (c.holdSwap i) :=
  (((Chip.run_show c _).trans (Chip.notify_show _ _)).trans (Chip.notify_show _ _)).trans (Chip.runSteps_show _)

theorem Chip.gustToShow_show : c.ShowOnly c.gustToShow := by
  unfold Chip.gustToShow
  split
  · exact Chip.holdSwap_show c _
  · exact .refl c

/-- A cursor that has something to execute executes it: what every executed step keeps, a run of steps keeps. -/
theorem Chip.runCursors_keeps {P : Chip → Prop} (fuel : Nat)
    (main : ∀ d i due, P d → d.run.cue = .running → d.run.mainCursor = some i → d.run.mainDue = some due →
      due ≤ d.clock.value → P (d.executeMain i due))
    (hold : ∀ d i due, P d → d.run.cue = .holding → d.run.holdCursor = some i → d.run.holdDue = some due →
      due ≤ d.clock.value → P (d.executeHold i due)) (h : P c) : P (Chip.runCursors fuel c) := by
  induction fuel generalizing c with
  | zero => exact h
  | succ n ih =>
    unfold Chip.runCursors
    split
    · split
      · split
        · exact ih _ (main _ _ _ h ‹_› ‹_› ‹_› ‹_›)
        · exact h
      · exact h
    · split
      · split
        · exact ih _ (hold _ _ _ h ‹_› ‹_› ‹_› ‹_›)
        · exact h
      · exact h
    all_goals exact h

end Sys2Proof.Machine
end

