-- ==== Sys2Proof/Laws/Modes.lean ====
section
/-! SUPPORT. What the operations of CIR and MOD can do, and the requests of the show and the panel with them: they leave the
timebase, the field lines, the gains, the sensing record, the limit table and its protection as they stand, and of a link
they write the notice set alone. -/

namespace Sys2Proof.Machine

/-- From `c` to `d` the timebase, the field lines, the gains, the sensing record, the limit table and its protection stand, and of
each link all but its notice set. -/
def Chip.FountainOnly (c d : Chip) : Prop :=
  d = { c with
    pages := d.pages, run := d.run, image := d.image, mode := d.mode, playback := d.playback
    clock := d.clock, dac := d.dac, showLayer := d.showLayer, panelLayer := d.panelLayer, lums := d.lums
    outputs := d.outputs, lampLine := d.lampLine, lampTimer := d.lampTimer, pumps := d.pumps
    queue := d.queue, joining := d.joining, history := d.history, jets := d.jets, circ := d.circ
    links := d.links } ∧
  ∀ l : LinkId, d.links[l] = { c.links[l] with notices := (d.links[l]).notices }

namespace Chip.FountainOnly

theorem refl (c : Chip) : c.FountainOnly c := ⟨rfl, fun _ => rfl⟩

theorem trans {c d e : Chip} (h : c.FountainOnly d) (k : d.FountainOnly e) : c.FountainOnly e := by
  refine ⟨?_, fun l => ?_⟩
  · refine k.1.trans ?_
    rw [h.1]
  · refine (k.2 l).trans ?_
    rw [h.2 l]

/-- An update of these alone, with the links as they stand. -/
theorem of_eq {c d : Chip} (h : d = { c with
    pages := d.pages, run := d.run, image := d.image, mode := d.mode, playback := d.playback
    clock := d.clock, dac := d.dac, showLayer := d.showLayer, panelLayer := d.panelLayer, lums := d.lums
    outputs := d.outputs, lampLine := d.lampLine, lampTimer := d.lampTimer, pumps := d.pumps
    queue := d.queue, joining := d.joining, history := d.history, jets := d.jets, circ := d.circ
    links := c.links }) : c.FountainOnly d := by
  have e : d.links = c.links := by rw [h]
  refine ⟨h.trans (by rw [e]), fun l => ?_⟩
  rw [e]

theorem now {c d : Chip} (h : c.FountainOnly d) : d.now = c.now := by rw [h.1]
theorem resetHeld {c d : Chip} (h : c.FountainOnly d) : d.resetHeld = c.resetHeld := by rw [h.1]
theorem lines {c d : Chip} (h : c.FountainOnly d) : d.lines = c.lines := by rw [h.1]
theorem gain {c d : Chip} (h : c.FountainOnly d) : d.gain = c.gain := by rw [h.1]
theorem framesLeft {c d : Chip} (h : c.FountainOnly d) : d.framesLeft = c.framesLeft := by rw [h.1]
theorem hydTimer {c d : Chip} (h : c.FountainOnly d) : d.hydTimer = c.hydTimer := by rw [h.1]
theorem sense {c d : Chip} (h : c.FountainOnly d) : d.sense = c.sense := by rw [h.1]
theorem limits {c d : Chip} (h : c.FountainOnly d) : d.limits = c.limits := by rw [h.1]
theorem protection {c d : Chip} (h : c.FountainOnly d) : d.protection = c.protection := by rw [h.1]
theorem siteCode {c d : Chip} (h : c.FountainOnly d) : d.siteCode = c.siteCode := by rw [h.1]

theorem ite {c d e : Chip} {p : Prop} [Decidable p] (h : c.FountainOnly d) (k : c.FountainOnly e) :
    c.FountainOnly (if p then d else e) := by split <;> assumption

theorem forEach {α : Type} {c : Chip} {ids : List α} {f : α → Chip → Chip}
    (h : ∀ (a : α) (d : Chip), d.FountainOnly (f a d)) : c.FountainOnly (Chip.forEach ids f c) :=
  Chip.forEach_rel ids refl (fun _ _ _ => trans) fun a _ d => h a d

end Chip.FountainOnly

theorem Chip.ShowOnly.fountain {c d : Chip} (h : c.ShowOnly d) : c.FountainOnly d := by
  refine ⟨?_, h.2⟩
  have e := h.1
  rw [h.pages, h.panelLayer, h.lums, h.outputs, h.lampLine, h.lampTimer]
  exact e

theorem Chip.WaterOnly.fountain {c d : Chip} (h : c.WaterOnly d) : c.FountainOnly d := h.show.fountain

theorem Chip.AudioOnly.fountain {c d : Chip} (h : c.AudioOnly d) : c.FountainOnly d := h.show.fountain

theorem Chip.LampsOnly.fountain {c d : Chip} (h : c.LampsOnly d) : c.FountainOnly d := by
  unfold Chip.LampsOnly at h
  rw [h]
  exact .of_eq rfl

variable (c : Chip)

theorem Chip.mode_fountain (m : ModeRecord) : c.FountainOnly { c with mode := m } := .of_eq rfl

theorem Chip.circ_fountain (r : Circulation) : c.FountainOnly { c with circ := r } := .of_eq rfl

theorem Chip.run_fountain (r : ShowRecord) : c.FountainOnly { c with run := r } := .of_eq rfl

theorem Chip.run_mode_fountain (r : ShowRecord) (m : ModeRecord) : c.FountainOnly { c with run := r, mode := m } := .of_eq rfl

theorem Chip.pumps_fountain (ps : Vector Pump 12) : c.FountainOnly { c with pumps := ps } := .of_eq rfl

theorem Chip.jets_fountain (js : Vector Jet 48) : c.FountainOnly { c with jets := js } := .of_eq rfl

theorem Chip.notify_fountain (n : Notice) : c.FountainOnly (c.notify n) := (Chip.notify_water c n).fountain

/-! ## Power and circulation -/

theorem Chip.raisePower_fountain : c.FountainOnly c.raisePower :=
  .ite ((Chip.mode_fountain c _).trans (Chip.recauseJets_water _).fountain) (.refl c)

theorem Chip.dropPower_fountain : c.FountainOnly c.dropPower :=
  (Chip.mode_fountain c _).trans (Chip.recauseJets_water _).fountain

theorem Chip.powerOn_fountain : c.FountainOnly c.powerOn :=
  (Chip.mode_fountain c _).trans (Chip.recauseJets_water _).fountain

theorem Chip.testPower_fountain : c.FountainOnly c.testPower := .ite (Chip.dropPower_fountain c) (.refl c)

theorem Chip.beginFlush_fountain (mode : FlushMode) (z : ZoneId) : c.FountainOnly (c.beginFlush mode z) := by
  unfold Chip.beginFlush
  dsimp only
  refine .ite (.trans ?_ (Chip.raisePower_fountain _)) ?_ <;>
    exact (((Chip.circ_fountain c _).trans (Chip.demandWrites_water _ _ _ _).fountain).trans
      (Chip.endEvent_water _).fountain).trans (Chip.mode_fountain _ _)

theorem Chip.testFlush_fountain : c.FountainOnly c.testFlush := by
  unfold Chip.testFlush
  exact .ite ((Chip.circ_fountain c _).trans (Chip.beginFlush_fountain _ _ _)) (.refl c)

theorem Chip.releaseStarted_water (started : Vector Bool 12) : c.WaterOnly (c.releaseStarted started) :=
  .forEach fun p d => Chip.stopUnlessDemanded_water d p

theorem Chip.releaseJets_water : c.WaterOnly c.releaseJets := Chip.demandWrites_water c _ _ _

theorem Chip.dropFlush_fountain : c.FountainOnly c.dropFlush := .of_eq rfl

theorem Chip.closeFlush_fountain (f : Flush) : c.FountainOnly (c.closeFlush f) :=
  (((Chip.releaseJets_water c).trans (Chip.releaseStarted_water _ _)).fountain.trans (Chip.dropFlush_fountain _)).trans
    (Chip.endEvent_water _).fountain

theorem Chip.advancePointer_fountain (z : ZoneId) : c.FountainOnly (c.advancePointer z) := Chip.circ_fountain c _

theorem Chip.payDebt_fountain : c.FountainOnly c.payDebt := Chip.circ_fountain c _

theorem Chip.cutFlush_fountain : c.FountainOnly c.cutFlush := by
  unfold Chip.cutFlush
  split
  · exact .refl c
  · extract_lets d
    have h : c.FountainOnly d := .ite ((Chip.payDebt_fountain c).trans (Chip.advancePointer_fountain _ _)) (.refl c)
    exact (h.trans (Chip.releaseStarted_water _ _).fountain).trans (Chip.dropFlush_fountain _)

theorem Chip.zoneDone_fountain (f : Flush) : c.FountainOnly (c.zoneDone f) := by
  unfold Chip.zoneDone
  split
  · exact ((((Chip.releaseJets_water c).fountain.trans (Chip.circ_fountain _ _)).trans
      (Chip.demandWrites_water _ _ _ _).fountain).trans (Chip.releaseStarted_water _ _).fountain).trans
      (Chip.endEvent_water _).fountain
  · exact (Chip.closeFlush_fountain c f).trans (Chip.circ_fountain _ _)

theorem Chip.endFlush_fountain (f : Flush) : c.FountainOnly (c.endFlush f) :=
  ((Chip.closeFlush_fountain c f).trans (Chip.payDebt_fountain _)).trans (Chip.advancePointer_fountain _ _)

theorem Chip.stallFlush_fountain (f : Flush) : c.FountainOnly (c.stallFlush f) := by
  unfold Chip.stallFlush
  extract_lets d
  have h : c.FountainOnly d := Chip.closeFlush_fountain c f
  exact (Chip.FountainOnly.ite (h.trans (Chip.advancePointer_fountain _ _)) h).trans (Chip.notify_fountain _ _)

theorem Chip.periodExpiry_fountain : c.FountainOnly c.periodExpiry := by
  unfold Chip.periodExpiry
  exact .ite ((Chip.circ_fountain c _).trans (Chip.notify_fountain _ _)) (Chip.circ_fountain c _)

/-! ## Modes -/

theorem Chip.toMode_fountain (m : FountainMode) : c.FountainOnly (c.toMode m) :=
  .ite (.refl c) ((Chip.mode_fountain c _).trans (Chip.notify_fountain _ _))

theorem Chip.beginWake_fountain (w : WakeTo) : c.FountainOnly (c.beginWake w) := by
  unfold Chip.beginWake
  split
  · exact ((Chip.raisePower_fountain c).trans (Chip.mode_fountain _ _)).trans (Chip.toMode_fountain _ _)
  · exact ((Chip.raisePower_fountain c).trans (Chip.mode_fountain _ _)).trans (Chip.toMode_fountain _ _)
  · exact Chip.toMode_fountain c _

theorem Chip.endWake_fountain : c.FountainOnly c.endWake := by
  unfold Chip.endWake
  split
  · exact (Chip.mode_fountain c _).trans (Chip.toMode_fountain _ _)
  · exact .refl c

theorem Chip.enterDormant_fountain : c.FountainOnly c.enterDormant :=
  ((((Chip.toMode_fountain c _).trans (Chip.mode_fountain _ _)).trans
    (Chip.WaterOnly.forEach fun p d => Chip.intentStop_water d p).fountain).trans (Chip.testPower_fountain _)).trans
    (Chip.zeroFrame_lamps _).fountain

theorem Chip.endRestore_fountain : c.FountainOnly c.endRestore :=
  (((Chip.run_mode_fountain c _ _).trans (Chip.notify_fountain _ _)).trans
    (Chip.startClock_audio _).fountain).trans (Chip.resumeAudio_audio _).fountain

theorem Chip.testRestore_fountain : c.FountainOnly c.testRestore := .ite (Chip.endRestore_fountain c) (.refl c)

theorem Chip.updPage_fountain (k : PageId) (f : Page → Page) : c.FountainOnly (c.updPage k f) := .of_eq rfl

theorem Chip.releasePage_fountain : c.FountainOnly c.releasePage := by
  unfold Chip.releasePage
  split
  · exact Chip.updPage_fountain c _ _
  · exact .refl c

theorem Chip.closeShow_fountain : c.FountainOnly c.closeShow :=
  ((Chip.releasePage_fountain c).trans (Chip.run_fountain _ _)).trans (Chip.notify_fountain _ _)

theorem Chip.completeEnding_fountain : c.FountainOnly c.completeEnding :=
  (((Chip.closeShow_fountain c).trans (Chip.stopClock_audio _).fountain).trans (Chip.darkenShow_lamps _).fountain).trans
    (Chip.toMode_fountain _ _)

theorem Chip.testEnding_fountain : c.FountainOnly c.testEnding := .ite (Chip.completeEnding_fountain c) (.refl c)

theorem Chip.testDormancy_fountain (before : Chip) : c.FountainOnly (Chip.testDormancy before c) :=
  .ite (Chip.mode_fountain c _) (.ite (.refl c) (Chip.mode_fountain c _))

theorem Chip.settle_fountain (before : Chip) : c.FountainOnly (Chip.settle before c) :=
  ((((Chip.testRestore_fountain c).trans (Chip.testEnding_fountain _)).trans (Chip.testFlush_fountain _)).trans
    (Chip.testPower_fountain _)).trans (Chip.testDormancy_fountain _ _)

/-! ## Trips -/

theorem Chip.tripPumps_fountain : c.FountainOnly c.tripPumps := by
  unfold Chip.tripPumps
  have h : c.FountainOnly { c with queue := [], joining := [] } := .of_eq rfl
  exact (h.trans (Chip.WaterOnly.forEach fun p d => Chip.WaterOnly.ite (Chip.enterResting_water d p) (.refl d)).fountain).trans
    (Chip.pumps_fountain _ _)

theorem Chip.closeJets_fountain : c.FountainOnly c.closeJets := by
  unfold Chip.closeJets; exact Chip.jets_fountain c _

theorem Chip.abortShow_fountain : c.FountainOnly c.abortShow :=
  .ite (Chip.mode_fountain c _) ((Chip.mode_fountain c _).trans (Chip.closeShow_fountain _))

theorem Chip.enterTripped_fountain (cause : TripCause) : c.FountainOnly (c.enterTripped cause) :=
  (((((((((Chip.mode_fountain c _).trans (Chip.dropPower_fountain _)).trans (Chip.tripPumps_fountain _)).trans
    (Chip.closeJets_fountain _)).trans (Chip.abortShow_fountain _)).trans (Chip.tripAudio_audio _).fountain).trans
    (Chip.tripLamps_lamps _).fountain).trans (Chip.cutFlush_fountain _)).trans (Chip.toMode_fountain _ _)).trans
    (Chip.notify_fountain _ _)

theorem Chip.tripCause_fountain (cause : TripCause) : c.FountainOnly (c.tripCause cause) :=
  .ite ((Chip.mode_fountain c _).trans (Chip.notify_fountain _ _)) (Chip.enterTripped_fountain c cause)

end Sys2Proof.Machine
end

