-- ==== Sys2Proof/Laws/PerInstr.lean ====
section
/-! SUPPORT. One fact for each command: where the command is a request, the frame that carries it names a request, and a well-formed
request fits a payload of 1,040 bytes (R171, R179). -/

namespace Sys2Proof.Laws.FrameFits

open Sys2Proof Sys2Proof.Machine

/-- The frame that carries the command, if it is a request, has a kind that names one and a payload that fits. -/
def Statement (i : Instr) : Prop :=
  ∀ (l : LinkId) (kind : Nat) (payload : List Byte), requestFrame i = some (l, kind, payload) →
    kindKnown kind = true ∧ (wellFormed i = true → payload.length ≤ largestPayload)

/-- A field takes as many bytes as its width. -/
theorem length_beBytes (n v : Nat) : (beBytes n v).length = n := by
  simp [beBytes]

/-- A set takes as many bytes as its width. -/
theorem length_setBytes (n v : Nat) : (setBytes n v).length = n := by
  simp [setBytes]

/-- A run of items of one width takes that width for each. -/
theorem length_flatMap {α : Type} (f : α → List Byte) (n : Nat) (h : ∀ a, (f a).length = n) (xs : List α) :
    (xs.flatMap f).length = n * xs.length := by
  induction xs with
  | nil => rfl
  | cons x xs ih => simp [List.flatMap_cons, h, ih]; ring

/-- A command that is no request has no frame. -/
theorem of_none {i : Instr} (h : requestFrame i = none) : Statement i := by
  intro l kind payload e
  rw [h] at e
  cases e

/-- A request whose frame is known. -/
theorem of_some {i : Instr} {l : LinkId} {kind : Nat} {payload : List Byte} (h : requestFrame i = some (l, kind, payload))
    (k : kindKnown kind = true) (fit : wellFormed i = true → payload.length ≤ largestPayload) : Statement i := by
  intro l' kind' payload' e
  rw [h] at e
  cases e
  exact ⟨k, fit⟩

theorem pageOpen (link : LinkId) (page : Nat) :
    Statement (.pageOpen link page) :=
  of_some rfl rfl fun _ => by simp [length_beBytes, largestPayload]

theorem stepWrite (link : LinkId) (page start count : Nat) (steps : List RawStep) :
    Statement (.stepWrite link page start count steps) :=
  of_some rfl rfl fun h => by
    have : steps.length ≤ 64 := by simp [wellFormed] at h; exact h.2
    have e := length_flatMap (fun raw : RawStep => setBytes 16 raw.toNat) 16 (fun raw => length_setBytes 16 raw.toNat) steps
    simp only [List.length_append, length_beBytes, e, largestPayload]
    omega

theorem sceneWrite (link : LinkId) (page scene : Nat) (entry : Option Nat) :
    Statement (.sceneWrite link page scene entry) :=
  of_some rfl rfl fun _ => by simp [length_beBytes, largestPayload]

theorem slotWrite (link : LinkId) (page slot source sense threshold : Nat) :
    Statement (.slotWrite link page slot source sense threshold) :=
  of_some rfl rfl fun _ => by simp [length_beBytes, largestPayload]

theorem pageClose (link : LinkId) (page : Nat) :
    Statement (.pageClose link page) :=
  of_some rfl rfl fun _ => by simp [length_beBytes, largestPayload]

theorem validationComplete : Statement .validationComplete := of_none rfl

theorem pageFree (link : LinkId) (page : Nat) :
    Statement (.pageFree link page) :=
  of_some rfl rfl fun _ => by simp [length_beBytes, largestPayload]

theorem cue (link : LinkId) (page : Nat) (music : Bool) (origin : Nat) :
    Statement (.cue link page music origin) :=
  of_some rfl rfl fun _ => by simp [length_beBytes, largestPayload]

theorem uncue (link : LinkId) :
    Statement (.uncue link) :=
  of_some rfl rfl fun _ => Nat.zero_le _

theorem start (link : LinkId) :
    Statement (.start link) :=
  of_some rfl rfl fun _ => Nat.zero_le _

theorem pause (link : LinkId) :
    Statement (.pause link) :=
  of_some rfl rfl fun _ => Nat.zero_le _

theorem continueShow (link : LinkId) :
    Statement (.continueShow link) :=
  of_some rfl rfl fun _ => Nat.zero_le _

theorem holdSet (link : LinkId) (scene : Option Nat) :
    Statement (.holdSet link scene) :=
  of_some rfl rfl fun _ => by simp [length_beBytes, largestPayload]

theorem audio (link : LinkId) (position count : Nat) (frames : List AudioFrame) :
    Statement (.audio link position count frames) :=
  of_some rfl rfl fun h => by
    have : frames.length ≤ 258 := by simp [wellFormed] at h; exact h.2
    have e := length_flatMap bytesOfFrame 4 (fun f => by simp [bytesOfFrame, length_beBytes]) frames
    simp only [List.length_append, length_beBytes, e, largestPayload]
    omega

theorem audioEnd (link : LinkId) (position : Nat) :
    Statement (.audioEnd link position) :=
  of_some rfl rfl fun _ => by simp [length_beBytes, largestPayload]

theorem gain (link : LinkId) (value : Nat) :
    Statement (.gain link value) :=
  of_some rfl rfl fun _ => by simp [length_beBytes, largestPayload]

theorem duck (link : LinkId) (value : Nat) :
    Statement (.duck link value) :=
  of_some rfl rfl fun _ => by simp [length_beBytes, largestPayload]

theorem stop (link : LinkId) :
    Statement (.stop link) :=
  of_some rfl rfl fun _ => Nat.zero_le _

theorem take (link : LinkId) :
    Statement (.take link) :=
  of_some rfl rfl fun _ => Nat.zero_le _

theorem release (link : LinkId) :
    Statement (.release link) :=
  of_some rfl rfl fun _ => Nat.zero_le _

theorem trip (link : LinkId) :
    Statement (.trip link) :=
  of_some rfl rfl fun _ => Nat.zero_le _

theorem clearTrip (link : LinkId) :
    Statement (.clearTrip link) :=
  of_some rfl rfl fun _ => Nat.zero_le _

theorem restart (link : LinkId) :
    Statement (.restart link) :=
  of_some rfl rfl fun _ => Nat.zero_le _

theorem jetSet (link : LinkId) (jets : JetSet) (demand : Nat) :
    Statement (.jetSet link jets demand) :=
  of_some rfl rfl fun _ => by simp [length_beBytes, length_setBytes, largestPayload]

theorem pumpStart (link : LinkId) (pumps : PumpSet) :
    Statement (.pumpStart link pumps) :=
  of_some rfl rfl fun _ => by simp [length_setBytes, largestPayload]

theorem pumpStop (link : LinkId) (pumps : PumpSet) :
    Statement (.pumpStop link pumps) :=
  of_some rfl rfl fun _ => by simp [length_setBytes, largestPayload]

theorem pumpPolicy (link : LinkId) (pumps : PumpSet) (policy : Nat) :
    Statement (.pumpPolicy link pumps policy) :=
  of_some rfl rfl fun _ => by simp [length_beBytes, length_setBytes, largestPayload]

theorem clearPump (link : LinkId) (pump : Nat) :
    Statement (.clearPump link pump) :=
  of_some rfl rfl fun _ => by simp [length_beBytes, largestPayload]

theorem lightSet (link : LinkId) (lums : LumSet) (mask : ChannelMask) (red green blue white fade : Nat) :
    Statement (.lightSet link lums mask red green blue white fade) :=
  of_some rfl rfl fun _ => by simp [length_beBytes, length_setBytes, largestPayload]

theorem zoneMask (link : LinkId) (mask : ZoneMask) :
    Statement (.zoneMask link mask) :=
  of_some rfl rfl fun _ => by simp [length_beBytes, largestPayload]

theorem flushAll (link : LinkId) :
    Statement (.flushAll link) :=
  of_some rfl rfl fun _ => Nat.zero_le _

theorem limitWrite (link : LinkId) (sect : Nat) (entries : List Byte) :
    Statement (.limitWrite link sect entries) :=
  of_some rfl rfl fun h => by
    have : entries.length ≤ 1039 := by simp [wellFormed] at h; exact h.2
    simp [length_beBytes, largestPayload]
    omega

theorem commission (link : LinkId) (code : Nat) :
    Statement (.commission link code) :=
  of_some rfl rfl fun _ => by simp [length_beBytes, largestPayload]

theorem relax (link : LinkId) (code : Nat) :
    Statement (.relax link code) :=
  of_some rfl rfl fun _ => by simp [length_beBytes, largestPayload]

theorem sleep (link : LinkId) :
    Statement (.sleep link) :=
  of_some rfl rfl fun _ => Nat.zero_le _

theorem wake (link : LinkId) :
    Statement (.wake link) :=
  of_some rfl rfl fun _ => Nat.zero_le _

theorem status (link : LinkId) :
    Statement (.status link) :=
  of_some rfl rfl fun _ => Nat.zero_le _

theorem readShow (link : LinkId) :
    Statement (.readShow link) :=
  of_some rfl rfl fun _ => Nat.zero_le _

theorem readPumps (link : LinkId) :
    Statement (.readPumps link) :=
  of_some rfl rfl fun _ => Nat.zero_le _

theorem readJets (link : LinkId) :
    Statement (.readJets link) :=
  of_some rfl rfl fun _ => Nat.zero_le _

theorem readLamps (link : LinkId) (luminaire : Nat) :
    Statement (.readLamps link luminaire) :=
  of_some rfl rfl fun _ => by simp [length_beBytes, largestPayload]

theorem readSite (link : LinkId) :
    Statement (.readSite link) :=
  of_some rfl rfl fun _ => Nat.zero_le _

theorem readLimits (link : LinkId) (sect : Nat) :
    Statement (.readLimits link sect) :=
  of_some rfl rfl fun _ => by simp [length_beBytes, largestPayload]

theorem readPage (link : LinkId) (page : Nat) :
    Statement (.readPage link page) :=
  of_some rfl rfl fun _ => by simp [length_beBytes, largestPayload]

theorem readSteps (link : LinkId) (page start count : Nat) :
    Statement (.readSteps link page start count) :=
  of_some rfl rfl fun _ => by simp [length_beBytes, largestPayload]

theorem frameReceived (link : LinkId) (kind : Byte) (payload : List Byte) (crc : BitVec 16) : Statement (.frameReceived link kind payload crc) := of_none rfl

theorem frameLengthFault (link : LinkId) (kind : Byte) (length : Nat) : Statement (.frameLengthFault link kind length) := of_none rfl

theorem frameGapTimeout (link : LinkId) (kind : Option Byte) : Statement (.frameGapTimeout link kind) := of_none rfl

theorem discardIdleEnd (link : LinkId) : Statement (.discardIdleEnd link) := of_none rfl

theorem replyFrameSent (link : LinkId) : Statement (.replyFrameSent link) := of_none rfl

theorem powerOnReset (lines : Lines) : Statement (.powerOnReset lines) := of_none rfl

theorem lineResetAssert : Statement .lineResetAssert := of_none rfl

theorem lineResetRelease (straps : Vector StrapPins 3) : Statement (.lineResetRelease straps) := of_none rfl

theorem showClockTick : Statement .showClockTick := of_none rfl

theorem audioFramePeriod : Statement .audioFramePeriod := of_none rfl

theorem gainStep : Statement .gainStep := of_none rfl

theorem anemometerPulse : Statement .anemometerPulse := of_none rfl

theorem windGateClose : Statement .windGateClose := of_none rfl

theorem levelInputChange (which : LevelSwitch) (asserted : Bool) : Statement (.levelInputChange which asserted) := of_none rfl

theorem levelDebounceExpiry (which : LevelSwitch) : Statement (.levelDebounceExpiry which) := of_none rfl

theorem eStopAssert : Statement .eStopAssert := of_none rfl

theorem eStopRelease : Statement .eStopRelease := of_none rfl

theorem duskInputChange (high : Bool) : Statement (.duskInputChange high) := of_none rfl

theorem duskDebounceExpiry : Statement .duskDebounceExpiry := of_none rfl

theorem hydraulicUpdate : Statement .hydraulicUpdate := of_none rfl

theorem queueTimingExpiry : Statement .queueTimingExpiry := of_none rfl

theorem pressOkRise (pump : PumpId) (high : Bool) : Statement (.pressOkRise pump high) := of_none rfl

theorem primeMinExpiry (pump : PumpId) : Statement (.primeMinExpiry pump) := of_none rfl

theorem primeTimeout (pump : PumpId) : Statement (.primeTimeout pump) := of_none rfl

theorem runMinExpiry (pump : PumpId) : Statement (.runMinExpiry pump) := of_none rfl

theorem idleExpiry (pump : PumpId) : Statement (.idleExpiry pump) := of_none rfl

theorem restEnd (pump : PumpId) : Statement (.restEnd pump) := of_none rfl

theorem drvOkFall (pump : PumpId) (high : Bool) : Statement (.drvOkFall pump high) := of_none rfl

theorem flushPeriodExpiry : Statement .flushPeriodExpiry := of_none rfl

theorem flushEnd : Statement .flushEnd := of_none rfl

theorem flushAllZoneDone : Statement .flushAllZoneDone := of_none rfl

theorem flushStall : Statement .flushStall := of_none rfl

theorem settleExpiry : Statement .settleExpiry := of_none rfl

theorem dormancyExpiry : Statement .dormancyExpiry := of_none rfl

theorem restoreTimeout : Statement .restoreTimeout := of_none rfl

theorem lampFrame : Statement .lampFrame := of_none rfl

theorem startByteReceived (link : LinkId) : Statement (.startByteReceived link) := of_none rfl

end Sys2Proof.Laws.FrameFits
end

