-- ==== Sys2Proof/Laws/Timebase.lean ====
section
/-! SUPPORT. What an idle step can do, and what AUD's two events of the local timebase count. -/

namespace Sys2Proof.Machine

variable (c : Chip)

/-- With something due, what comes next is one of the groups that are due. -/
theorem nextGroup_mem (now left : Nat) {due : List (List Instr)} (h : due ≠ []) : nextGroup now left due ∈ due := by
  have k : Config.nextDue now left due % due.length < due.length := Nat.mod_lt _ (List.length_pos_iff.mpr h)
  unfold nextGroup
  rw [List.getD_eq_getElem _ _ k]
  exact List.getElem_mem k

/-- No group of what is due is empty. -/
theorem Chip.due_ne_nil {group : List Instr} (h : group ∈ c.due) : group ≠ [] := by
  unfold Chip.due at h
  rcases List.mem_append.mp h with k | k
  · split at k
    · cases k
    · rw [List.mem_singleton.mp k]
      exact fun e => ‹¬_› (by rw [e]; rfl)
  · obtain ⟨i, -, rfl⟩ := List.mem_map.mp k
    exact List.cons_ne_nil _ _

/-- An idle step passes one millisecond, or puts one of the groups that are due in the queue and changes nothing of the part. -/
theorem State.idle_cases (s : State) :
    ((s.chip.resetHeld = true ∨ s.chip.due = []) ∧ s.idle = ⟨s.chip.advance 1, []⟩) ∨
    (s.chip.resetHeld = false ∧ ∃ group ∈ s.chip.due, s.idle = ⟨s.chip, group⟩) := by
  unfold State.idle
  dsimp only
  split
  · exact .inl ⟨‹_›, rfl⟩
  · rename_i h
    obtain ⟨h1, h2⟩ := not_or.mp h
    exact .inr ⟨Bool.eq_false_iff.mpr h1, _, nextGroup_mem _ _ h2, rfl⟩

/-- An audio frame period moves the timebase on where its millisecond has none left, and counts toward the gain's next move. -/
theorem Chip.takePeriod_eq : c.takePeriod = { c with
    now := c.takePeriod.now, framesLeft := c.takePeriod.framesLeft, hydTimer := c.takePeriod.hydTimer
    lampTimer := c.takePeriod.lampTimer, sense := c.takePeriod.sense, circ := c.takePeriod.circ
    gainPeriods := min gainSpacing (c.gainPeriods + 1) } := by
  unfold Chip.takePeriod
  split <;> rfl

/-- The gain moves when its periods have passed. -/
theorem Chip.gainStep_due (h : gainSpacing ≤ c.gainPeriods) :
    c.gainStep = { c with gain := c.gain.move, gainPeriods := 0 } := if_pos h

/-- Before that it stands. -/
theorem Chip.gainStep_early (h : c.gainPeriods < gainSpacing) : c.gainStep = c := if_neg (Nat.not_le.mpr h)

end Sys2Proof.Machine
end

