-- ==== Sys2Proof/Tests/Slice0.lean ====
section
/-! SUPPORT. Tests: each check of `WellFormed` with a term it refuses, a witness for the hypotheses of each statement, and small
tests of one step each, with values worked out in the manual. -/

namespace Sys2Proof.Tests

set_option Elab.async false

open Sys2Proof Sys2Proof.Machine

/-! ## Helpers -/

/-- The part right after power-on reset: SL0 has the PROGRAM role, SL1 PANEL, SL2 OBSERVER. -/
def fresh : Chip := State.reset.chip

/-- A state with nothing waiting. -/
def holding (c : Chip) : State := ⟨c, []⟩

/-- The part after one command. -/
def after (i : Instr) (c : Chip) : Chip :=
  match exec i (holding c) with
  | .next t => t.chip
  | .fault _ => c
  | .refused _ => c

/-- The code of the newest reply that waits on a link after one command. -/
def answer (i : Instr) (l : LinkId) (c : Chip) : Option ReplyCode := ((after i c).links[l]).replies.getLast?.map Reply.code

/-- A mode, with the power on. -/
def inMode (m : FountainMode) : Chip := { fresh with mode := { fresh.mode with mode := m, power := .on } }

/-- A step of a kind, acting whatever the slots, with a delay and a body. -/
def stepOf (kind delay : Nat) (body : List Nat) (mask : Nat := 0) : RawStep :=
  stepOfBytes (([kind + 16 * mask, 0, delay / 256, delay] ++ body ++ List.replicate (12 - body.length) 0).map (BitVec.ofNat 8))

/-- A page in a state, with S0 at index 0, S15 at index 40, and steps stored from index 0 and at index 40. -/
def pageIn (st : PageState) (steps : List RawStep) (hold : RawStep) : Page :=
  { clearedPage with
    state := st
    scenes := (clearedPage.scenes.set 0 (some 0)).set 15 (some 40)
    steps := Vector.ofFn fun i =>
      if i.val < steps.length then steps.getD i.val emptyStep else if i.val = 40 then hold else emptyStep }

/-- A show record in a cue state, its main cursor on index 0, due at tick 5, its hold cursor on index 40. -/
def recordIn (cue : CueState) : ShowRecord :=
  { idleShow with
    cue := cue, livePage := some 0, mainCursor := some 0, mainDue := some 5, holdCursor := some 40
    counters := #v[3, 2, 1, 0] }

/-- A show from page 0 in a cue state, in a mode, at tick 3. -/
def showIn (cue : CueState) (m : FountainMode) (steps : List RawStep) : Chip :=
  { inMode m with
    pages := fresh.pages.set 0 (pageIn .live steps (stepOf 0 7 []))
    run := recordIn cue
    clock := ⟨3, .localTime, true, 100⟩
    now := 100 }

/-- The show of `showIn`, paused. -/
def pausedBy (cause : PauseCause) (m : FountainMode) : Chip :=
  { showIn .paused m [] with run := { recordIn .paused with pauseCause := some cause } }

/-- A playback state, with frames in the buffer from position 1000. -/
def audioIn (st : AudioState) (frames : List AudioFrame) (c : Chip) : Chip :=
  { c with playback := { c.playback with state := st, music := true, p := 1000, p0 := 1000, buffer := frames } }

/-- A pump in a state, in service. -/
def pumpIn (p : PumpId) (st : PumpState) (c : Chip) : Chip :=
  { c.updPump p (fun r => { r with state := st }) with
    limits := { c.limits with pumps := c.limits.pumps.set p { c.limits.pumps[p] with inService := true } } }

/-- A jet with a demand, OPEN for an owner. -/
def jetOpen (j : JetId) (owner : Owner) (demand : Nat) (c : Chip) : Chip :=
  { c with jets := c.jets.set j ⟨.opened, owner, demand, none, none, 0⟩ }

/-- Changes one link. -/
def link (l : LinkId) (f : Link → Link) : Chip := fresh.updLink l f

/-- Replies that wait. -/
def waiting (n : Nat) : List Reply := List.replicate n ⟨36, .ok, .none⟩

/-- A flush of zone 0 that some jet waters. -/
def flushing (mode : FlushMode) (wet : Bool) : Chip :=
  let c := { inMode .standby with
    circ := { fresh.circ with debt := 1, flush := some ⟨mode, 0, 0, 300, 60, 0, 0, Vector.replicate 12 false⟩ }
    mode := { (inMode .standby).mode with flushRunning := true } }
  if wet then jetOpen 0 .flush 300 c else c

/-! ## What `WellFormed` refuses -/

theorem test_page_number_is_one_byte : wellFormed (.pageOpen 0 256) = false := by decide
theorem test_start_index_is_two_bytes : wellFormed (.stepWrite 0 0 65536 1 [0]) = false := by decide
theorem test_step_count_is_one_byte : wellFormed (.stepWrite 0 0 0 256 []) = false := by decide
theorem test_steps_fit_the_payload : wellFormed (.stepWrite 0 0 0 65 (List.replicate 65 0)) = false := by decide
theorem test_scene_number_is_one_byte : wellFormed (.sceneWrite 0 0 256 none) = false := by decide
theorem test_scene_entry_is_below_its_empty_code : wellFormed (.sceneWrite 0 0 0 (some 65535)) = false := by decide
theorem test_slot_number_is_one_byte : wellFormed (.slotWrite 0 0 256 0 0 0) = false := by decide
theorem test_slot_source_is_one_byte : wellFormed (.slotWrite 0 0 0 256 0 0) = false := by decide
theorem test_slot_sense_is_one_byte : wellFormed (.slotWrite 0 0 0 0 256 0) = false := by decide
theorem test_slot_threshold_is_two_bytes : wellFormed (.slotWrite 0 0 0 0 0 65536) = false := by decide
theorem test_cue_origin_is_four_bytes : wellFormed (.cue 0 0 true 4294967296) = false := by decide
theorem test_hold_scene_is_below_its_none_code : wellFormed (.holdSet 0 (some 255)) = false := by decide
theorem test_audio_position_is_four_bytes : wellFormed (.audio 0 4294967296 1 [⟨0, 0⟩]) = false := by decide
theorem test_audio_count_is_two_bytes : wellFormed (.audio 0 0 65536 []) = false := by decide
theorem test_audio_frames_fit_the_payload : wellFormed (.audio 0 0 259 (List.replicate 259 ⟨0, 0⟩)) = false := by decide +kernel
theorem test_audio_end_is_four_bytes : wellFormed (.audioEnd 0 4294967296) = false := by decide
theorem test_gain_is_two_bytes : wellFormed (.gain 0 65536) = false ∧ wellFormed (.duck 1 65536) = false := by decide
theorem test_demand_is_two_bytes : wellFormed (.jetSet 1 1 65536) = false := by decide
theorem test_policy_is_one_byte : wellFormed (.pumpPolicy 1 1 256) = false := by decide
theorem test_pump_number_is_one_byte : wellFormed (.clearPump 1 256) = false := by decide
theorem test_light_levels_are_two_bytes :
    wellFormed (.lightSet 1 1 1 65536 0 0 0 0) = false ∧ wellFormed (.lightSet 1 1 1 0 65536 0 0 0) = false ∧
    wellFormed (.lightSet 1 1 1 0 0 65536 0 0) = false ∧ wellFormed (.lightSet 1 1 1 0 0 0 65536 0) = false ∧
    wellFormed (.lightSet 1 1 1 0 0 0 0 65536) = false := by decide
theorem test_table_section_is_one_byte : wellFormed (.limitWrite 1 256 []) = false := by decide
theorem test_table_bytes_fit_the_payload : wellFormed (.limitWrite 1 0 (List.replicate 1040 0)) = false := by decide +kernel
theorem test_codes_are_two_bytes : wellFormed (.commission 1 65536) = false ∧ wellFormed (.relax 1 65536) = false := by decide
theorem test_read_fields_have_their_widths :
    wellFormed (.readLamps 2 256) = false ∧ wellFormed (.readLimits 2 256) = false ∧ wellFormed (.readPage 2 256) = false ∧
    wellFormed (.readSteps 2 256 0 1) = false ∧ wellFormed (.readSteps 2 0 65536 1) = false ∧
    wellFormed (.readSteps 2 0 0 256) = false := by decide
theorem test_frame_payload_fits : wellFormed (.frameReceived 0 1 (List.replicate 1041 0) 0) = false := by decide +kernel
theorem test_length_fault_is_beyond_the_payload :
    wellFormed (.frameLengthFault 0 1 1040) = false ∧ wellFormed (.frameLengthFault 0 1 65536) = false := by decide
theorem test_other_page_fields :
    wellFormed (.stepWrite 0 256 0 1 [0]) = false ∧ wellFormed (.sceneWrite 0 256 0 none) = false ∧
    wellFormed (.slotWrite 0 256 0 0 0 0) = false ∧ wellFormed (.pageClose 0 256) = false ∧
    wellFormed (.pageFree 0 256) = false ∧ wellFormed (.cue 0 256 true 0) = false := by decide
theorem test_well_formed_is_met : wellFormed (.stepWrite 0 3 1023 1 [0]) = true ∧ wellFormed (.trip 1) = true := by decide

/-- The table gives no row any bits, so no word spells a command. -/
theorem test_no_word_spells_a_command : decodeTableWord 16 1 = none := rfl

/-! ## Witnesses: states that meet the hypotheses of the statements -/

theorem witness_StepRunsTheFrontCommand :
    State.reset.pending = [] ∧ (holding { fresh with resetHeld := true }).chip.resetHeld = true ∧
    (fresh.due = [] ∧ { fresh with hydTimer := 20 }.resetHeld = false ∧
      [.hydraulicUpdate] ∈ { fresh with hydTimer := 20 }.due) := by decide +kernel

theorem witness_LinkTests :
    requestFrame (.status 0) = some (0, 36, []) ∧ { fresh with resetHeld := true }.resetHeld = true ∧
    (4 ≤ ((link 0 fun k => { k with replies := waiting 4 }).links[0]).replies.length) ∧
    (((link 0 fun k => { k with replies := waiting 3, owed := some 5 }).links[0]).replies.length < 4 ∧
      ((link 0 fun k => { k with replies := waiting 3, owed := some 5 }).links[0]).owed ≠ none) ∧
    requestFrame (.start 2) = some (2, 9, []) ∧ (fresh.links[2]).owed = none ∧
    permits (fresh.links[2]).role 9 = false := by decide +kernel

theorem witness_RequestsAndTheirReplies :
    requestFrame (.wake 1) = some (1, 35, []) ∧ 35 ≠ kindRestart ∧ fresh.resetHeld = false ∧
    ((link 1 fun k => { k with replies := waiting 3 }).links[1]).replies.length < 4 ∧
    (∃ t, exec (.wake 1) (holding (link 1 fun k => { k with replies := waiting 3 })) = .next t) ∧
    requestFrame (.pageClose 0 0) = some (0, kindPageClose, beBytes 1 0) :=
  ⟨by decide +kernel, by decide +kernel, by decide +kernel, by decide +kernel, ⟨_, rfl⟩, by decide +kernel⟩

theorem witness_FramesAreAssembled :
    (fresh.links[0]).receive = .hunt ∧
    ((link 0 fun k => { k with receive := .receiving }).links[0]).receive = .receiving ∧
    (link 0 fun k => { k with receive := .receiving, replies := waiting 3 }).assembling 0 = true ∧ 1040 < 1041 ∧
    (link 0 fun k => { k with receive := .receiving, replies := waiting 4 }).assembling 0 = true ∧
    ((link 0 fun k => { k with receive := .receiving, discarding := true }).links[0]).discarding = true ∧
    ((link 0 fun k => { k with replies := waiting 2 }).links[0]).replies = ⟨36, .ok, .none⟩ :: waiting 1 ∧
    (List.replicate 1040 (0 : Byte)).length ≤ 1040 ∧ (0 : BitVec 16) ≠ frameCrc 36 [] ∧
    ((0 : Byte).toNat = 0 ∧ 45 ≤ (45 : Byte).toNat) := by decide +kernel

theorem witness_FramesCarryRequests :
    (requestFrame (.stepWrite 0 3 0 64 (List.replicate 64 0))).isSome = true ∧
    wellFormed (.stepWrite 0 3 0 64 (List.replicate 64 0)) = true ∧
    (requestFrame (.audio 0 4294967295 256 (List.replicate 256 ⟨1, 2⟩))).isSome = true ∧
    wellFormed (.audio 0 4294967295 256 (List.replicate 256 ⟨1, 2⟩)) = true ∧
    (link 0 fun k => { k with receive := .receiving }).assembling 0 = true := by decide +kernel

theorem witness_ReceivedFramesReachTheirRules :
    requestFrame (.gain 0 300) = some (0, 15, beBytes 2 300) ∧ wellFormed (.gain 0 300) = true ∧
    requestFrame (.restart 1) = some (1, 21, []) ∧ wellFormed (.restart 1) = true ∧
    (let c := fresh.updLinks fun k => { k with receive := .receiving };
      c.hears 0 15 ∧ c.hears 0 5 ∧ c.hears 1 21 ∧ c.assembling 0 = true ∧ c.assembling 1 = true) := by decide +kernel

theorem witness_PageRequestTests :
    (fresh.resetHeld = false ∧ (fresh.links[0]).replies.length < 4 ∧ (fresh.links[0]).owed = none) ∧
    (fresh.links[1]).role ≠ .program ∧ (fresh.links[0]).role = .program ∧ 4 ≤ 4 ∧
    PageState.mayOpen .live = false ∧ PageState.mayWrite .ready = false ∧ PageState.mayFree .checking = false ∧
    PageState.mayWrite .loading = true ∧ (stepRange 1023 2 && decide (2 = 2)) = false ∧ decide (16 < 16) = false ∧
    decide (8 < 8) = false := by decide +kernel

theorem witness_PageRequestsWriteThePage :
    (fresh.hears 0 1 ∧ fresh.hears 0 2 ∧ fresh.hears 0 3 ∧ fresh.hears 0 4 ∧ fresh.hears 0 6) ∧
    (fresh.pages[0]).state = .free ∧
    ((showIn .cued .standby []).pages[0]).state = .live ∧
    (((fresh.pages.set 0 (pageIn .loading [] 0))[0]).state = .loading ∧
      (1 ≤ 1 ∧ 1 ≤ 64 ∧ [stepOf 0 0 []].length = 1 ∧ 1023 ≤ 1023 ∧ 1023 + 1 - 1 ≤ 1023) ∧
      ¬(1 ≤ 2 ∧ 2 ≤ 64 ∧ [stepOf 0 0 [], 0].length = 2 ∧ 1023 ≤ 1023 ∧ 1023 + 2 - 1 ≤ 1023)) := by decide +kernel

theorem witness_ClosingAPage :
    fresh.hears 0 5 ∧ ((fresh.pages.set 0 (pageIn .loading [] 0))[0]).state = .loading ∧ (fresh.pages[1]).state ≠ .loading ∧
    (((fresh.updPage 3 fun pg => { pg with state := .checking }).pages[3]).state = .checking ∧
      ∀ m : PageId, m ≠ 3 → ((fresh.updPage 3 fun pg => { pg with state := .checking }).pages[m]).state ≠ .checking) := by
  decide +kernel

/-- One term at the edge of each check of R15 and R16. -/
theorem witness_TheFirstFaultIsReported :
    (stepKind (stepOf 12 0 []) = none ∧ stepKind (stepOf 11 0 []) = some .resume) ∧
    (let raw := stepOfBytes [1, 24]; stepByte raw 1 ≠ 0 ∧ ∀ q : Fin 8, stepByte raw 1 ≠ 16 + q.val ∧ stepByte raw 1 ≠ 32 + q.val) ∧
    (stepByte (stepOfBytes [1, 39]) 1 = 32 + (7 : Fin 8).val ∧ (clearedPage.slots[7]).source = 0) ∧
    (∃ q : Fin 8, (stepByte (stepOfBytes [1, 16]) 1 = 16 + q.val ∨ stepByte (stepOfBytes [1, 16]) 1 = 32 + q.val) ∧
      (({ clearedPage with slots := clearedPage.slots.set 0 ⟨4, 0, 0⟩ } : Page).slots[q]).source ≠ 0) ∧
    stepByte (stepOf 7 0 [4]) 1 = 0 ∧ 1023 ≤ 1023 ∧ 1024 ≤ 1024 ∧
    (5 ≤ (⟨5, 0, 0⟩ : Slot).source ∧ (⟨4, 2, 0⟩ : Slot).source ≤ 4 ∧ 2 ≤ (⟨4, 2, 0⟩ : Slot).sense ∧
      1000 ≤ (⟨1, 1, 1000⟩ : Slot).threshold ∧ (⟨1, 1, 999⟩ : Slot).threshold ≤ 999) := by decide +kernel

theorem witness_CueAndUncue :
    fresh.hears 0 7 ∧ 4 ≤ 4 ∧ (showIn .cued .standby []).run.cue ≠ .idle ∧ fresh.run.cue = .idle ∧
    (inMode .settling).mode.mode = .settling ∧ (inMode .manual).mode.mode = .manual ∧
    (fresh.pages[3]).state ≠ .ready ∧
    ((fresh.pages.set 3 (pageIn .ready [] 0))[3]).state = .ready ∧
    ((fresh.pages.set 3 (pageIn .ready [] 0))[3]).scenes[0] = some (0 : StepIndex).val ∧
    ((fresh.pages.set 3 (pageIn .ready [] 0))[3]).scenes[15] = some (40 : StepIndex).val ∧
    ((fresh.updPage 3 fun pg => { pg with state := .ready }).pages[3]).scenes[0] = none ∧
    (showIn .cued .standby []).hears 0 8 ∧ (showIn .cued .standby []).run.livePage = some 0 := by decide +kernel

theorem witness_StartRunsTheShow :
    (showIn .cued .standby []).hears 0 9 ∧ fresh.run.cue ≠ .cued ∧ (showIn .cued .standby []).run.cue = .cued ∧
    (showIn .cued .manual []).mode.mode = .manual ∧ (showIn .cued .settling []).mode.mode = .settling ∧
    ((audioIn .filling (List.replicate 9599 ⟨0, 0⟩) (showIn .cued .standby [])).playback.music = true ∧
      (audioIn .filling (List.replicate 9599 ⟨0, 0⟩) (showIn .cued .standby [])).playback.buffer.length < 9600) ∧
    9600 ≤ (audioIn .filling (List.replicate 9600 ⟨0, 0⟩) (showIn .cued .standby [])).playback.buffer.length ∧
    (showIn .cued .standby []).run.mainDue = some 5 ∧ 0 < 5 ∧ (showIn .cued .standby []).image = clearedImage := by
  decide +kernel

theorem witness_PauseContinueAndHoldSet :
    (showIn .running .showMode []).hears 0 10 ∧ (showIn .running .showMode []).run.cue = .running ∧
    fresh.run.cue ≠ .running ∧ (pausedBy .take .manual).hears 0 11 ∧
    ((pausedBy .take .manual).run.cue = .paused ∧ (pausedBy .take .manual).run.pauseCause = some .take) ∧
    (pausedBy .program .showMode).run.pauseCause = some .program ∧
    (audioIn .held [] (pausedBy .program .showMode)).playback.state = .held ∧
    (audioIn .held [⟨1, 1⟩] (pausedBy .program .showMode)).playback.buffer ≠ [] ∧
    (audioIn .held [] (pausedBy .program .showMode)).playback.p <
      (audioIn .held [] (pausedBy .program .showMode)).playback.streamEnd ∧
    (after (.audioEnd 0 1000) (audioIn .held [⟨1, 1⟩] (pausedBy .program .showMode))).playback.streamEnd ≤ 1000 ∧
    (showIn .running .showMode []).hears 0 12 ∧ 16 ≤ 16 ∧
    ((showIn .running .showMode []).pages[0]).scenes[14] = none ∧
    ((showIn .running .showMode []).pages[0]).scenes[15] = some (40 : StepIndex).val := by decide +kernel

theorem witness_StopByCueState :
    (showIn .running .showMode []).hears 0 16 ∧ fresh.run.cue = .idle ∧ (showIn .ending .showMode []).run.cue = .ending ∧
    ((showIn .cued .standby []).run.cue = .cued ∧ (showIn .cued .standby []).run.livePage = some 0) ∧
    ((showIn .running .showMode []).mode.mode = .showMode ∧
      { showIn .running .showMode [] with outputs := Vector.replicate 128 1 }.lampsDark = false) ∧
    ((showIn .running .showMode []).lampsDark = true ∧ (showIn .running .showMode []).run.livePage = some 0 ∧
      (∀ p : PumpId, (((showIn .running .showMode []).enterEnding 2000 3).pumps[p]).state.up = false) ∧
      (((pumpIn 0 .priming (showIn .running .showMode [])).enterEnding 2000 3).pumps[0]).state.up = true) ∧
    ((pausedBy .take .manual).run.pauseCause = some .take ∧ (pausedBy .take .manual).mode.mode = .manual ∧
      (pausedBy .take .manual).run.livePage = some 0) := by decide +kernel

theorem witness_EndingBeginsAndCompletes :
    (showIn .ending .showMode []).resetHeld = false ∧ (showIn .ending .showMode []).run.cue = .ending ∧
    (showIn .ending .showMode []).mode.mode = .showMode ∧ (showIn .ending .showMode []).run.livePage = some 0 := by
  decide +kernel

theorem witness_DueStepsRun :
    (showIn .running .showMode []).run.mainCursor.isSome = true ∧ (showIn .running .showMode []).run.mainDue.isSome = true ∧
    (showIn .running .showMode []).run.cue = .running ∧
    ({ recordIn .holding with holdDue := some 0 }.cue = .holding ∧ (recordIn .holding).holdCursor.isSome = true) := by
  decide +kernel

/-- A show of two steps: JUMP to S15, and LOOP on K0 to S0. -/
def jumpAndLoop : List RawStep := [stepOf 6 0 [15], stepOf 8 0 [0, 0]]

theorem witness_CursorsArriveAndStepsAct :
    (showIn .running .showMode jumpAndLoop).run.livePage = some 0 ∧
    stepKind (((showIn .running .showMode jumpAndLoop).pages[0]).steps[0]) = some .jump ∧
    stepJumpScene (((showIn .running .showMode jumpAndLoop).pages[0]).steps[0]) = 15 ∧
    stepKind (((showIn .running .showMode jumpAndLoop).pages[0]).steps[1]) = some .loop ∧
    stepLoopScene (((showIn .running .showMode jumpAndLoop).pages[0]).steps[1]) = 0 ∧
    stepCounter (((showIn .running .showMode jumpAndLoop).pages[0]).steps[1]) = 0 ∧
    2 ≤ (showIn .running .showMode jumpAndLoop).run.counters[1] ∧ (showIn .running .showMode jumpAndLoop).run.counters[2] ≤ 1 ∧
    (showIn .running .showMode jumpAndLoop).stepActs (stepOf 6 0 [15]) = true ∧
    (showIn .running .showMode jumpAndLoop).stepActs 0 = true ∧
    ([7, 9, 10, 11].map fun n => stepKind (stepOf n 0 [])) = [some .loopSet, some .mark, some .endShow, some .resume] := by
  decide +kernel

/-- A step that acts while Q0 holds, over a page whose Q0 does not hold. -/
theorem witness_a_step_is_passed_over :
    { showIn .running .showMode [] with
      pages := fresh.pages.set 0 { pageIn .live [] 0 with slots := clearedPage.slots.set 0 ⟨1, 0, 65535⟩ } }.stepActs
      (stepOfBytes [1, 16, 0, 0, 1]) = false ∧
    (∃ due, (showIn .running .showMode []).fallFrom 1022 9 = .arrive 1023 due) ∧
    (showIn .running .showMode []).fallFrom 1023 9 = .finish 0 9 := by
  exact ⟨by decide +kernel, ⟨_, rfl⟩, by decide +kernel⟩

theorem witness_WaterAndLightSteps :
    stepKind (stepOf 1 0 [1]) = some .jet ∧ stepKind (stepOf 2 0 [1]) = some .burst ∧
    3 < 3 + stepLength (stepOf 2 0 [1, 0, 0, 0, 0, 0, 3, 232, 0, 1]) ∧ 3 + stepLength (stepOf 2 0 [1]) ≤ 3 ∧
    stepKind (stepOf 3 0 [1]) = some .cut ∧ stepKind (stepOf 4 0 [1, 0, 0]) = some .pump ∧
    (stepAction (stepOf 4 0 [1, 0, 0])).isSome = true ∧ stepKind (stepOf 5 0 [1]) = some .light := by decide +kernel

/-- A JET step of delay 0 under the hold cursor, and a step of delay 7 behind it. -/
def holdAtOnce : Chip :=
  let c := showIn .running .showMode []
  { c with pages := c.pages.set 0 { c.pages[0] with
      steps := (((c.pages[0]).steps.set 40 (stepOf 1 0 [1, 0, 0, 0, 0, 128, 1, 44])).set 41 (stepOf 0 7 [])) } }

theorem witness_a_hold_step_at_once :
    holdAtOnce.run.cue = .running ∧ holdAtOnce.mode.mode = .showMode ∧ holdAtOnce.run.livePage = some 0 ∧
    holdAtOnce.run.holdCursor = some 40 ∧ (41 : StepIndex).val = (40 : StepIndex).val + 1 ∧
    stepDelay (holdAtOnce.pages[0]).steps[40] = 0 ∧ stepByte (holdAtOnce.pages[0]).steps[40] 1 = 0 ∧
    stepKind (holdAtOnce.pages[0]).steps[40] = some .jet ∧ 0 < stepDelay (holdAtOnce.pages[0]).steps[41] ∧
    (stepJets (holdAtOnce.pages[0]).steps[40]).getLsbD 47 = true ∧
    (stepJets (holdAtOnce.pages[0]).steps[40]).getLsbD 1 = false := by decide +kernel

theorem witness_a_gust_without_a_hold :
    (let c := { showIn .restoring .showMode [] with
        image := { clearedImage with jets := clearedImage.jets.set 7 ⟨300, none⟩ } };
      c.run.cue = .restoring ∧ 0 < (c.image.jets[7]).demand ∧ (c.jets[7]).state ≠ .opened) ∧
    (let c := pumpIn 3 .running (showIn .ending .showMode []);
      c.run.cue = .ending ∧ (c.pumps[3]).state.up = true) ∧
    { fresh with outputs := fresh.outputs.set 127 1 }.outputs[127] ≠ 0 := by decide +kernel

theorem witness_GustsHoldAndResumeEndsIt :
    (let c := { showIn .running .showMode [] with
        sense := { fresh.sense with pulses := 65535, previous := some 149 }
        limits := { fresh.limits with site := { fresh.limits.site with gust := 150 } } };
      c.limits.site.gust ≤ min 999 (c.sense.pulses * c.limits.site.windScale / 16) ∧
      (∀ u ∈ c.sense.previous, u < c.limits.site.gust) ∧ c.run.holdCursor = some 40 ∧
      0 < stepDelay (c.pages[0]).steps[40]) ∧
    (let c := showIn .holding .showMode [stepOf 11 0 []];
      stepKind (c.pages[0]).steps[0] = some .resume ∧ c.stepActs (c.pages[0]).steps[0] = true ∧
      { c.run with shadow := some #v[0, 0, 0, 0] }.shadow = some #v[0, 0, 0, 0] ∧ c.run.mainDue = some 5 ∧
      c.clock.value < 5) := by decide +kernel

theorem witness_CatchUpHandsOverOnce :
    (let c := showIn .running .showMode [stepOf 2 0 [1, 0, 0, 0, 0, 0, 3, 232, 0, 1]];
      stepKind (c.stepAt 0) = some .burst ∧ 2 + stepLength (c.stepAt 0) ≤ c.clock.value ∧
      c.fallFrom 0 2 = .arrive 1 2 ∧ (c.catchUpStep Written.nothing 0 2).1.run.cue ≠ .ending) := by decide +kernel

theorem witness_AudioBlocksArePlaced :
    fresh.hears 0 13 ∧ fresh.playback.state = .off ∧ (audioIn .filling [] fresh).playback.state ≠ .off ∧
    (257 > 256 ∧ 1 ≤ 1 ∧ 256 ≤ 256) ∧
    (let a := (audioIn .filling (List.replicate 32768 ⟨0, 0⟩) fresh).playback;
      a.tail < min (33768 + 1) a.streamEnd ∧ 33768 < min (33768 + 1) a.streamEnd ∧ 32768 < a.fill + 1) ∧
    (let a := (audioIn .filling [⟨1, 1⟩] fresh).playback;
      min (1000 + 1) a.streamEnd ≤ a.tail ∧ (1000 < a.tail ∧ a.tail < min (1000 + 2) a.streamEnd) ∧ 1001 = a.tail ∧
      (a.tail < 1002 ∧ 5801 ≤ a.tail + 4800) ∧ a.tail + 4800 < 5802) ∧
    (let a := { (audioIn .filling [⟨1, 1⟩] fresh).playback with endAt := some 1002 };
      1001 = a.tail ∧ min (1001 + 2) a.streamEnd < 1001 + 2) := by decide +kernel

theorem witness_ThePlaybackRunsToItsEnd :
    fresh.hears 0 14 ∧ (999 < (audioIn .playing [⟨1, 1⟩] fresh).playback.p) ∧
    (audioIn .playing [⟨1, 1⟩] fresh).playback.p = 1000 ∧ (audioIn .filling [] fresh).playback.state = .filling ∧
    (audioIn .playing [⟨1, 1⟩] fresh).playback.buffer.tail = [] ∧
    (audioIn .playing (List.replicate 4800 ⟨1, 1⟩) fresh).playback.buffer.length = 4800 ∧
    (audioIn .starved [] fresh).playback.state = .starved ∧
    (after .audioFramePeriod (audioIn .playing [⟨1, 1⟩] fresh)).clock.value = fresh.clock.value := by decide +kernel

theorem witness_GainsAndOutput :
    fresh.hears 0 15 ∧ fresh.hears 1 30 ∧ fresh.resetHeld = false ∧ 256 ≤ 256 ∧ 64 ≤ 64 ∧
    48 ≤ { fresh with gainPeriods := 48 }.gainPeriods ∧ fresh.gainPeriods < 48 := by decide +kernel

theorem witness_LocalClockTicks :
    fresh.clock.running = false ∧ (showIn .running .showMode []).clock.running = true ∧
    (showIn .running .showMode []).clock.source = .localTime ∧
    (showIn .running .showMode []).clock.value < 2147483647 ∧ (showIn .running .showMode []).run.mainDue = some 5 ∧
    (showIn .running .showMode []).clock.value + 1 < 5 ∧
    (∀ j : JetId, ((showIn .running .showMode []).image.jets[j]).burstEnd = none ∧
      ((showIn .running .showMode []).jets[j]).burstEnd = none) := by decide +kernel

theorem witness_TakeHandsTheFountainOver :
    fresh.hears 1 17 ∧ (inMode .tripped).mode.mode = .tripped ∧ (showIn .ending .showMode []).run.cue = .ending ∧
    (inMode .manual).mode.mode = .manual ∧
    (fresh.run.cue ≠ .ending ∧ fresh.mode.mode ≠ .tripped ∧ fresh.mode.mode ≠ .manual ∧ fresh.mode.mode ≠ .settling) ∧
    (showIn .running .showMode []).run.cue = .running ∧
    ({ recordIn .holding with shadow := some #v[1, 1, 1, 1] }.shadow = some #v[1, 1, 1, 1]) ∧
    (fresh.mode.mode = .dormant ∧ fresh.mode.power ≠ .on) := by decide +kernel

theorem witness_ReleaseGivesTheFountainBack :
    fresh.hears 1 18 ∧ fresh.mode.mode = .dormant ∧
    ((inMode .standby).mode.mode ≠ .dormant ∧ (inMode .standby).mode.mode ≠ .manual) ∧
    ((pausedBy .take .manual).mode.mode = .manual ∧ (pausedBy .take .manual).run.cue = .paused ∧
      (pausedBy .take .manual).run.pauseCause = some .take) ∧
    ((inMode .manual).run.cue = .idle ∧ (inMode .manual).circ.debt = 0 ∧ (inMode .manual).mode.flushRunning = false) ∧
    fresh.run.cue ≠ .restoring ∧
    ((showIn .restoring .showMode []).run.cue = .restoring ∧
      { (showIn .restoring .showMode []).mode with restore := some 50 }.restore = some 50) := by decide +kernel

theorem witness_TripsEnterTripped :
    fresh.hears 1 19 ∧ fresh.mode.mode ≠ .tripped ∧ (inMode .tripped).mode.mode = .tripped ∧ fresh.lines.eStop = false ∧
    (let c := { fresh with lines := { fresh.lines with lowTrip := true } };
      c.lines.lowTrip = true ∧ c.sense.lowTrip.state = false ∧ c.sense.level ≠ 2 ∧ c.mode.mode ≠ .tripped) ∧
    (let c := { inMode .tripped with lines := { fresh.lines with lowTrip := true } };
      c.lines.lowTrip = true ∧ c.sense.lowTrip.state = false ∧ c.sense.level ≠ 2 ∧ c.mode.mode = .tripped) := by
  decide +kernel

/-- A tripped fountain. -/
def trippedByPanel : Chip := after (.trip 1) fresh

theorem witness_ClearTripWakesTheFountain :
    trippedByPanel.hears 1 20 ∧ fresh.mode.mode ≠ .tripped ∧ trippedByPanel.mode.mode = .tripped ∧
    { trippedByPanel.sense with level := 2 }.level = 2 ∧ trippedByPanel.sense.eStop = false ∧
    trippedByPanel.sense.level ≠ 2 ∧ trippedByPanel.mode.power = .off ∧
    (∀ j : JetId, (trippedByPanel.jets[j]).state = .closed) := by decide +kernel

theorem witness_SleepAndWake :
    fresh.hears 1 34 ∧ fresh.mode.mode ≠ .standby ∧ (inMode .standby).mode.mode = .standby ∧
    (inMode .standby).run.cue = .idle ∧ (inMode .standby).circ.debt = 0 ∧ fresh.hears 2 35 ∧
    (inMode .tripped).mode.mode = .tripped ∧ (inMode .settling).mode.mode = .settling ∧ fresh.mode.mode = .dormant ∧
    fresh.mode.power ≠ .on ∧ (inMode .dormant).mode.power = .on := by decide +kernel

theorem witness_SettleAndDormancyTimers :
    fresh.mode.settle = none ∧ (after (.wake 1) fresh).mode.settle = some ⟨0, fresh.limits.site.settle⟩ ∧
    (after (.wake 1) fresh).mode.mode = .settling ∧ (after (.wake 1) fresh).mode.wake = some .standby ∧
    (let c := after (.flushAll 1) fresh;
      c.mode.settle = some ⟨0, 16⟩ ∧ c.mode.mode = .dormant ∧ c.mode.flushRunning = true ∧ c.circ.flush ≠ none ∧
      c.run.cue = .idle) ∧
    (let m := { (inMode .standby).mode with dormancy := some ⟨0, 240⟩ };
      m.dormancy = some ⟨0, 240⟩ ∧ m.mode = .standby ∧ m.flushRunning = false) := by decide +kernel

theorem witness_ResetValues :
    usualLines.eStop = false ∧ { usualLines with eStop := true }.eStop = true ∧ fresh.lines.eStop = false ∧
    { fresh with lines := { usualLines with eStop := true } }.lines.eStop = true ∧
    ((showIn .running .showMode []).pages[0]).state = .live ∧
    ((fresh.updPage 1 fun pg => { pg with state := .checking }).pages[1]).state = .checking := by decide +kernel

theorem witness_RestartValues :
    fresh.hears 1 21 ∧ fresh.lines.eStop = false ∧
    (after .eStopAssert fresh).hears 1 21 ∧ (after .eStopAssert fresh).lines.eStop = true := by decide +kernel

theorem witness_JetSetWritesItsJets :
    fresh.hears 1 22 ∧ fresh.mode.mode = .dormant ∧
    ((inMode .standby).mode.mode ≠ .dormant ∧ (inMode .standby).mode.mode ≠ .manual) ∧
    (inMode .manual).mode.mode = .manual ∧ (0x800000000001#48 : JetSet) ≠ 0 ∧ (inMode .manual).circ.flush = none ∧
    (0x800000000001#48).getLsbD 47 = true ∧ (0x800000000001#48).getLsbD 1 = false := by decide +kernel

theorem witness_ManualPumpRequests :
    fresh.hears 1 23 ∧ fresh.hears 1 24 ∧ fresh.hears 1 25 ∧ fresh.hears 1 26 ∧
    ((4096 : PumpSet).toNat = 4096 ∧ (4095 : PumpSet) ≠ 0 ∧ (4095 : PumpSet).toNat < 4096 ∧ 2 ≤ 2 ∧ 1 < 2 ∧ 12 ≤ 12) ∧
    ((pumpIn 11 .resting (inMode .manual)).pumps[11]).state = .resting ∧
    (((pumpIn 11 .running (inMode .manual)).pumps[11]).runMinEnd ≤ fresh.now ∧
      ∀ j : JetId, (fresh.jets[j]).demand = 0) ∧
    (((pumpIn 11 .faulted fresh).pumps[11]).state = .faulted ∧ (pumpIn 11 .faulted fresh).lines.drvOk[11] = true ∧
      { fresh.lines with drvOk := Vector.replicate 12 false }.drvOk[11] = false) := by decide +kernel

/-- A FAULTED FOLLOW pump, with intent STOP, that a flush wants, and one that nothing wants. -/
theorem witness_a_cleared_pump_with_and_without_run_demand :
    (let c := { pumpIn 11 .faulted fresh with jets := fresh.jets.set 47 ⟨.waiting, .flush, 300, none, some .pumpFault, 0⟩ };
      (c.pumps[11]).state = .faulted ∧ c.lines.drvOk[11] = true ∧ c.mode.mode ≠ .tripped ∧ (c.pumps[11]).policy = .follow ∧
      c.pumpOf 47 = 11 ∧ 0 < (c.jets[47]).demand ∧ (c.jets[47]).owner = .flush ∧
      ∀ e ∈ c.queue ++ c.joining, e.pump ≠ 11) ∧
    (((pumpIn 11 .faulted fresh).pumps[11]).intent = .stop ∧
      ¬∃ j : JetId, fresh.pumpOf j = 11 ∧ 0 < (fresh.jets[j]).demand ∧ (fresh.jets[j]).owner ≠ .none) := by decide +kernel

theorem witness_LightSetFadesThePanelLayer :
    fresh.hears 1 27 ∧ fresh.mode.mode = .dormant ∧ (inMode .standby).mode.mode ≠ .manual ∧
    (inMode .manual).mode.mode = .manual ∧ (0x80000000#32 : LumSet) ≠ 0 ∧ (8 : ChannelMask) ≠ 0 := by decide +kernel

theorem witness_ZoneMaskAndFlushAll :
    fresh.hears 1 28 ∧ fresh.hears 1 29 ∧
    ((inMode .standby).mode.mode = .standby ∧ (inMode .standby).run.cue = .idle ∧ (inMode .standby).circ.debt = 0) ∧
    (inMode .manual).mode.mode ≠ .standby ∧ (showIn .running .standby []).run.cue ≠ .idle ∧
    (flushing .all true).circ.flush ≠ none ∧
    (∀ z : ZoneId, { fresh with circ := { fresh.circ with mask := 255 } }.flushable z = false) ∧
    fresh.flushable 0 = true ∧ (∀ y : ZoneId, y < 0 → fresh.flushable y = false) := by decide +kernel

theorem witness_LimitWriteTests :
    fresh.hears 1 31 ∧ { fresh with protection := .locked }.protection = .locked ∧
    ({ inMode .manual with protection := .guarded }.protection = .guarded ∧ (inMode .manual).mode.mode = .manual) ∧
    fresh.protection = .opened ∧ sectionOfBytes 5 [] = none ∧ (sectionOfBytes 0 (List.replicate 240 0)).isSome = true ∧
    (sectionOfBytes 4 (List.replicate 64 0)).isSome = true ∧
    sectionOfBytes 3 (List.flatten (List.replicate 4 [0, 60, 0, 140, 1, 144])) =
      some (.wind (Vector.replicate 4 ⟨60, 140, 400⟩)) := by decide +kernel

theorem witness_ProtectionLevels :
    fresh.hears 1 32 ∧ fresh.hears 1 33 ∧ fresh.protection = .opened ∧ 65535 ≤ 65535 ∧
    (let c := { fresh with protection := .locked, siteCode := some 65535 };
      c.protection = .locked ∧ c.siteCode = some 65535 ∧ c.siteCode ≠ some 1) := by decide +kernel

theorem witness_StatusAndReads :
    fresh.hears 2 36 ∧ fresh.hears 2 37 ∧ fresh.hears 2 38 ∧ fresh.hears 2 39 ∧ fresh.hears 2 40 ∧ fresh.hears 2 41 ∧
    fresh.hears 2 42 ∧ fresh.hears 2 43 ∧ fresh.hears 2 44 ∧ (32 ≤ 32 ∧ 5 ≤ 5 ∧ 4 ≤ 4) ∧
    (1 ≤ 64 ∧ 64 ≤ 64 ∧ 960 + 64 ≤ 1024) ∧ 1024 < 961 + 64 := by decide +kernel

theorem witness_WindGateSamples :
    fresh.resetHeld = false ∧
    (let c := { fresh with sense := { fresh.sense with pulses := 65535 } };
      c.limits.site.gust ≤ min 999 (c.sense.pulses * c.limits.site.windScale / 16) ∧ c.sense.previous = none) ∧
    min 999 (fresh.sense.pulses * fresh.limits.site.windScale / 16) < fresh.limits.site.gust := by decide +kernel

theorem witness_WindFactors :
    (let w : WindLimit := ⟨60, 140, 400⟩;
      60 ≤ w.calm ∧ w.calm < 61 ∧ 61 < w.gale ∧ w.gale ≤ 140 ∧ w.wMin ≤ 1000) ∧
    (let w : WindLimit := ⟨100, 80, 250⟩;
      w.calm < 101 ∧ w.gale ≤ w.calm) ∧
    fresh.hears 1 31 ∧ fresh.protection = .opened ∧
    (after .windGateClose { fresh with sense := { fresh.sense with pulses := 160 }, limits := { fresh.limits with
      wind := Vector.replicate 4 ⟨0, 0, 400⟩ } }).sense.factors ≠ fresh.sense.factors := by decide +kernel

theorem witness_SwitchesAndDusk :
    fresh.lines.lowWarn = false ∧ fresh.lines.lowWarn ≠ true ∧ fresh.lines.lowWarn = fresh.sense.lowWarn.state ∧
    (let c := { fresh with lines := { fresh.lines with lowWarn := true, dusk := true } };
      c.lines.lowWarn ≠ c.sense.lowWarn.state ∧ c.sense.lowTrip.state = false ∧ c.lines.dusk ≠ c.sense.dusk.state) ∧
    ({ fresh.sense with lowTrip := ⟨true, 0⟩ }.lowTrip.state = true) ∧
    { fresh.lines with eStop := true }.eStop = true := by decide +kernel

theorem witness_LimitSectionsDecode :
    (∀ j : JetId, (fresh.limits.jets[j]).height ≤ 1000) ∧ (∀ p : PumpId, (fresh.limits.pumps[p]).inRange) ∧
    fresh.limits.site.inRange ∧ (∀ w : Fin 4, (fresh.limits.wind[w]).inRange) := by decide +kernel

/-- A fountain at power ON whose start queue holds P3, STOPPED and never granted. -/
def queued3 : Chip := { pumpIn 3 .stopped (inMode .standby) with queue := [⟨3, .panel, 0⟩] }

theorem witness_StartsAndGrants :
    (inMode .tripped).mode.mode = .tripped ∧ ((pumpIn 3 .running fresh).pumps[3]).state.up = true ∧
    (fresh.mode.mode ≠ .tripped ∧ ((pumpIn 3 .resting fresh).pumps[3]).state = .resting ∧
      (∀ e ∈ fresh.queue ++ fresh.joining, e.pump ≠ 3)) ∧
    (∃ e ∈ queued3.queue ++ queued3.joining, e.pump = 3) ∧
    ((pumpIn 3 .running fresh).pumps[3]).runMinEnd ≤ fresh.now ∧
    (let c := { pumpIn 2 .resting queued3 with
        queue := ([⟨2, .panel, 0⟩] : List StartEntry) ++ (⟨3, .panel, 0⟩ : StartEntry) :: [⟨5, .panel, 0⟩], history := [0], now := 2000 };
      c.mode.power = .on ∧ (∀ g ∈ c.history.getLast?, c.limits.site.space ≤ c.now - g) ∧
      c.history.countP (fun g => decide (c.now < g + c.limits.site.window * 1000)) < c.limits.site.windowGrants ∧
      (c.pumps[3]).state = .stopped ∧ (c.pumps[3]).lastGrant = none ∧ (c.pumps[2]).state ≠ .stopped) ∧
    queued3.grantable = some ⟨3, .panel, 0⟩ ∧ queued3.windowCount ≤ queued3.limits.site.windowGrants := by decide +kernel

theorem witness_PumpsStartAndStop :
    fresh.resetHeld = false ∧ (fresh.pumps[0]).state ≠ .priming ∧ fresh.circ.debt = 0 ∧
    { (pumpIn 0 .priming fresh).lines with pressOk := Vector.replicate 12 true }.pressOk[0] = true ∧
    (((pumpIn 0 .priming fresh).pumps[0]).state = .priming ∧ ((pumpIn 0 .priming fresh).pumps[0]).primeMinEnd ≤ fresh.now ∧
      ((pumpIn 0 .priming fresh).pumps[0]).stopPending = false) ∧
    (let r := { (pumpIn 0 .priming fresh).pumps[0] with stopPending := true };
      r.state = .priming ∧ r.stopPending = true ∧ r.primeMinEnd ≤ fresh.now ∧ r.runMinEnd ≤ max fresh.now r.primeMinEnd ∧
      max fresh.now { r with primeMinEnd := 5, runMinEnd := 6 }.primeMinEnd < { r with runMinEnd := 6 }.runMinEnd) ∧
    (let r := { (pumpIn 0 .running fresh).pumps[0] with stopPending := true, idleExpiry := some 7 };
      r.state = .running ∧ r.stopPending = true ∧ r.idleExpiry = some 7 ∧ r.runMinEnd ≤ max fresh.now 7) ∧
    ((pumpIn 0 .resting fresh).pumps[0]).state = .resting ∧
    (((pumpIn 0 .stopped fresh).pumps[0]).state ≠ .faulted ∧ ((pumpIn 0 .stopped fresh).pumps[0]).state ≠ .outOfService) := by
  decide +kernel

/-- A PRIMING pump under a limit table in range, as `PumpsStartAndStop` asks. -/
theorem witness_a_priming_pump_keeps_the_table : (pumpIn 0 .priming fresh).tableKept := by decide +kernel

theorem witness_HydraulicUpdateComputes :
    (let c := jetOpen 5 .showRun 1000 (pumpIn 1 .running fresh);
      c.resetHeld = false ∧ (c.limits.pumps[1]).sMin ≤ (c.limits.pumps[1]).sMax ∧ c.pumpOf 5 = 1 ∧
      (c.jets[5]).state ≠ .closed ∧ 0 < (c.jets[5]).demand ∧ (c.pumps[1]).state = .running ∧
      (∀ w : Fin 4, c.sense.factors[w] ≤ 1000) ∧ c.limits.site.levelFactor ≤ 1000) := by decide +kernel

theorem witness_FlushesAndCirculation :
    (∀ y : ZoneId, { fresh with circ := { fresh.circ with mask := 255 } }.flushable y = false) ∧
    (fresh.flushable (7 + 1 + 0) = true ∧ ∀ m : Fin 8, m < 0 → fresh.flushable (7 + 1 + m) = false) ∧
    (let c := { inMode .standby with circ := { fresh.circ with debt := 1 } };
      c.circ.flush = none ∧ c.testFlush.circ.flush.isSome = true) ∧
    (let c := { inMode .standby with circ := { fresh.circ with debt := 1, pointer := 7, mask := 128 } };
      c.circ.flush = none ∧ 0 < c.circ.debt ∧ c.mayFlush ∧ c.firstFlushable c.circ.pointer 0) ∧
    (fresh.mayFlush ∧ fresh.mode.mode = .dormant ∧ fresh.mode.power = .off) ∧
    ((flushing .single true).mayFlush ∧ (flushing .single true).firstFlushable (0 + 1) 1 ∧
      2 ≤ { (flushing .single true).circ with debt := 2 }.debt) ∧
    (0 < (flushing .all false).circ.debt ∧ (flushing .all false).firstFlushable (flushing .all false).circ.pointer 0) ∧
    7 ≤ 7 ∧ (flushing .single true).flushOpen = true ∧ (flushing .single true).circ.debt ≤ 1 ∧
    (flushing .single false).flushOpen = false ∧ (flushing .all true).flushOpen = true ∧
    (flushing .all true).nextZone 7 = none ∧ ((flushing .all true).nextZone 0).isSome = true := by decide +kernel

theorem witness_TheLampFrameHoldsThePowerCap :
    fresh.resetHeld = false ∧ fresh.gatedSum ≤ fresh.limits.site.cap ∧
    (let c := { fresh with lums := fresh.lums.set 0 ⟨256, .panelLayer, none⟩
                           panelLayer := fresh.panelLayer.set 0 ⟨0, 4095, 0, 0, .localTime⟩ };
      c.limits.site.cap < c.gatedSum) := by decide +kernel

theorem witness_FadeLevels : (0 = 0 ∨ 0 ≤ 0) ∧ 1999 < 2000 := by decide

theorem witness_the_invariants_hold_at_reset :
    fresh.jetsFollow ∧ fresh.darkWhileTripped ∧ fresh.showKept ∧ fresh.queueKept ∧ fresh.linksKept ∧ fresh.audioKept :=
  ⟨by decide +kernel, by decide +kernel, by decide +kernel, by decide +kernel, by decide +kernel, by decide +kernel⟩

theorem witness_the_records_are_kept_at_reset :
    fresh.clockKept ∧ fresh.pumpsKept ∧ fresh.circKept ∧ fresh.sensingKept ∧ fresh.tableKept :=
  ⟨by decide +kernel, by decide +kernel, by decide +kernel, by decide +kernel, by decide +kernel⟩

theorem witness_TrippedIsDark :
    trippedByPanel.darkWhileTripped ∧ trippedByPanel.mode.mode = .tripped ∧
    (after (.clearTrip 1) trippedByPanel).mode.mode ≠ .tripped := by decide +kernel

theorem witness_TheClockFollowsTheMusic :
    (showIn .running .showMode []).audioKept ∧ (showIn .running .showMode []).clockKept ∧
    (after .showClockTick (showIn .running .showMode [])).run.cue ≠ .idle :=
  ⟨by decide +kernel, by decide +kernel, by decide +kernel⟩

theorem witness_TableAndLivePageStand :
    { fresh with protection := .locked }.protection = .locked ∧
    (after (.powerOnReset usualLines) { fresh with limits := { fresh.limits with
      site := { fresh.limits.site with gust := 1 } } }).limits.site.gust ≠ 1 ∧
    ((showIn .running .showMode []).pages[0]).state = .live ∧
    (after (.powerOnReset usualLines) (showIn .running .showMode [])).pages[0].scenes ≠
      ((showIn .running .showMode []).pages[0]).scenes := by decide +kernel

/-! ## One step each, with the manual's own numbers -/

/-- The site of the example of a rising wind (section 9.7): K 20, gust 150, W2 and W3 loaded; a ring, the last sample, and the
pulses of the gate that closes. -/
def windyGate (ring : List Nat) (previous : Option Nat) (pulses : Nat) (c : Chip) : Chip :=
  { c with
    sense := { c.sense with ring := ring, previous := previous, pulses := pulses }
    limits := { c.limits with
      site := { c.limits.site with windScale := 20, gust := 150 }
      wind := (c.limits.wind.set 2 ⟨60, 140, 400⟩).set 3 ⟨100, 80, 250⟩ } }

/-- Gate 1 of section 9.7: the first sample fills the ring. -/
theorem test_first_gate_fills_the_ring :
    (let n := (after .windGateClose (windyGate [] none 72 fresh)).sense;
      (n.ring, n.vAvg, n.vPeak, n.factors[2], n.factors[3]) = (List.replicate 8 90, 90, 90, 775, 1000)) := by decide +kernel

/-- Gate 4 of section 9.7: the squall. -/
theorem test_fourth_gate_raises_gust :
    (let d := after .windGateClose (windyGate [90, 90, 90, 90, 90, 90, 100, 120] (some 120) 128 fresh);
      (d.sense.vAvg, d.sense.vPeak, d.sense.factors[2], d.sense.factors[3]) = (103, 160, 678, 250) ∧
      .gust ∈ (d.links[0]).notices) := by decide +kernel

/-- The fountain of section 6.7: P1 RUNNING, J5 and J6 OPEN. -/
def twoJets (level setpoint : Nat) : Chip :=
  let c := jetOpen 6 .showRun 400 (jetOpen 5 .showRun 1000 (pumpIn 1 .running fresh))
  { c with
    pumps := c.pumps.set 1 { c.pumps[1] with setpoint := setpoint }
    sense := { c.sense with level := level, factors := c.sense.factors.set 1 (windFactor ⟨40, 120, 300⟩ 80) }
    limits := { c.limits with
      jets := (c.limits.jets.set 5 ⟨900, 1, 0, 1⟩).set 6 ⟨1000, 1, 1, 1⟩
      pumps := c.limits.pumps.set 1 ⟨true, 350, 950, 500, 500, 1, 1, 1, 0, 40, 100⟩
      site := { c.limits.site with levelFactor := 500 } } }

/-- Heights 650 and 260, target 807, and the slew from 700 (section 6.7). -/
theorem test_hydraulic_update_in_the_wind :
    (let d := after .hydraulicUpdate (twoJets 0 700);
      ((d.jets[5]).height, (d.jets[6]).height, (d.pumps[1]).target, (d.pumps[1]).setpoint) = (650, 260, 807, 740)) := by
  decide +kernel

/-- The basin low: heights 325 and 130, target 571, and the slew from 807 (section 6.7). -/
theorem test_hydraulic_update_with_the_basin_low :
    (let d := after .hydraulicUpdate (twoJets 1 807);
      ((d.jets[5]).height, (d.jets[6]).height, (d.pumps[1]).target, (d.pumps[1]).setpoint) = (325, 130, 571, 707)) := by
  decide +kernel

/-- The samples of section 4.7. -/
theorem test_output_samples :
    (outputSample 100 64 12345).toInt = 4822 ∧ (outputSample 100 64 (-12345)).toInt = -4823 ∧
    (outputSample 100 40 12345).toInt = 3013 ∧ (outputSample 100 40 (-12345)).toInt = -3015 ∧
    (outputSample 100 0 (-12345)).toInt = 0 := by decide +kernel

/-- One gain step from 256 toward floor(200 × 128 / 256) = 100 (section 4.7), at the 48th period and not before (R75). -/
theorem test_gain_step :
    (after .gainStep { fresh with gain := ⟨200, 128, 256⟩, gainPeriods := 48 }).gain.applied = 255 ∧
    (after .gainStep { fresh with gain := ⟨200, 128, 100⟩, gainPeriods := 48 }).gain.applied = 100 ∧
    (after .gainStep (after .audioFramePeriod { fresh with gain := ⟨200, 128, 256⟩, gainPeriods := 46 })).gain.applied = 256 ∧
    (after .gainStep (after .audioFramePeriod { fresh with gain := ⟨200, 128, 256⟩, gainPeriods := 47 })).gain.applied = 255 := by
  decide +kernel

/-- With nothing due an idle step passes one millisecond. -/
theorem test_idle_passes_a_millisecond : (State.reset.idle.chip.now, State.reset.idle.pending) = (1, []) := by decide +kernel

/-- A pump granted between a LIMIT_WRITE and the next hydraulic update primes at the old S_min, and the update brings the new one
(R80, R88, R101). -/
theorem test_grant_takes_the_speed_in_force :
    (let c := { pumpIn 3 .stopped (inMode .standby) with
        queue := [⟨3, .panel, 0⟩]
        limits := { fresh.limits with pumps := Vector.replicate 12 ⟨true, 400, 1000, 2000, 10000, 30, 20, 120, 10, 20, 20⟩ } };
      let d := after .queueTimingExpiry c;
      ((d.pumps[3]).state, (d.pumps[3]).setpoint, ((after .hydraulicUpdate d).pumps[3]).setpoint) = (.priming, 300, 400)) := by
  decide +kernel

/-- The fades of R133: 1000 to 3000 over 2000 at 500, and a fall truncated toward its start. -/
theorem test_fade_levels :
    fadeLevel 1000 3000 2000 500 = 1500 ∧ fadeLevel 0 3 2000 666 = 0 ∧ fadeLevel 0 3 2000 667 = 1 ∧
    fadeLevel 3 0 2000 666 = 3 ∧ fadeLevel 3 0 0 0 = 0 := by decide

/-- The levels of section 8.6: L0 R 4095 and G 2000, L1 B 3000 and W 1000, L1 gated by J5 which is OPEN, cap 6,000. -/
def gatedLamps (gate : Nat) : Chip :=
  let c := jetOpen 5 .showRun 1000 (pumpIn 1 .running (inMode .showMode))
  let lit (v : Nat) : Fade := ⟨v, v, 0, 0, .showTime⟩
  { c with
    showLayer := (((c.showLayer.set 0 (lit 4095)).set 1 (lit 2000)).set 6 (lit 3000)).set 7 (lit 1000)
    lums := (c.lums.set 0 ⟨256, .showLayer, none⟩).set 1 ⟨gate, .showLayer, none⟩
    limits := { c.limits with
      lums := c.limits.lums.set 1 ⟨some 5, .gate⟩
      site := { c.limits.site with cap := 6000 } } }

/-- The second and the third frame of section 8.6. -/
theorem test_gate_and_cap :
    (let d := after .lampFrame (gatedLamps 128);
      ((d.lums[1]).gate, d.outputs[0], d.outputs[1], d.outputs[6], d.outputs[7]) = (192, 2701, 1319, 1484, 494)) ∧
    (let d := after .lampFrame (gatedLamps 192);
      ((d.lums[1]).gate, d.outputs[0], d.outputs[1], d.outputs[6], d.outputs[7]) = (256, 2433, 1188, 1783, 594)) := by
  decide +kernel

/-- The steps of the main scene of section 1.10, their bytes laid out by R178: LIGHT, LOOP_SET, JET, BURST on "Q0 fails", JET,
LOOP with a counter of the caller's, END. -/
def mainScene (counter : Nat) : List RawStep :=
  [stepOf 5 0 [0xFF, 0, 0, 0, 0x00, 0x00, 0x00, 0xBB, 0x80, 0x00, 0x07, 0xD0] 4,
   stepOf 7 0 [1, 0, 3],
   stepOf 1 500 [0xFF, 0x0F, 0, 0, 0, 0, 0x02, 0x58],
   stepOfBytes ([2, 32, 0, 250, 0, 0, 0xF0, 0, 0, 0, 0x03, 0xE8, 0x01, 0x90, 0, 0].map (BitVec.ofNat 8)),
   stepOf 1 750 [0xFF, 0x0F, 0, 0, 0, 0, 0, 0],
   stepOf 8 0 [counter, 1],
   stepOf 10 1000 [0x0B, 0xB8]]

/-- The fields of the LIGHT step of section 1.10 (R178). -/
theorem test_light_step_fields :
    (let raw := (mainScene 1).getD 0 0;
      stepKind raw = some .light ∧ stepMask raw = 4 ∧ stepLums raw = 0xFF ∧ stepLevel raw 2 = 3000 ∧
      stepLevel raw 0 = 0 ∧ stepFade raw = 2000 ∧ stepDelay raw = 0) := by decide +kernel

/-- The fields of the BURST step of section 1.10 (R178). -/
theorem test_burst_step_fields :
    (let raw := (mainScene 1).getD 3 0;
      stepKind raw = some .burst ∧ jetsIn (stepJets raw) = [20, 21, 22, 23] ∧ stepDemand raw = 1000 ∧
      stepLength raw = 400 ∧ stepDelay raw = 250) := by decide +kernel

/-- Page 2 of section 1.10, with the counter of its LOOP and the entry of S3. -/
def pageTwo (st : PageState) (counter : Nat) (s3 : Option Nat) : Page :=
  { clearedPage with
    state := st
    scenes := (((clearedPage.scenes.set 0 (some 0)).set 1 (some 2)).set 3 s3).set 15 (some 40)
    slots := clearedPage.slots.set 0 ⟨2, 0, 120⟩
    steps := Vector.ofFn fun i =>
      if i.val < 7 then (mainScene counter).getD i.val 0
      else if i.val = 40 then stepOf 1 0 [255, 255, 255, 255, 255, 255, 0, 200]
      else if i.val = 41 then stepOf 11 4000 []
      else if i.val = 42 then stepOf 6 0 [15]
      else 0 }

/-- The first round of section 1.10: the LOOP names K4. -/
theorem test_first_fault_is_the_counter : (pageTwo .checking 4 (some 1500)).firstFault = some ⟨some .step, some 5, .badCounter⟩ := by
  decide +kernel

/-- The second round finds S3 holding 1500; the third finds S3 EMPTY and Q0 as it should be. -/
theorem test_scene_and_slot_checks :
    checkScene (some 1500) = some .range ∧ checkScene (some 1023) = none ∧ checkScene none = none ∧
    checkSlot ⟨2, 0, 120⟩ = none ∧ checkSlot ⟨0, 0, 0⟩ = none := by decide +kernel

/-- The show of sections 2.9 and 3.8, on the LOCAL clock. -/
def showTwo (cue : CueState) (clock : Nat) (main : StepIndex × Nat) (k1 : Nat) : Chip :=
  { inMode .showMode with
    pages := fresh.pages.set 2 (pageTwo .live 1 none)
    run := { idleShow with
      cue := cue, livePage := some 2, mainCursor := some main.1, mainDue := some main.2, holdCursor := some 40
      counters := #v[0, k1, 0, 0] }
    clock := ⟨clock, .localTime, true, 0⟩ }

/-- At 1500 the JET and the LOOP execute: K1 counts down to 2, and the cursor stands on 2, due 2000 (section 2.9). -/
theorem test_loop_counts_down_and_jumps :
    (let d := after .showClockTick (showTwo .running 1499 (4, 1500) 3);
      (d.run.mainCursor, d.run.mainDue, d.run.counters[1]) = (some 2, some 2000, 2)) := by decide +kernel

/-- At 4500 K1 was 1: the LOOP falls through to END, due 5500 (section 2.9). -/
theorem test_loop_falls_through :
    (let d := after .showClockTick (showTwo .running 4499 (4, 4500) 1);
      (d.run.mainCursor, d.run.mainDue, d.run.counters[1]) = (some 6, some 5500, 0)) := by decide +kernel

/-- At 2250 the wind peak of 130 makes Q0 hold, and the BURST is passed over (section 2.9). -/
theorem test_burst_is_passed_over :
    (let c := showTwo .running 2249 (3, 2250) 2;
      let d := after .showClockTick { c with sense := { c.sense with vPeak := 130 } };
      (d.run.mainCursor, d.run.mainDue, d.image.jets[20]) = (some 4, some 3000, ⟨0, none⟩)) := by decide +kernel

/-- The gust of section 3.8: the swap at 1,200, and step 40 at once. -/
theorem test_gust_swaps_to_the_hold :
    (let d := after .windGateClose (windyGate (List.replicate 8 60) (some 60) 136 (showTwo .running 1200 (4, 1500) 3));
      (d.run.cue, d.run.holdCursor, d.run.holdDue, d.run.holdEntry) = (.holding, some 41, some 5200, some 1200) ∧
      d.image.jets[47] = ⟨200, none⟩ ∧ d.run.shadow = some #v[0, 3, 0, 0]) := by decide +kernel

/-- The return of section 3.8: at 5,200 the catch-up leaves the main cursor on 6, due 5,500, with K1 at 0. -/
theorem test_resume_catches_up :
    (let c := showTwo .holding 5199 (4, 1500) 3;
      let c := { c with
        run := { c.run with holdCursor := some 41, holdDue := some 5200, holdEntry := some 1200, shadow := some #v[0, 3, 0, 0] }
        sense := { c.sense with vPeak := 190 } };
      let d := after .showClockTick c;
      (d.run.cue, d.run.mainCursor, d.run.mainDue, d.run.holdCursor) = (.running, some 6, some 5500, some 42) ∧
      d.run.counters[1] = 0 ∧ d.image.jets[0] = ⟨0, none⟩) := by decide +kernel

/-- STARVED at p 1,013,000 (section 4.11). -/
def starvedStream : Chip :=
  { fresh with playback := { fresh.playback with state := .starved, music := true, p := 1013000, p0 := 1000000 } }

/-- The LATE and the TRIMMED block of section 4.11. -/
theorem test_blocks_after_the_stall :
    answer (.audio 0 1012256 256 (List.replicate 256 ⟨1, 1⟩)) 0 starvedStream = some .late ∧
    answer (.audio 0 1012800 256 (List.replicate 256 ⟨1, 1⟩)) 0 starvedStream = some .trimmed ∧
    (let a := (after (.audio 0 1012800 256 (List.replicate 256 ⟨1, 1⟩)) starvedStream).playback;
      (a.state, a.p, a.tail) = (.playing, 1013000, 1013056)) := by decide +kernel

/-- The first block of section 4.11: its first 100 frames lie before p0. -/
theorem test_block_before_the_origin_is_trimmed :
    (let a := (after (.audio 0 900 256 (List.replicate 256 ⟨1, 1⟩)) (audioIn .filling [] fresh)).playback;
      (a.state, a.tail) = (.filling, 1156)) := by decide +kernel

/-- The queue of section 5.11 at the reference moment: P0 to P5 wait, and P2 was granted 100 s ago. -/
def sixStarts (now : Nat) (history : List Nat) (waiting : List PumpId) : Chip :=
  let c := inMode .showMode
  { c with
    now := now
    queue := waiting.map fun p => ⟨p, .showRun, 200000⟩
    history := history
    pumps := Vector.ofFn fun p => { c.pumps[p] with
      state := .stopped, policy := .explicit, intent := .run, lastGrant := if p = 2 then some 100000 else none }
    limits := { c.limits with
      site := { c.limits.site with windowGrants := 3, window := 60, space := 2000 }
      pumps := Vector.replicate 12 ⟨true, 300, 1000, 2000, 10000, 30, 20, 120, 10, 20, 20⟩ } }

/-- At 0 s P0 is granted and t_space closes the queue; at 4 s P2 is within its cycle and P3 is granted (section 5.11). -/
theorem test_grants_under_a_full_window :
    (let d := after .queueTimingExpiry (sixStarts 200000 [100000] [0, 1, 2, 3, 4, 5]);
      d.queue.map StartEntry.pump = [1, 2, 3, 4, 5] ∧ d.history = [100000, 200000]) ∧
    (let d := after .queueTimingExpiry (sixStarts 204000 [100000, 200000, 202000] [2, 3, 4, 5]);
      d.queue.map StartEntry.pump = [2, 4, 5] ∧ (d.pumps[3]).lastGrant = some 204000) := by decide +kernel

/-- A flush of 60 s cut at 28 s does not count, and at 32 s it does (section 7.10). -/
theorem test_a_flush_counts_from_half_its_time :
    (let f (ms : Nat) : Flush := ⟨.single, 5, 0, 300, 60, ms, 0, Vector.replicate 12 false⟩;
      (f 28000).counts = false ∧ (f 32000).counts = true) := by decide +kernel

/-- Z3 is masked, so the period expiry moves the pointer to Z4 (section 7.10). -/
theorem test_flush_begins_on_the_next_flushable_zone :
    (let d := after .flushPeriodExpiry { inMode .standby with circ := { fresh.circ with pointer := 3, mask := 8 } };
      (d.circ.debt, d.circ.pointer, d.circ.flush.map Flush.zone) = (1, 4, some 4) ∧
      (d.jets[24]).owner = .flush ∧ (d.jets[30]).owner = .none) := by decide +kernel

/-- LOW_WARN asserted at 1.5 s is accepted at 3.5 s, and LEVEL becomes 1 (section 9.8). -/
theorem test_low_warn_is_accepted :
    (let d := after (.levelDebounceExpiry .lowWarn) { fresh with
        now := 3500, lines := { fresh.lines with lowWarn := true }, sense := { fresh.sense with lowWarn := ⟨false, 1500⟩ } };
      (d.sense.lowWarn.state, d.sense.level, d.now) = (true, 1, 3500)) := by decide +kernel

/-- A STEP_WRITE on a READY page whose start index is 2,000 is refused with STATE (R2). -/
theorem test_the_earlier_stage_gives_the_code :
    answer (.stepWrite 0 0 2000 1 [0]) 0 { fresh with pages := fresh.pages.set 0 (pageIn .ready [] 0) } = some .state := by
  decide +kernel

/-- A request of the panel on the PROGRAM link is refused with ROLE, and START on a fountain without a show with STATE. -/
theorem test_role_and_state :
    answer (.take 0) 0 fresh = some .role ∧ answer (.start 0) 0 fresh = some .state := by decide +kernel

/-- The emergency stop trips at once, and CLEAR_TRIP is refused while it stands (R166, R168). -/
theorem test_emergency_stop :
    (after .eStopAssert fresh).mode.mode = .tripped ∧ answer (.clearTrip 1) 1 (after .eStopAssert fresh) = some .state := by
  decide +kernel

/-- WAKE and CUE in DORMANT raise the power (R157). -/
theorem test_wake_raises_the_power :
    (let m := (after (.wake 2) fresh).mode;
      (m.mode, m.power, m.wake) = (.settling, .settling, some .standby)) := by decide +kernel

/-- The links that the usual straps give. -/
theorem test_straps_give_the_roles : strapLinks usualLines.straps = usualLinks := by decide +kernel

/-- A frame received whole is the request it carries. -/
theorem test_a_frame_is_its_request :
    (after (.frameReceived 2 36 [] (frameCrc 36 [])) (link 2 fun k => { k with receive := .receiving })).links =
      (after (.status 2) fresh).links := by decide +kernel

end Sys2Proof.Tests
end

/-! PROOF. AUDIO (R62 to R65): where a block is placed by the cases of R64, what the rule answers once the placing is
known, and from these the statement about the command. -/

namespace Sys2Proof.Proofs.AudioBlocks

open Sys2Proof Sys2Proof.Machine

/-! ## Placing a block (R63, R64) -/

section Placing

variable {a : Playback} {q u : Nat} {frames : List AudioFrame}

/-- Case 1. How far `q` lies beyond the tail plays no part, so FULL also comes before GAP_FILLED and AHEAD. -/
theorem place_full (hu : u = min (q + frames.length) a.streamEnd) (he : a.tail < u) (hq : q < u)
    (exceeds : bufferSize < a.fill + (u - a.tail)) : a.place q frames = (.full, []) := by
  have some_appended : 0 < u - a.tail := by omega
  simp [Playback.place, ← hu, he, hq, some_appended, exceeds]

/-- Case 2. Such a block would append none, so case 1 does not apply to it. -/
theorem place_late (hu : u = min (q + frames.length) a.streamEnd) (outside : u ≤ a.tail ∨ u ≤ q) :
    a.place q frames = (.late, []) := by
  have none_appended : ¬ (a.tail < u ∧ q < u) := by omega
  simp [Playback.place, ← hu, none_appended, outside]

/-- Past the first two cases the position `q` alone decides, against the tail (cases 3 to 7). -/
theorem place_of_fits (hu : u = min (q + frames.length) a.streamEnd) (he : a.tail < u) (hq : q < u)
    (fits : a.fill + (u - a.tail) ≤ bufferSize) :
    a.place q frames =
      if q < a.tail then (.trimmed, (frames.drop (a.tail - q)).take (u - a.tail))
      else if q = a.tail then (if u = q + frames.length then .ok else .trimmed, frames.take (u - q))
      else if q ≤ a.tail + largestGap then
        (.gapFilled, List.replicate (q - a.tail) AudioFrame.silence ++ frames.take (u - q))
      else (.ahead, []) := by
  have not_full : ¬ bufferSize < a.fill + (u - a.tail) := by omega
  have not_late : ¬ (u ≤ a.tail ∨ u ≤ q) := by omega
  simp only [Playback.place, ← hu, he, hq, and_self, if_true, not_full, and_false, if_false, not_late]

/-- Case 4 appends the block unchanged: up to its kept end it is whole. -/
theorem place_whole (hu : u = min (q + frames.length) a.streamEnd) (he : a.tail < u) (hq : q < u)
    (fits : a.fill + (u - a.tail) ≤ bufferSize) (at_tail : q = a.tail) (whole : u = q + frames.length) :
    a.place q frames = (.ok, frames) := by
  have all_taken : frames.take (u - q) = frames := List.take_of_length_le (by omega)
  rw [place_of_fits hu he hq fits, if_neg (by omega), if_pos at_tail, if_pos whole, all_taken]

end Placing

/-! ## The rule of AUDIO (R62, R65) -/

section Rule

variable {c : Chip} {q n : Nat} {frames added : List AudioFrame} {code : ReplyCode}

/-- The part once `added` has joined the buffer: a starvation ends (R65), and nothing else changes. -/
def appendFrames (c : Chip) (added : List AudioFrame) : Chip :=
  { c with playback := { c.playback with
      buffer := c.playback.buffer ++ added
      state := if c.playback.state = .starved then .playing else c.playback.state } }

/-- The tests of R62 pass: the music is neither OFF nor FINISHED, and the block holds as many frames as it counts, 1 to 256. -/
structure Admits (c : Chip) (n : Nat) (frames : List AudioFrame) : Prop where
  not_off : c.playback.state ≠ .off
  not_finished : c.playback.state ≠ .finished
  pos : 1 ≤ n
  le : n ≤ 256
  length : frames.length = n

theorem ruleAudio_of_closed (closed : c.playback.state = .off ∨ c.playback.state = .finished) :
    ruleAudio q n frames true c = c.refuse .state := if_pos closed

theorem ruleAudio_of_badCount (not_off : c.playback.state ≠ .off) (not_finished : c.playback.state ≠ .finished)
    (bad : n = 0 ∨ 256 < n ∨ frames.length ≠ n) : ruleAudio q n frames true c = c.refuse .badArg := by
  simp [ruleAudio, not_off, not_finished, bad]

/-- An admitted block is answered with the code its placing gives: its frames are appended under a code of success, and a
refusal changes nothing. -/
theorem ruleAudio_of_admits (h : Admits c n frames) (placed : c.playback.place q frames = (code, added)) :
    ruleAudio q n frames true c =
      if code.taken then (appendFrames c added, .answer code .none) else c.refuse code := by
  have not_closed : ¬ (c.playback.state = .off ∨ c.playback.state = .finished) := not_or.mpr ⟨h.not_off, h.not_finished⟩
  have good : ¬ (n = 0 ∨ 256 < n ∨ frames.length ≠ n ∨ (!true) = true) := by
    have ⟨_, _, pos, le, length⟩ := h
    simp [Nat.ne_of_gt pos, Nat.not_lt.mpr le, length]
  simp only [ruleAudio, if_neg not_closed, if_neg good, placed]
  rfl

end Rule

/-! ## The command -/

section Command

variable {s : State} {l : LinkId} {q n : Nat} {frames added : List AudioFrame} {code : ReplyCode}

/-- A block that its link lets through is left to the rule of AUDIO. -/
theorem exec_audio_heard (heard : s.chip.hears l 13) :
    exec (.audio l q n frames) s = .next { s with chip := Chip.react l 13 (ruleAudio q n frames true s.chip) } := by
  have run : exec (.audio l q n frames) s = s.act (Chip.request l 13 (ruleAudio q n frames true)) := rfl
  rw [run, State.act_eq, Chip.request_heard rfl heard]

/-- A refusal of the rule is a refusal of the command. -/
theorem refuses_of_rule (heard : s.chip.hears l 13) (rule : ruleAudio q n frames true s.chip = s.chip.refuse code) :
    Refuses (.audio l q n frames) s l 13 code := by
  rw [Refuses, Answers, exec_audio_heard heard, rule, Chip.react_refuse]

/-- A block placed under a code of success is appended and answered with it. -/
theorem answers_of_placed (heard : s.chip.hears l 13) (admitted : Admits s.chip n frames)
    (placed : s.chip.playback.place q frames = (code, added)) (success : code.taken = true) :
    Answers (.audio l q n frames) s l 13 (appendFrames s.chip added) code .none := by
  rw [Answers, exec_audio_heard heard, ruleAudio_of_admits admitted placed, if_pos success, Chip.react_answer]

/-- A block placed under a refusal is answered with it and changes nothing else. -/
theorem refuses_of_placed (heard : s.chip.hears l 13) (admitted : Admits s.chip n frames)
    (placed : s.chip.playback.place q frames = (code, added)) (refusal : ¬ code.taken = true) :
    Refuses (.audio l q n frames) s l 13 code :=
  refuses_of_rule heard (by rw [ruleAudio_of_admits admitted placed, if_neg refusal])

end Command

/-- Settles O20: the tests of R62 by the rule's first branches, and each case of R64 by the placing that it gives. -/
theorem audioBlocksArePlaced : Obligations.AudioBlocksArePlaced := by
  intro s l q n frames heard
  refine ⟨fun closed => refuses_of_rule heard (ruleAudio_of_closed closed), fun not_off not_finished =>
    ⟨fun bad => refuses_of_rule heard (ruleAudio_of_badCount not_off not_finished bad), ?_⟩⟩
  rintro pos le rfl fill rfl e rfl u hu put rfl
  have admitted : Admits s.chip frames.length frames := ⟨not_off, not_finished, pos, le, rfl⟩
  refine ⟨fun he hq exceeds => ?full, fun outside => ?late, fun he hq fits => ?fits⟩
  case full => exact refuses_of_placed heard admitted (place_full hu he hq exceeds) (by decide)
  case late => exact refuses_of_placed heard admitted (place_late hu outside) (by decide)
  case fits =>
    have placed := place_of_fits hu he hq fits
    have tail_eq : s.chip.playback.tail = s.chip.playback.p + s.chip.playback.buffer.length := rfl
    have gap_eq : largestGap = 4800 := rfl
    refine ⟨fun behind => ?behind, fun at_tail whole => ?whole, fun at_tail cut => ?cut, fun gap small => ?gap,
      fun far => ?ahead⟩
    case behind =>
      rw [if_pos (by omega)] at placed
      exact answers_of_placed heard admitted placed rfl
    case whole => exact answers_of_placed heard admitted (place_whole hu he hq fits at_tail whole) rfl
    case cut =>
      rw [if_neg (by omega), if_pos (by omega), if_neg (by omega)] at placed
      exact answers_of_placed heard admitted placed rfl
    case gap =>
      rw [if_neg (by omega), if_neg (by omega), if_pos (by omega)] at placed
      exact answers_of_placed heard admitted placed rfl
    case ahead =>
      rw [if_neg (by omega), if_neg (by omega), if_neg (by omega)] at placed
      exact refuses_of_placed heard admitted placed (by decide)

end Sys2Proof.Proofs.AudioBlocks

/-! PROOF. The root from above (R116): each bit of `csqrt` halves the interval in which the root lies, so the ten bits reach it
from 1024 apart, and the least root follows since squares grow. -/

namespace Sys2Proof.Proofs.CeilingRoot

open Sys2Proof Sys2Proof.Machine

variable {x : Nat}

/-- The `n` lowest bits, from the highest. -/
def bitsBelow : Nat → List Nat
  | 0 => []
  | n + 1 => 2 ^ n :: bitsBelow n

/-- With the root of `x` in `r + 1 .. r + 2 ^ n`, the `n` lowest bits bring the two ends together. -/
theorem rootBelow_brackets (n : Nat) {r : Nat} (below : r * r < x) (above : x ≤ (r + 2 ^ n) * (r + 2 ^ n)) :
    rootBelow x (bitsBelow n) r * rootBelow x (bitsBelow n) r < x ∧
      x ≤ (rootBelow x (bitsBelow n) r + 1) * (rootBelow x (bitsBelow n) r + 1) := by
  induction n generalizing r with
  | zero => exact ⟨below, above⟩
  | succ n ih =>
    rw [bitsBelow, rootBelow]
    split
    case isTrue taken =>
      have two_halves : r + 2 ^ n + 2 ^ n = r + 2 ^ (n + 1) := by omega
      exact ih taken (two_halves ▸ above)
    case isFalse left_out => exact ih below (Nat.le_of_not_lt left_out)

theorem csqrt_zero : csqrt 0 = 0 := if_pos rfl

theorem csqrt_of_pos (pos : 0 < x) : csqrt x = rootBelow x (bitsBelow 10) 0 + 1 := if_neg pos.ne'

/-- The bits reach every `x` up to the square of 1024. -/
theorem le_csqrt_mul_self (bound : x ≤ 1024 * 1024) : x ≤ csqrt x * csqrt x := by
  rcases x.eq_zero_or_pos with rfl | pos
  case inl => exact Nat.zero_le _
  case inr =>
    rw [csqrt_of_pos pos]
    exact (rootBelow_brackets 10 pos bound).2

theorem csqrt_le_of_le_mul_self {r : Nat} (bound : x ≤ 1024 * 1024) (root : x ≤ r * r) : csqrt x ≤ r := by
  rcases x.eq_zero_or_pos with rfl | pos
  case inl => exact csqrt_zero ▸ r.zero_le
  case inr =>
    rw [csqrt_of_pos pos]
    have square_lt := (rootBelow_brackets 10 pos bound).1.trans_le root
    exact Nat.mul_self_lt_mul_self_iff.1 square_lt

/-- Settles O45: the bits bracket the root from both sides, and 1000 is a root of every `x` of the range. -/
theorem csqrtIsTheLeastRoot : Obligations.CsqrtIsTheLeastRoot := by
  refine ⟨fun x range => ?root, by decide, by decide, by decide, by decide, by decide⟩
  case root =>
    have bound : x ≤ 1024 * 1024 := by omega
    exact ⟨le_csqrt_mul_self bound, fun r => csqrt_le_of_le_mul_self bound, csqrt_le_of_le_mul_self bound range⟩

end Sys2Proof.Proofs.CeilingRoot

/-! PROOF. What the requests of the show and of the panel do once they are taken (R38 to R43, R98 to R100, R113, R162 to R165): each
writes no more of the part than `FountainOnly` names, or than `WaterOnly` where it is HYD's alone. -/

namespace Sys2Proof.Proofs.RequestEffects

open Sys2Proof Sys2Proof.Machine

variable (c : Chip)

/-! ## The show (R38 to R43) -/

theorem cueShow_fountain (k : PageId) (i : StepIndex) (music : Bool) (origin : Nat) :
    c.FountainOnly (c.cueShow k i music origin) := by
  unfold Chip.cueShow
  extract_lets live _ cleared _ cued announced
  have cued_only : c.FountainOnly cued := .of_eq rfl
  have announced_only : c.FountainOnly announced :=
    (cued_only.trans (Chip.cueAudio_audio _ music origin).fountain).trans (Chip.notify_fountain _ _)
  exact .ite (announced_only.trans (Chip.beginWake_fountain _ _)) announced_only

theorem uncue_fountain : c.FountainOnly c.uncue :=
  ((Chip.closeShow_fountain c).trans (Chip.audioOff_audio _).fountain).trans (Chip.playback_audio _ _).fountain

theorem startShow_fountain : c.FountainOnly c.startShow := by
  unfold Chip.startShow
  extract_lets shown _ _ running jets pumps
  have running_only : c.FountainOnly running :=
    ((Chip.toMode_fountain c _).trans (Chip.run_mode_fountain _ _ _)).trans (Chip.notify_fountain _ _)
  have water : running.WaterOnly pumps :=
    (Chip.demandWrites_water running _ _ _).trans (.forEach fun p d => Chip.handDrive_water d p _ _ _)
  have sounding := (Chip.endEvent_water pumps.cutFlush).fountain.trans (Chip.startAudio_audio _).fountain
  exact ((running_only.trans water.fountain).trans (Chip.cutFlush_fountain pumps)).trans
    (sounding.trans (Chip.clockTook_show _).fountain)

theorem pauseShow_fountain (cause : PauseCause) : c.FountainOnly (c.pauseShow cause) := by
  unfold Chip.pauseShow
  extract_lets held _ paused
  have paused_only : c.FountainOnly paused :=
    ((Chip.stopClock_audio c).trans (Chip.holdAudio_audio _)).fountain.trans (Chip.run_fountain _ _)
  exact .ite paused_only (paused_only.trans (Chip.notify_fountain _ _))

theorem continueShow_fountain : c.FountainOnly c.continueShow :=
  (((Chip.run_fountain c _).trans (Chip.notify_fountain _ _)).trans (Chip.startClock_audio _).fountain).trans
    (Chip.resumeAudio_audio _).fountain

theorem dropShow_fountain : c.FountainOnly c.dropShow :=
  (((Chip.darkenShow_lamps c).fountain.trans (Chip.audioOff_audio _).fountain).trans (Chip.image_show _ _).fountain).trans
    (Chip.closeShow_fountain _)

theorem stopShow_fountain : c.FountainOnly c.stopShow := by
  have ending : c.FountainOnly (c.enterEnding stopFade c.clock.value) := (Chip.enterEnding_show c _ _).fountain
  unfold Chip.stopShow
  split
  exacts [.refl c, .refl c, uncue_fountain c, ending, ending, ending, .ite (dropShow_fountain c) ending]

/-! ## TAKE and RELEASE (R162 to R165) -/

theorem undoHold_fountain : c.FountainOnly c.undoHold := .ite (Chip.run_fountain c _) (.refl c)

theorem takeShow_fountain : c.FountainOnly c.takeShow := by
  have paused : c.FountainOnly
      { c.undoHold.pauseShow .take with mode := { (c.undoHold.pauseShow .take).mode with restore := none } } :=
    ((undoHold_fountain c).trans (pauseShow_fountain _ _)).trans (Chip.mode_fountain _ _)
  unfold Chip.takeShow
  split
  exacts [paused, paused, paused, paused, .refl c, .refl c, .refl c]

theorem takeJets_fountain : c.FountainOnly c.takeJets :=
  (Chip.WaterOnly.forEach fun j d => Chip.demandWrite_water d _ _ _ j).fountain

theorem takeMode_fountain : c.FountainOnly c.takeMode := by
  have woken := Chip.mode_fountain c { c.mode with dormancy := none }
  unfold Chip.takeMode
  extract_lets d
  split
  · exact woken.trans (Chip.beginWake_fountain _ _)
  · exact woken.trans (Chip.mode_fountain _ _)
  all_goals exact woken.trans (Chip.toMode_fountain _ _)

theorem takeFountain_fountain : c.FountainOnly c.takeFountain :=
  (((((takeShow_fountain c).trans (takeJets_fountain _)).trans (Chip.cutFlush_fountain _)).trans
    (Chip.endEvent_water _).fountain).trans (Chip.lampsToPanel_lamps _).fountain).trans (takeMode_fountain _)

theorem beginRestore_fountain : c.FountainOnly c.beginRestore := by
  unfold Chip.beginRestore
  extract_lets _ announced shown jets expired pumps faded _
  have shown_only : c.FountainOnly shown :=
    ((Chip.run_fountain c _).trans (Chip.notify_fountain _ _)).trans (Chip.toMode_fountain _ _)
  have jets_only : shown.WaterOnly jets := .forEach fun j d => Chip.demandWrite_water d _ _ _ j
  have pumps_only : expired.WaterOnly pumps := .forEach fun p d => Chip.handDrive_water d p _ _ _
  have faded_only : pumps.FountainOnly faded :=
    (Chip.endEvent_water pumps).fountain.trans (Chip.beginCrossfade_lamps _).fountain
  exact (((shown_only.trans jets_only.fountain).trans (Chip.expireBursts_show jets).fountain).trans
    pumps_only.fountain).trans (faded_only.trans (Chip.mode_fountain faded _))

theorem releaseFountain_fountain : c.FountainOnly c.releaseFountain := by
  unfold Chip.releaseFountain
  extract_lets jets pumps
  have water : c.WaterOnly pumps :=
    (Chip.demandWrites_water c _ _ _).trans (.forEach fun p d => Chip.intentStop_water d p)
  have faded : pumps.FountainOnly pumps.endEvent.beginCrossfade :=
    (Chip.endEvent_water pumps).fountain.trans (Chip.beginCrossfade_lamps _).fountain
  exact (water.fountain.trans faded).trans (Chip.toMode_fountain _ _)

/-! ## Manual control (R98, R100, R113) -/

theorem setJets_water (set : JetSet) (demand : Nat) : c.WaterOnly (c.setJets set demand) :=
  (Chip.demandWrites_water c _ _ _).trans (Chip.endEvent_water _)

theorem onPumps_water (set : PumpSet) {act : PumpId → Chip → Chip} (h : ∀ (p : PumpId) (d : Chip), d.WaterOnly (act p d)) :
    c.WaterOnly (c.onPumps set act) :=
  (Chip.WaterOnly.forEach h).trans (Chip.endEvent_water _)

theorem clearPump_water (p : PumpId) : c.WaterOnly (c.clearPump p) := by
  unfold Chip.clearPump
  extract_lets resting
  have resting_only : c.WaterOnly resting := Chip.enterResting_water c p
  exact (Chip.WaterOnly.ite (resting_only.trans (Chip.startRequest_water _ _ _)) resting_only).trans (Chip.endEvent_water _)

/-! ## Pumps in and out of service (R99) -/

theorem changeService_water (was : Vector PumpLimit 12) (p : PumpId) : c.WaterOnly (Chip.changeService was p c) := by
  unfold Chip.changeService
  split
  · exact (Chip.dequeue_water c p).trans (Chip.enterState_water _ p _ _)
  · exact Chip.enterStopped_water c p
  all_goals exact .refl c

end Sys2Proof.Proofs.RequestEffects

/-! PROOF. The wind factors (R149): the four cases of the factor with its bounds, the two moments that form all four afresh, and
that no command but those and the resets writes them. -/

namespace Sys2Proof.Proofs.WindFactors

open Sys2Proof Sys2Proof.Machine Sys2Proof.Proofs.RequestEffects

/-! ## The factor of a class (R149) -/

section Factor

variable {w : WindLimit} {v u : Nat}

theorem windFactor_of_calm (calm : v ≤ w.calm) : windFactor w v = 1000 := if_pos calm

/-- From the gale entry on the factor is least, whether or not the entries leave a slope between them. -/
theorem windFactor_of_gale (windy : w.calm < v) (gale : w.gale ≤ v) : windFactor w v = w.wMin := by
  simp [windFactor, Nat.not_le.mpr windy, gale]

theorem windFactor_of_slope (windy : w.calm < v) (below : v < w.gale) :
    windFactor w v = 1000 - (v - w.calm) * (1000 - w.wMin) / (w.gale - w.calm) := by
  simp [windFactor, Nat.not_le.mpr windy, Nat.not_le.mpr below, Nat.not_le.mpr (windy.trans below)]

/-- On the slope the factor has fallen by a part of the whole way down. -/
theorem slope_drop_le (below : v < w.gale) : (v - w.calm) * (1000 - w.wMin) / (w.gale - w.calm) ≤ 1000 - w.wMin :=
  Nat.div_le_of_le_mul (Nat.mul_le_mul_right _ (by omega))

theorem windFactor_le (range : w.wMin ≤ 1000) : windFactor w v ≤ 1000 := by
  rcases Nat.lt_or_ge w.calm v with windy | calm
  · rcases Nat.lt_or_ge v w.gale with below | gale
    · rw [windFactor_of_slope windy below]
      exact Nat.sub_le _ _
    · rwa [windFactor_of_gale windy gale]
  · exact (windFactor_of_calm calm).le

theorem wMin_le_windFactor (range : w.wMin ≤ 1000) : w.wMin ≤ windFactor w v := by
  rcases Nat.lt_or_ge w.calm v with windy | calm
  · rcases Nat.lt_or_ge v w.gale with below | gale
    · have drop := slope_drop_le below
      rw [windFactor_of_slope windy below]
      omega
    · exact (windFactor_of_gale windy gale).ge
  · rwa [windFactor_of_calm calm]

theorem windFactor_antitone (range : w.wMin ≤ 1000) (le : v ≤ u) : windFactor w u ≤ windFactor w v := by
  rcases Nat.lt_or_ge w.calm v with windy | calm
  · rcases Nat.lt_or_ge u w.gale with below | gale
    · rw [windFactor_of_slope windy (le.trans_lt below), windFactor_of_slope (windy.trans_le le) below]
      exact Nat.sub_le_sub_left (Nat.div_le_div_right (Nat.mul_le_mul_right _ (Nat.sub_le_sub_right le _))) _
    · rw [windFactor_of_gale (windy.trans_le le) gale]
      exact wMin_le_windFactor range
  · rw [windFactor_of_calm calm]
    exact windFactor_le range

theorem windFactors_class (es : Vector WindLimit 4) (k : Fin 4) : (windFactors es v)[k] = windFactor es[k] v := by
  simp [windFactors]

end Factor

/-! ## What leaves the factors as they stand -/

/-- From `c` to `d` the wind factors have not changed. -/
def FactorsStand (c d : Chip) : Prop := d.sense.factors = c.sense.factors

namespace FactorsStand

variable {b c d e : Chip}

theorem refl (c : Chip) : FactorsStand c c := rfl

theorem trans (h : FactorsStand c d) (k : FactorsStand d e) : FactorsStand c e := Eq.trans k h

theorem ite {p : Prop} [Decidable p] (h : FactorsStand c d) (k : FactorsStand c e) : FactorsStand c (if p then d else e) := by
  split <;> assumption

/-- A rule's result, by the tests of the rule. -/
theorem ite_result {p : Prop} [Decidable p] {x y : Chip × Reaction} (h : FactorsStand c x.1) (k : FactorsStand c y.1) :
    FactorsStand c (if p then x else y).1 := by
  split <;> assumption

theorem of_fountain (h : c.FountainOnly d) : FactorsStand c d := by rw [FactorsStand, h.sense]

theorem of_water (h : c.WaterOnly d) : FactorsStand c d := .of_fountain h.fountain

/-- A pass of real time counts toward the next sample and leaves the last one's factors. -/
theorem reach (c : Chip) (t : Nat) : FactorsStand c (c.reach t) := rfl

theorem advance (c : Chip) (k : Nat) : FactorsStand c (c.advance k) := rfl

theorem settle (h : FactorsStand c d) : FactorsStand c (Chip.settle b d) := h.trans (.of_fountain (Chip.settle_fountain d b))

/-- A request taken, with the tests that follow it. -/
theorem settled (h : c.FountainOnly d) : FactorsStand c (Chip.settle b d).taken.1 := .settle (.of_fountain h)

theorem taken (h : c.FountainOnly d) : FactorsStand c d.taken.1 := .of_fountain h

theorem event {f : Chip → Chip} (h : FactorsStand c (f c)) : FactorsStand c (Chip.event f c) :=
  Chip.event_keeps (.refl c) fun _ => h

theorem react {l : LinkId} {kind : Nat} {x : Chip × Reaction} (h : FactorsStand c x.1) :
    FactorsStand c (Chip.react l kind x) := by
  obtain ⟨d, reaction⟩ := x
  cases reaction <;> exact h

end FactorsStand

/-! ## The rules of the requests -/

/-- The rule never writes the wind factors. -/
def RuleStands (rule : Rule) : Prop := ∀ c : Chip, FactorsStand c (rule c).1

theorem request_stands {l : LinkId} {kind : Nat} {rule : Rule} (h : RuleStands rule) (c : Chip) :
    FactorsStand c (Chip.request l kind rule c) :=
  Chip.request_keeps (.refl c) (fun _ => .refl c) fun _ => .react (h c)

section Rules

variable {exact : Bool}

theorem withoutPayload_stands {kind : Nat} {rule : Rule} (h : RuleStands rule) :
    RuleStands (withoutPayload kind exact rule) := fun c => by
  cases exact with
  | true => exact h c
  | false =>
    obtain ⟨code, data, refused, -⟩ := withoutPayload_wrong (c := c) kind rule
    rw [refused]
    exact .refl c

theorem onPage_stands {payload : List Byte} {rule : Nat → Rule} (h : ∀ page, RuleStands (rule page)) :
    RuleStands (onPage payload rule) := by
  unfold onPage
  split
  · exact .refl
  · exact h _

/-! ### Pages (R8 to R13) -/

theorem pageStages_stands {page : Nat} {allowed : PageState → Bool} {valid : Bool} {act : PageId → Rule}
    (h : ∀ k, RuleStands (act k)) : RuleStands (pageStages page allowed valid act) := fun c => by
  unfold pageStages
  split
  · exact .ite_result (.refl c) (.ite_result (.refl c) (h _ c))
  · exact .refl c

theorem updPage_stands (c : Chip) (k : PageId) (f : Page → Page) : FactorsStand c (c.updPage k f) :=
  .of_fountain (Chip.updPage_fountain c k f)

theorem rulePageOpen_stands (page : Nat) : RuleStands (rulePageOpen page exact) :=
  pageStages_stands fun k c => updPage_stands c k _

theorem ruleStepWrite_stands (page start count : Nat) (steps : List RawStep) :
    RuleStands (ruleStepWrite page start count steps exact) :=
  pageStages_stands fun k c => updPage_stands c k _

theorem ruleSceneWrite_stands (page scene : Nat) (entry : Option Nat) : RuleStands (ruleSceneWrite page scene entry exact) :=
  pageStages_stands fun k c => updPage_stands c k _

theorem ruleSlotWrite_stands (page slot : Nat) (value : Slot) : RuleStands (ruleSlotWrite page slot value exact) :=
  pageStages_stands fun k c => updPage_stands c k _

theorem rulePageClose_stands (page : Nat) : RuleStands (rulePageClose page exact) :=
  pageStages_stands fun k c => updPage_stands c k _

theorem rulePageFree_stands (page : Nat) : RuleStands (rulePageFree page exact) :=
  pageStages_stands fun k c => updPage_stands c k _

/-! ### The show (R38 to R43, R49) -/

theorem ruleCue_stands (page : Nat) (music : Bool) (origin : Nat) : RuleStands (ruleCue page music origin exact) := fun c => by
  unfold ruleCue
  split
  · refine .ite_result (.refl c) (.ite_result (.refl c) (.ite_result (.refl c) ?_))
    split
    · exact .refl c
    · exact .settled (cueShow_fountain c _ _ _ _)
  · exact .refl c

theorem ruleUncue_stands : RuleStands ruleUncue := fun c =>
  .ite_result (.settled (uncue_fountain c)) (.refl c)

theorem ruleStart_stands : RuleStands ruleStart := fun c =>
  .ite_result (.refl c) (.ite_result (.refl c) (.ite_result (.refl c) (.ite_result (.refl c)
    (.settled (startShow_fountain c)))))

theorem rulePause_stands : RuleStands rulePause := fun c => .ite_result (.taken (pauseShow_fountain c _)) (.refl c)

theorem ruleContinue_stands : RuleStands ruleContinue := fun c => by
  have resumed : FactorsStand c c.continueShow := .of_fountain (continueShow_fountain c)
  refine .ite_result ?_ (.refl c)
  split
  exacts [.refl c, resumed, resumed]

theorem ruleHoldSet_stands (scene : Option Nat) : RuleStands (ruleHoldSet scene exact) := fun c => by
  have placed (i : Option StepIndex) : FactorsStand c (c.setHold i) := .of_fountain (Chip.run_fountain c _)
  refine .ite_result (.refl c) (.ite_result (.refl c) ?_)
  split
  · exact placed none
  · refine .ite_result (.refl c) ?_
    split
    · exact .refl c
    · exact placed _

theorem ruleStop_stands : RuleStands ruleStop := fun c =>
  .ite_result (.refl c) (.ite_result (.refl c) (.settled (stopShow_fountain c)))

/-! ### Sound (R62 to R66, R74) -/

theorem ruleAudio_stands (position count : Nat) (frames : List AudioFrame) :
    RuleStands (ruleAudio position count frames exact) := fun c =>
  .ite_result (.refl c) (.ite_result (.refl c) (.ite_result (.refl c) (.refl c)))

theorem ruleAudioEnd_stands (position : Nat) : RuleStands (ruleAudioEnd position exact) := fun c => by
  refine .ite_result (.refl c) (.ite_result (.refl c) ?_)
  extract_lets fillBefore _ cut crossed
  have crossed_only : FactorsStand c crossed :=
    .of_fountain ((Chip.playback_audio c _).trans (Chip.lowCrossing_audio _ _)).fountain
  exact .ite_result (crossed_only.trans (.of_fountain (Chip.endOfMusic_audio crossed).fountain)) crossed_only

theorem ruleGain_stands (value : Nat) : RuleStands (ruleGain value exact) := fun c => .ite_result (.refl c) (.refl c)

theorem ruleDuck_stands (value : Nat) : RuleStands (ruleDuck value exact) := fun c => .ite_result (.refl c) (.refl c)

/-! ### The panel (R98, R100, R113, R122, R127, R135, R162 to R168) -/

theorem ruleTake_stands : RuleStands ruleTake := fun c =>
  .ite_result (.refl c) (.ite_result (.refl c) (.settled (takeFountain_fountain c)))

theorem ruleRelease_stands : RuleStands ruleRelease := fun c =>
  .ite_result (.refl c) (.ite_result (.refl c) (.ite_result (.settled (beginRestore_fountain c))
    (.settled (releaseFountain_fountain c))))

theorem ruleTrip_stands : RuleStands ruleTrip := fun c => .taken (Chip.tripCause_fountain c _)

theorem ruleClearTrip_stands : RuleStands ruleClearTrip := fun c =>
  .ite_result (.refl c) (.ite_result (.refl c) (.taken ((((Chip.mode_fountain c _).trans
    (Chip.raisePower_fountain _)).trans (Chip.mode_fountain _ _)).trans (Chip.toMode_fountain _ _))))

theorem manualStages_stands {valid : Bool} {act : Chip → Chip} (h : ∀ c : Chip, c.FountainOnly (act c)) :
    RuleStands (manualStages valid act) := fun c =>
  .ite_result (.refl c) (.ite_result (.refl c) (.ite_result (.refl c) (.taken (h c))))

theorem ruleJetSet_stands (set : JetSet) (demand : Nat) : RuleStands (ruleJetSet set demand exact) :=
  manualStages_stands fun c => (setJets_water c set demand).fountain

theorem rulePumpStart_stands (set : PumpSet) : RuleStands (rulePumpStart set exact) :=
  manualStages_stands fun c => (onPumps_water c set fun p d => Chip.intentRun_water d p _).fountain

theorem rulePumpStop_stands (set : PumpSet) : RuleStands (rulePumpStop set exact) :=
  manualStages_stands fun c => (onPumps_water c set fun p d => Chip.intentStop_water d p).fountain

theorem rulePumpPolicy_stands (set : PumpSet) (code : Nat) : RuleStands (rulePumpPolicy set code exact) :=
  manualStages_stands fun c => by
    split
    · exact (onPumps_water c set fun p d => Chip.setPolicy_water d p _).fountain
    · exact .refl c

theorem ruleClearPump_stands (pump : Nat) : RuleStands (ruleClearPump pump exact) := fun c => by
  unfold ruleClearPump
  split
  · exact .ite_result (.refl c) (.ite_result (.refl c) (.taken (clearPump_water c _).fountain))
  · exact .refl c

theorem ruleLightSet_stands (lums : LumSet) (mask : ChannelMask) (red green blue white fade : Nat) :
    RuleStands (ruleLightSet lums mask red green blue white fade exact) :=
  manualStages_stands fun c => (Chip.fadePanel_lamps c _ _ _ _).fountain

theorem ruleZoneMask_stands (mask : ZoneMask) : RuleStands (ruleZoneMask mask exact) := fun c =>
  .ite_result (.settled (Chip.circ_fountain c _)) (.refl c)

theorem ruleFlushAll_stands : RuleStands ruleFlushAll := fun c => by
  refine .ite_result (.refl c) (.ite_result (.refl c) (.ite_result (.refl c) ?_))
  split
  · exact .refl c
  · exact .settled (Chip.beginFlush_fountain c _ _)

theorem ruleSleep_stands : RuleStands ruleSleep := fun c =>
  .ite_result (.settled (Chip.enterDormant_fountain c)) (.refl c)

theorem ruleWake_stands : RuleStands ruleWake := fun c => by
  unfold ruleWake
  split
  · exact .settled (Chip.beginWake_fountain c _)
  all_goals exact .refl c

/-! ### The limit table (R176, R177) -/

theorem ruleCommission_stands (code : Nat) : RuleStands (ruleCommission code exact) := fun c => by
  refine .ite_result (.refl c) ?_
  split
  · exact .refl c
  · exact .ite_result (.refl c) (.refl c)
  · exact .ite_result (.refl c) (.refl c)

theorem ruleRelax_stands (code : Nat) : RuleStands (ruleRelax code exact) := fun c => by
  refine .ite_result (.refl c) ?_
  split
  · exact .refl c
  · exact .refl c
  · exact .ite_result (.refl c) (.refl c)

/-- Only the wind class section has number 3. -/
theorem sectionOfBytes_ne_wind {sect : Nat} (other : sect ≠ 3) (bytes : List Byte) (es : Vector WindLimit 4) :
    sectionOfBytes sect bytes ≠ some (.wind es) := by
  unfold sectionOfBytes
  split <;> simp_all

/-- A section other than the wind classes, written whole. -/
theorem writeSection_stands (c : Chip) {x : LimitSection} (other : ∀ es, x ≠ .wind es) : FactorsStand c (c.writeSection x) := by
  have ended (d : Chip) (h : FactorsStand c d) : FactorsStand c d.endEvent := h.trans (.of_water (Chip.endEvent_water d))
  cases x with
  | jets es => exact ended _ (.refl c)
  | pumps es =>
    have written : FactorsStand c { c with limits := { c.limits with pumps := es } } := .refl c
    exact ended _ (written.trans (.of_water (.forEach fun p d => changeService_water d _ p)))
  | site e => exact ended _ (.refl c)
  | wind es => exact absurd rfl (other es)
  | lums es => exact ended _ (.refl c)

theorem ruleLimitWrite_stands {sect : Nat} (other : sect ≠ 3) (entries : List Byte) :
    RuleStands (ruleLimitWrite sect entries) := fun c => by
  unfold ruleLimitWrite
  split
  · exact .refl c
  · split
    · exact .refl c
    next x read =>
      have not_wind (es : Vector WindLimit 4) : x ≠ .wind es := fun e => sectionOfBytes_ne_wind other entries es (e ▸ read)
      exact .ite_result (.refl c) (.settle (writeSection_stands c not_wind))

/-! ### Reading (R173, R174) -/

theorem ruleStatus_stands (l : LinkId) : RuleStands (ruleStatus l) := fun c => .refl c

theorem readOf_stands (data : Chip → ReplyData) : RuleStands (readOf data) := fun c => .refl c

theorem ruleReadLamps_stands (luminaire : Nat) : RuleStands (ruleReadLamps luminaire exact) := fun c => by
  unfold ruleReadLamps
  split <;> exact .refl c

theorem ruleReadLimits_stands (sect : Nat) : RuleStands (ruleReadLimits sect exact) := fun c => by
  unfold ruleReadLimits
  split <;> exact .refl c

theorem ruleReadPage_stands (page : Nat) : RuleStands (ruleReadPage page exact) := fun c => by
  unfold ruleReadPage
  split <;> exact .refl c

theorem ruleReadSteps_stands (page start count : Nat) : RuleStands (ruleReadSteps page start count exact) := fun c => by
  unfold ruleReadSteps
  split <;> exact .refl c

end Rules

end Sys2Proof.Proofs.WindFactors

/-! PROOF. The wind factors over the commands (R149): frames bring the requests to their rules, the part's own events and its field
lines leave the factors alone, and the gate and LIMIT_WRITE form them. -/

namespace Sys2Proof.Proofs.WindFactors

open Sys2Proof Sys2Proof.Machine Sys2Proof.Proofs.RequestEffects

/-! ## Frames (R171, R172, R179) -/

/-- The first byte of a payload, as a number. -/
theorem beAt_head {payload : List Byte} {k : Byte} (h : beAt payload 0 1 = k.toNat) (some_byte : payload ≠ []) :
    payload.head? = some k := by
  cases payload with
  | nil => exact absurd rfl some_byte
  | cons b rest =>
    have value : b.toNat = k.toNat := by simpa [beAt, beNat] using h
    exact congrArg some (BitVec.eq_of_toNat_eq value)

/-- LIMIT_WRITE in a frame that does not begin with section 3. -/
theorem framedLimitWrite_stands {payload : List Byte} (other : payload.head? ≠ some 3) :
    RuleStands (if payload.length == 0 then ruleLimitWrite 255 [] else ruleLimitWrite (beAt payload 0 1) (payload.drop 1)) := by
  split
  · exact ruleLimitWrite_stands (by decide) _
  next nonempty =>
    have some_byte : payload ≠ [] := by rintro rfl; exact nonempty rfl
    exact ruleLimitWrite_stands (fun first => other (beAt_head (k := 3) first some_byte)) _

/-- The rule of every kind but RESTART leaves the factors, and that of LIMIT_WRITE does for the other sections. -/
theorem ruleOf_stands (l : LinkId) {kind : Nat} {payload : List Byte} (not_restart : kind ≠ 21)
    (not_wind : kind = 31 → payload.head? ≠ some 3) : RuleStands (ruleOf l kind payload) := by
  unfold ruleOf
  dsimp only
  split
  exacts [onPage_stands fun page => rulePageOpen_stands page,
    onPage_stands fun page => ruleStepWrite_stands page _ _ _,
    onPage_stands fun page => ruleSceneWrite_stands page _ _,
    onPage_stands fun page => ruleSlotWrite_stands page _ _,
    onPage_stands fun page => rulePageClose_stands page,
    onPage_stands fun page => rulePageFree_stands page,
    ruleCue_stands _ _ _,
    withoutPayload_stands ruleUncue_stands,
    withoutPayload_stands ruleStart_stands,
    withoutPayload_stands rulePause_stands,
    withoutPayload_stands ruleContinue_stands,
    ruleHoldSet_stands _,
    ruleAudio_stands _ _ _,
    ruleAudioEnd_stands _,
    ruleGain_stands _,
    withoutPayload_stands ruleStop_stands,
    withoutPayload_stands ruleTake_stands,
    withoutPayload_stands ruleRelease_stands,
    withoutPayload_stands ruleTrip_stands,
    withoutPayload_stands ruleClearTrip_stands,
    absurd rfl not_restart,
    ruleJetSet_stands _ _,
    rulePumpStart_stands _,
    rulePumpStop_stands _,
    rulePumpPolicy_stands _ _,
    ruleClearPump_stands _,
    ruleLightSet_stands _ _ _ _ _ _ _,
    ruleZoneMask_stands _,
    withoutPayload_stands ruleFlushAll_stands,
    ruleDuck_stands _,
    framedLimitWrite_stands (not_wind rfl),
    ruleCommission_stands _,
    ruleRelax_stands _,
    withoutPayload_stands ruleSleep_stands,
    withoutPayload_stands ruleWake_stands,
    withoutPayload_stands (ruleStatus_stands l),
    withoutPayload_stands (readOf_stands _),
    withoutPayload_stands (readOf_stands _),
    withoutPayload_stands (readOf_stands _),
    ruleReadLamps_stands _,
    withoutPayload_stands (readOf_stands _),
    ruleReadLimits_stands _,
    ruleReadPage_stands _,
    ruleReadSteps_stands _ _ _,
    .refl]

section Links

variable (l : LinkId) (c : Chip)

theorem setReceive_stands (state : Receive) (discarding : Bool) : FactorsStand c (c.setReceive l state discarding) := .refl c

theorem badFrame_stands (kind : Nat) : FactorsStand c (c.badFrame l kind) := .ite (.refl c) (.refl c)

theorem overLength_stands (kind : Nat) : FactorsStand c (c.overLength l kind) :=
  (badFrame_stands l c kind).trans (setReceive_stands l _ _ _)

theorem frameEnd_stands {kind : Byte} {payload : List Byte} (crc : BitVec 16) (not_restart : kind.toNat ≠ 21)
    (not_wind : kind.toNat = 31 → payload.head? ≠ some 3) : FactorsStand c (c.frameEnd l kind payload crc) := by
  have hunting := setReceive_stands l c .hunt false
  exact .ite (.refl c) (.ite (overLength_stands l c _) (.ite
    (hunting.trans (request_stands (ruleOf_stands l not_restart not_wind) _)) (hunting.trans (badFrame_stands l _ _))))

theorem lengthFault_stands (kind : Byte) (length : Nat) : FactorsStand c (c.lengthFault l kind length) :=
  .ite (overLength_stands l c _) (.refl c)

theorem gap_stands (kind : Option Byte) : FactorsStand c (c.gap l kind) :=
  .ite ((badFrame_stands l c _).trans (setReceive_stands l _ _ _)) (.refl c)

theorem discardOver_stands : FactorsStand c (c.discardOver l) := .ite (setReceive_stands l c _ _) (.refl c)

theorem replySent_stands : FactorsStand c (c.replySent l) := by
  unfold Chip.replySent
  split <;> exact .refl c

theorem startByte_stands : FactorsStand c (c.startByte l) := by
  unfold Chip.startByte
  split <;> exact .refl c

end Links

/-! ## The part's own events -/

section Events

variable (c : Chip)

theorem completeValidation_stands : FactorsStand c c.completeValidation := by
  unfold Chip.completeValidation
  split <;> exact .refl c

theorem assertReset_stands : FactorsStand c c.assertReset := by
  rw [FactorsStand, Chip.assertReset, Chip.updLinks_sense]
  exact congrArg Sensing.factors (Chip.dropPower_fountain c).sense

/-! ### Sound and the show clock (R67, R75, R76) -/

theorem localTick_stands : FactorsStand c c.localTick := by
  unfold Chip.localTick
  split
  · extract_lets reached _ ticked
    have ticked_only : FactorsStand c ticked := .refl c
    exact .ite ticked_only (.settle (ticked_only.trans (.of_fountain (Chip.clockTook_show ticked).fountain)))
  · exact .refl c

theorem takePeriod_stands : FactorsStand c c.takePeriod := by
  unfold Chip.takePeriod
  split <;> exact .refl c

theorem audioPeriod_stands : FactorsStand c c.audioPeriod := by
  have played : FactorsStand c c.takePeriod.framePeriod :=
    (takePeriod_stands c).trans (.of_fountain (Chip.framePeriod_audio _).fountain)
  exact .ite played (.settle (played.trans (.of_fountain (Chip.clockTook_show _).fountain)))

theorem gainStep_stands : FactorsStand c c.gainStep := .ite (.refl c) (.refl c)

/-! ### The field lines (R146, R150 to R152) -/

theorem pulse_stands : FactorsStand c c.pulse := .refl c

theorem setSwitch_factors (n : Sensing) (which : LevelSwitch) (v : Debounced) :
    (n.setSwitch which v).factors = n.factors := by
  cases which <;> rfl

theorem lineEvent_stands {upd : Lines → Lines} {f : Chip → Chip} (h : ∀ d, FactorsStand d (f d)) :
    FactorsStand c (c.lineEvent upd f) := .event (h { c with lines := upd c.lines })

theorem levelInput_stands (which : LevelSwitch) (v : Bool) : FactorsStand c (c.levelInput which v) :=
  .ite (.refl c) (lineEvent_stands c fun d => setSwitch_factors d.sense which _)

theorem levelExpiry_stands (which : LevelSwitch) : FactorsStand c (c.levelExpiry which) := by
  unfold Chip.levelExpiry
  split
  · exact .refl c
  · extract_lets reached n level _ switched
    have switched_only : FactorsStand c switched := setSwitch_factors reached.sense which _
    exact .ite (switched_only.trans (.of_fountain (Chip.tripCause_fountain switched _))) switched_only

theorem stopPressed_stands : FactorsStand c c.stopPressed := by
  have pressed (d : Chip) : FactorsStand d { d with sense := { d.sense with eStop := true } } := .refl d
  exact .ite (.refl c) (lineEvent_stands c fun d => (pressed d).trans (.of_fountain (Chip.tripCause_fountain _ _)))

theorem stopReleased_stands : FactorsStand c c.stopReleased := .ite (lineEvent_stands c fun _ => rfl) (.refl c)

theorem duskInput_stands (v : Bool) : FactorsStand c (c.duskInput v) := .ite (.refl c) (lineEvent_stands c fun _ => rfl)

theorem duskExpiry_stands : FactorsStand c c.duskExpiry := .ite (.refl c) (.refl c)

/-! ### The pumps (R87 to R97, R101) -/

section Pumps

variable (p : PumpId)

theorem hydraulicUpdate_stands : FactorsStand c c.hydraulicUpdate := .refl c

theorem queueExpiry_stands : FactorsStand c c.queueExpiry := .of_water (Chip.testQueue_water c)

theorem pressureProven_stands : FactorsStand c (c.pressureProven p) :=
  .ite (.settle (.of_water (Chip.enterRunning_water c p))) (.refl c)

theorem pressOkRise_stands (high : Bool) : FactorsStand c (c.pressOkRise p high) :=
  .event (pressureProven_stands { c with lines := { c.lines with pressOk := c.lines.pressOk.set p true } } p)

theorem drvOkFall_stands (high : Bool) : FactorsStand c (c.drvOkFall p high) :=
  .event (.settle (.of_water (Chip.watchDrive_water { c with lines := { c.lines with drvOk := c.lines.drvOk.set p false } } p)))

theorem primeMinExpiry_stands : FactorsStand c (c.primeMinExpiry p) := by
  have reached := FactorsStand.reach c (c.pumps[p]).primeMinEnd
  exact .ite (.ite (.settle (reached.trans (.of_water (Chip.enterRunning_water _ p)))) reached) (.refl c)

theorem primeTimeout_stands : FactorsStand c (c.primeTimeout p) :=
  .ite (.settle ((FactorsStand.reach c _).trans (.of_water (Chip.enterFaulted_water _ p _)))) (.refl c)

theorem runMinExpiry_stands : FactorsStand c (c.runMinExpiry p) :=
  .ite (.settle ((FactorsStand.reach c _).trans (.of_water (Chip.enterResting_water _ p)))) (.refl c)

theorem idleReached_stands : FactorsStand c (c.idleReached p) := by
  unfold Chip.idleReached
  split
  · exact .settle ((FactorsStand.reach c _).trans (.of_water (Chip.stopRequest_water _ p)))
  · exact .refl c

theorem restOver_stands : FactorsStand c (c.restOver p) :=
  .ite ((FactorsStand.reach c _).trans (.of_water ((Chip.enterStopped_water _ p).trans (Chip.endEvent_water _)))) (.refl c)

end Pumps

/-! ### Circulation, modes and lamps (R121 to R128, R138, R156, R161, R164) -/

theorem periodReached_stands : FactorsStand c c.periodReached :=
  .settle ((FactorsStand.advance c _).trans (.of_fountain (Chip.periodExpiry_fountain _)))

theorem flushReached_stands : FactorsStand c c.flushReached := by
  unfold Chip.flushReached
  split
  · exact .ite (.settle ((FactorsStand.advance c _).trans (.of_fountain (Chip.endFlush_fountain _ _)))) (.refl c)
  · exact .refl c

theorem zoneReached_stands : FactorsStand c c.zoneReached := by
  unfold Chip.zoneReached
  split
  · exact .ite (.settle ((FactorsStand.advance c _).trans (.of_fountain (Chip.zoneDone_fountain _ _)))) (.refl c)
  · exact .refl c

theorem stallReached_stands : FactorsStand c c.stallReached := by
  unfold Chip.stallReached
  split
  · exact .ite (.settle ((FactorsStand.advance c _).trans (.of_fountain (Chip.stallFlush_fountain _ _)))) (.refl c)
  · exact .refl c

theorem settleExpiry_stands : FactorsStand c c.settleExpiry := by
  unfold Chip.settleExpiry
  split
  · exact .settle ((FactorsStand.reach c _).trans (.of_fountain (((Chip.powerOn_fountain _).trans
      (Chip.endEvent_water _).fountain).trans (Chip.endWake_fountain _))))
  · exact .refl c

theorem dormancyExpiry_stands : FactorsStand c c.dormancyExpiry := by
  unfold Chip.dormancyExpiry
  split
  · exact .ite (.settle ((FactorsStand.reach c _).trans (.of_fountain (Chip.enterDormant_fountain _)))) (.refl c)
  · exact .refl c

theorem restoreExpiry_stands : FactorsStand c c.restoreExpiry := by
  unfold Chip.restoreExpiry
  split
  · exact .settle ((FactorsStand.reach c _).trans (.of_fountain (Chip.endRestore_fountain _)))
  · exact .refl c

theorem frameReached_stands : FactorsStand c c.frameReached :=
  .settle ((FactorsStand.advance c _).trans (.of_fountain (Chip.lampFrame_lamps _).fountain))

end Events

/-! ## The commands -/

/-- The command never writes the wind factors. -/
def CommandStands (i : Instr) : Prop := ∀ s t : State, exec i s = .next t → FactorsStand s.chip t.chip

namespace CommandStands

variable {i : Instr} {f : Chip → Chip}

theorem of_act (run : ∀ s, exec i s = s.act f) (h : ∀ c, FactorsStand c (f c)) : CommandStands i := by
  intro s t next
  obtain rfl : { s with chip := f s.chip } = t := by simpa [run] using next
  exact h s.chip

theorem of_event (run : ∀ s, exec i s = s.act (Chip.event f)) (h : ∀ c, FactorsStand c (f c)) : CommandStands i :=
  .of_act run fun c => .event (h c)

theorem of_request {l : LinkId} {kind : Nat} {rule : Rule} (run : ∀ s, exec i s = s.act (Chip.request l kind rule))
    (h : RuleStands rule) : CommandStands i :=
  .of_act run (request_stands h)

end CommandStands

/-- The commands that form the factors: the gate, LIMIT_WRITE, and the resets, directly or in a frame. -/
def FormsFactors (i : Instr) : Prop :=
  i = .windGateClose ∨ (∃ (l : LinkId) (bytes : List Byte), i = .limitWrite l 3 bytes) ∨
    (∃ l : LinkId, i = .restart l) ∨ (∃ lines : Lines, i = .powerOnReset lines) ∨
    (∃ straps : Vector StrapPins 3, i = .lineResetRelease straps) ∨
    ∃ (l : LinkId) (kind : Byte) (payload : List Byte) (crc : BitVec 16), i = .frameReceived l kind payload crc ∧
      (kind.toNat = 21 ∨ (kind.toNat = 31 ∧ payload.head? = some 3))

open CommandStands in
/-- Every command but those that form the factors leaves them as they stand. -/
theorem commandStands_of_not_formsFactors {i : Instr} (other : ¬ FormsFactors i) : CommandStands i := by
  obtain ⟨not_gate, not_write, not_restart, not_power, not_release, not_frame⟩ :
      i ≠ .windGateClose ∧ (∀ l bytes, i ≠ .limitWrite l 3 bytes) ∧ (∀ l, i ≠ .restart l) ∧
      (∀ lines, i ≠ .powerOnReset lines) ∧ (∀ straps, i ≠ .lineResetRelease straps) ∧
      ∀ l kind payload crc, i = .frameReceived l kind payload crc →
        ¬ (kind.toNat = 21 ∨ (kind.toNat = 31 ∧ payload.head? = some 3)) := by
    simpa [FormsFactors] using other
  cases i with
  | pageOpen l page => exact of_request (fun _ => rfl) (rulePageOpen_stands page)
  | stepWrite l page start count steps => exact of_request (fun _ => rfl) (ruleStepWrite_stands page start count steps)
  | sceneWrite l page scene entry => exact of_request (fun _ => rfl) (ruleSceneWrite_stands page scene entry)
  | slotWrite l page slot source sense threshold => exact of_request (fun _ => rfl) (ruleSlotWrite_stands page slot _)
  | pageClose l page => exact of_request (fun _ => rfl) (rulePageClose_stands page)
  | validationComplete => exact of_event (fun _ => rfl) completeValidation_stands
  | pageFree l page => exact of_request (fun _ => rfl) (rulePageFree_stands page)
  | cue l page music origin => exact of_request (fun _ => rfl) (ruleCue_stands page music origin)
  | uncue l => exact of_request (fun _ => rfl) (withoutPayload_stands ruleUncue_stands)
  | start l => exact of_request (fun _ => rfl) (withoutPayload_stands ruleStart_stands)
  | pause l => exact of_request (fun _ => rfl) (withoutPayload_stands rulePause_stands)
  | continueShow l => exact of_request (fun _ => rfl) (withoutPayload_stands ruleContinue_stands)
  | holdSet l scene => exact of_request (fun _ => rfl) (ruleHoldSet_stands scene)
  | audio l position count frames => exact of_request (fun _ => rfl) (ruleAudio_stands position count frames)
  | audioEnd l position => exact of_request (fun _ => rfl) (ruleAudioEnd_stands position)
  | gain l value => exact of_request (fun _ => rfl) (ruleGain_stands value)
  | duck l value => exact of_request (fun _ => rfl) (ruleDuck_stands value)
  | stop l => exact of_request (fun _ => rfl) (withoutPayload_stands ruleStop_stands)
  | take l => exact of_request (fun _ => rfl) (withoutPayload_stands ruleTake_stands)
  | release l => exact of_request (fun _ => rfl) (withoutPayload_stands ruleRelease_stands)
  | trip l => exact of_request (fun _ => rfl) (withoutPayload_stands ruleTrip_stands)
  | clearTrip l => exact of_request (fun _ => rfl) (withoutPayload_stands ruleClearTrip_stands)
  | restart l => exact absurd rfl (not_restart l)
  | jetSet l jets demand => exact of_request (fun _ => rfl) (ruleJetSet_stands jets demand)
  | pumpStart l pumps => exact of_request (fun _ => rfl) (rulePumpStart_stands pumps)
  | pumpStop l pumps => exact of_request (fun _ => rfl) (rulePumpStop_stands pumps)
  | pumpPolicy l pumps policy => exact of_request (fun _ => rfl) (rulePumpPolicy_stands pumps policy)
  | clearPump l pump => exact of_request (fun _ => rfl) (ruleClearPump_stands pump)
  | lightSet l lums mask red green blue white fade =>
    exact of_request (fun _ => rfl) (ruleLightSet_stands lums mask red green blue white fade)
  | zoneMask l mask => exact of_request (fun _ => rfl) (ruleZoneMask_stands mask)
  | flushAll l => exact of_request (fun _ => rfl) (withoutPayload_stands ruleFlushAll_stands)
  | limitWrite l sect bytes =>
    have not_wind : sect ≠ 3 := by rintro rfl; exact not_write l bytes rfl
    exact of_request (fun _ => rfl) (ruleLimitWrite_stands not_wind bytes)
  | commission l code => exact of_request (fun _ => rfl) (ruleCommission_stands code)
  | relax l code => exact of_request (fun _ => rfl) (ruleRelax_stands code)
  | sleep l => exact of_request (fun _ => rfl) (withoutPayload_stands ruleSleep_stands)
  | wake l => exact of_request (fun _ => rfl) (withoutPayload_stands ruleWake_stands)
  | status l => exact of_request (fun _ => rfl) (withoutPayload_stands (ruleStatus_stands l))
  | readShow l => exact of_request (fun _ => rfl) (withoutPayload_stands (readOf_stands _))
  | readPumps l => exact of_request (fun _ => rfl) (withoutPayload_stands (readOf_stands _))
  | readJets l => exact of_request (fun _ => rfl) (withoutPayload_stands (readOf_stands _))
  | readLamps l luminaire => exact of_request (fun _ => rfl) (ruleReadLamps_stands luminaire)
  | readSite l => exact of_request (fun _ => rfl) (withoutPayload_stands (readOf_stands _))
  | readLimits l sect => exact of_request (fun _ => rfl) (ruleReadLimits_stands sect)
  | readPage l page => exact of_request (fun _ => rfl) (ruleReadPage_stands page)
  | readSteps l page start count => exact of_request (fun _ => rfl) (ruleReadSteps_stands page start count)
  | frameReceived l kind payload crc =>
    obtain ⟨no_restart, no_wind⟩ := not_or.mp (not_frame l kind payload crc rfl)
    exact of_event (fun _ => rfl) fun c => frameEnd_stands l c crc no_restart fun write first => no_wind ⟨write, first⟩
  | frameLengthFault l kind length => exact of_event (fun _ => rfl) fun c => lengthFault_stands l c kind length
  | frameGapTimeout l kind => exact of_event (fun _ => rfl) fun c => gap_stands l c kind
  | discardIdleEnd l => exact of_event (fun _ => rfl) (discardOver_stands l)
  | replyFrameSent l => exact of_event (fun _ => rfl) (replySent_stands l)
  | powerOnReset lines => exact absurd rfl (not_power lines)
  | lineResetAssert => exact of_act (fun _ => rfl) assertReset_stands
  | lineResetRelease straps => exact absurd rfl (not_release straps)
  | showClockTick => exact of_event (fun _ => rfl) localTick_stands
  | audioFramePeriod => exact of_event (fun _ => rfl) audioPeriod_stands
  | gainStep => exact of_event (fun _ => rfl) gainStep_stands
  | anemometerPulse => exact of_event (fun _ => rfl) pulse_stands
  | windGateClose => exact absurd rfl not_gate
  | levelInputChange which asserted => exact of_act (fun _ => rfl) fun c => levelInput_stands c which asserted
  | levelDebounceExpiry which => exact of_event (fun _ => rfl) fun c => levelExpiry_stands c which
  | eStopAssert => exact of_act (fun _ => rfl) stopPressed_stands
  | eStopRelease => exact of_act (fun _ => rfl) stopReleased_stands
  | duskInputChange high => exact of_act (fun _ => rfl) fun c => duskInput_stands c high
  | duskDebounceExpiry => exact of_event (fun _ => rfl) duskExpiry_stands
  | hydraulicUpdate => exact of_event (fun _ => rfl) hydraulicUpdate_stands
  | queueTimingExpiry => exact of_event (fun _ => rfl) queueExpiry_stands
  | pressOkRise p high => exact of_act (fun _ => rfl) fun c => pressOkRise_stands c p high
  | primeMinExpiry p => exact of_event (fun _ => rfl) fun c => primeMinExpiry_stands c p
  | primeTimeout p => exact of_event (fun _ => rfl) fun c => primeTimeout_stands c p
  | runMinExpiry p => exact of_event (fun _ => rfl) fun c => runMinExpiry_stands c p
  | idleExpiry p => exact of_event (fun _ => rfl) fun c => idleReached_stands c p
  | restEnd p => exact of_event (fun _ => rfl) fun c => restOver_stands c p
  | drvOkFall p high => exact of_act (fun _ => rfl) fun c => drvOkFall_stands c p high
  | flushPeriodExpiry => exact of_event (fun _ => rfl) periodReached_stands
  | flushEnd => exact of_event (fun _ => rfl) flushReached_stands
  | flushAllZoneDone => exact of_event (fun _ => rfl) zoneReached_stands
  | flushStall => exact of_event (fun _ => rfl) stallReached_stands
  | settleExpiry => exact of_event (fun _ => rfl) settleExpiry_stands
  | dormancyExpiry => exact of_event (fun _ => rfl) dormancyExpiry_stands
  | restoreTimeout => exact of_event (fun _ => rfl) restoreExpiry_stands
  | lampFrame => exact of_event (fun _ => rfl) frameReached_stands
  | startByteReceived l => exact of_event (fun _ => rfl) (startByte_stands l)

/-! ## The moments at which the factors are formed -/

/-- What the gate leaves of the sensing record, whether or not the sample is a gust onset: an onset goes to the links and to CUE. -/
theorem closeGate_sense (c : Chip) : c.closeGate.sense =
    (c.advance (1000 - c.sense.gateTimer)).sense.closeGate c.limits.site.windScale c.limits.wind := by
  unfold Chip.closeGate
  extract_lets advanced onset sampled
  have noticed : sampled.FountainOnly (Chip.settle c (sampled.notify .gust).gustToShow) :=
    ((Chip.notify_fountain sampled _).trans (Chip.gustToShow_show _).fountain).trans (Chip.settle_fountain _ c)
  split
  · exact noticed.sense
  · rfl

theorem closeGate_factors (c : Chip) : c.closeGate.sense.factors = windFactors c.limits.wind c.closeGate.sense.vAvg := by
  rw [closeGate_sense]
  rfl

theorem tableGuard_open {c : Chip} (writable : c.protection = .opened ∨
    (c.protection = .guarded ∧ c.mode.mode ≠ .showMode ∧ c.mode.mode ≠ .manual)) : c.tableGuard = none := by
  unfold Chip.tableGuard
  rcases writable with opened | ⟨guarded, not_show, not_manual⟩
  · rw [opened]
  · rw [guarded]
    dsimp only
    split <;> simp_all

/-- The wind classes are written and the factors formed from them, whatever the tests that follow do. -/
theorem writeWind_factors (c : Chip) (es : Vector WindLimit 4) :
    (Chip.settle c (c.writeSection (.wind es))).sense.factors = windFactors es c.sense.vAvg := by
  have ended := (Chip.endEvent_water { c with
    limits := { c.limits with wind := es }, sense := { c.sense with factors := windFactors es c.sense.vAvg } }).fountain
  rw [(Chip.settle_fountain _ c).sense, Chip.writeSection, ended.sense]

theorem ruleLimitWrite_wind {c : Chip} {bytes : List Byte} {es : Vector WindLimit 4} (unguarded : c.tableGuard = none)
    (read : sectionOfBytes 3 bytes = some (.wind es)) :
    ruleLimitWrite 3 bytes c = (Chip.settle c (c.writeSection (.wind es))).taken := by
  simp [ruleLimitWrite, unguarded, read, Chip.limitConflict]

/-- Settles O40: the four cases and the bounds of the factor, its forming at the gate and at a written wind class section, and
that every other command leaves the factors. -/
theorem windFactors : Obligations.WindFactors := by
  refine ⟨fun w v => ?cases, fun s free => ?gate, fun s l bytes es heard writable read => ?write, fun i s t next => ?stand⟩
  case cases =>
    exact ⟨windFactor_of_calm, fun windy flat => windFactor_of_gale windy (flat.trans windy.le),
      fun windy _ gale => windFactor_of_gale windy gale, windFactor_of_slope,
      fun range => ⟨wMin_le_windFactor range, windFactor_le range, fun _ => windFactor_antitone range⟩⟩
  case gate =>
    have run : exec .windGateClose s = .next { s with chip := s.chip.closeGate } := by
      rw [show exec .windGateClose s = s.act (Chip.event Chip.closeGate) from rfl, State.act_eq, Chip.event_free free]
    refine ⟨_, run, fun w => ?_⟩
    rw [closeGate_factors, windFactors_class]
  case write =>
    have run : exec (.limitWrite l 3 bytes) s = .next { s with
        chip := (Chip.settle s.chip (s.chip.writeSection (.wind es))).reply l 31 .ok .none } := by
      rw [show exec (.limitWrite l 3 bytes) s = s.act (Chip.request l 31 (ruleLimitWrite 3 bytes)) from rfl, State.act_eq,
        Chip.request_heard rfl heard, ruleLimitWrite_wind (tableGuard_open writable) read, Chip.react_taken]
    refine ⟨_, run, fun w => ?_⟩
    rw [Chip.reply_sense, writeWind_factors, windFactors_class]
  case stand =>
    intro changed
    by_contra other
    exact changed (commandStands_of_not_formsFactors other s t next)

end Sys2Proof.Proofs.WindFactors


/-! PROOF. HYD's operations as chains of single writes (R83 to R109): each operation is a chain of `WaterMove`s, so that what every
single write keeps, every operation keeps. `J` names the jets that may get a demand write, `I` the pumps whose intent or policy may
be written, and the flag says whether a start request may be left to join the queue. -/

namespace Sys2Proof.Proofs.Water

open Sys2Proof Sys2Proof.Machine

/-! ## The single writes -/

section Definitions

variable (c : Chip)

/-- A jet after a demand write: CLOSED at demand 0, settled against its pump otherwise (R107). -/
def jetWritten (owner : Owner) (demand : Nat) (burstEnd : Option Nat) (j : JetId) : Jet :=
  if demand = 0 then ⟨.closed, owner, 0, burstEnd, none, 0⟩
  else c.settleJet (c.pumpOf j)
    ⟨if (c.jets[j]).state = .opened then .opened else .waiting, owner, demand, burstEnd, none,
      if (c.jets[j]).state = .opened then (c.jets[j]).height else 0⟩

/-- The demand write itself, before the pump's run demand is evaluated again (R107). -/
def demandWritten (owner : Owner) (demand : Nat) (burstEnd : Option Nat) (j : JetId) : Chip :=
  Chip.wetFlush { c with jets := c.jets.set j (jetWritten c owner demand burstEnd j) }

/-- The grant itself: the entry leaves the queue, the grant enters the history, and the pump is PRIMING with its timers (R88). -/
def granted (e : StartEntry) : Chip :=
  (Chip.enterState { c.dequeue e.pump with history := lastEight (c.history ++ [c.now]) } e.pump .priming none).updPump e.pump
    fun r => { r with
      lastGrant := some c.now
      primeMinEnd := c.now + (c.limits.pumps[e.pump]).primeMin
      primeMaxEnd := c.now + (c.limits.pumps[e.pump]).primeMax
      runMinEnd := c.now + (c.limits.pumps[e.pump]).runMin * 1000 }

/-- The requests of the event join the back of the queue (R83). -/
def collected : Chip := { c with queue := c.queue ++ c.joining, joining := [] }

end Definitions

/-- The single writes of HYD, with what holds where the operations make them. -/
inductive WaterMove (J : JetId → Prop) (I : PumpId → Prop) : Bool → Chip → Chip → Prop
  | dequeue {b : Bool} (c : Chip) (p : PumpId) : WaterMove J I b c (c.dequeue p)
  | join (c : Chip) (p : PumpId) (r : Requester)
      (waits : (c.pumps[p]).state = .stopped ∨ (c.pumps[p]).state = .resting) (unqueued : c.queued p = false)
      (untripped : c.mode.mode ≠ .tripped) :
      WaterMove J I true c { c with joining := insertEntry ⟨p, r, c.now⟩ c.joining }
  | drive {b : Bool} (c : Chip) (p : PumpId) (f : Pump → Pump) (named : I p)
      (writes : f c.pumps[p] = { c.pumps[p] with intent := (f c.pumps[p]).intent, policy := (f c.pumps[p]).policy }) :
      WaterMove J I b c (c.updPump p f)
  | timers {b : Bool} (c : Chip) (p : PumpId) (f : Pump → Pump)
      (writes : f c.pumps[p] = { c.pumps[p] with
        stopPending := (f c.pumps[p]).stopPending, idleExpiry := (f c.pumps[p]).idleExpiry, restEnd := (f c.pumps[p]).restEnd })
      (down : (c.pumps[p]).state.up = false →
        ((f c.pumps[p]).stopPending = false ∨ (f c.pumps[p]).stopPending = (c.pumps[p]).stopPending) ∧
        ((f c.pumps[p]).idleExpiry = none ∨ (f c.pumps[p]).idleExpiry = (c.pumps[p]).idleExpiry)) :
      WaterMove J I b c (c.updPump p f)
  | enter {b : Bool} (c : Chip) (p : PumpId) (st : PumpState) (fault : Option PumpFault)
      (cause : fault.isSome ↔ st = .faulted) (ungranted : st ≠ .priming)
      (proven : st = .running → (c.pumps[p]).state = .priming)
      (unqueued : st = .stopped ∨ st = .resting ∨ c.queued p = false ∨ (c.pumps[p]).state = .priming) :
      WaterMove J I b c (c.enterState p st fault)
  | faultNotice {b : Bool} (c : Chip) : WaterMove J I b c (c.notify .pumpFault)
  | grant {b : Bool} (c : Chip) (e : StartEntry) (queued : e ∈ c.queue) (stopped : (c.pumps[e.pump]).state = .stopped) :
      WaterMove J I b c (granted c e)
  | count {b : Bool} (c : Chip) (p : PumpId) :
      WaterMove J I b c { c with circ := { c.circ with
        flush := c.circ.flush.map fun f => { f with started := f.started.set p true } } }
  | write {b : Bool} (c : Chip) (owner : Owner) (demand : Nat) (burstEnd : Option Nat) (j : JetId) (named : J j) :
      WaterMove J I b c (demandWritten c owner demand burstEnd j)

/-- Chains of single writes. A chain in which requests were left to join ends as one that leaves none where they are collected. -/
inductive WaterMoves (J : JetId → Prop) (I : PumpId → Prop) : Bool → Chip → Chip → Prop
  | refl {b : Bool} (c : Chip) : WaterMoves J I b c c
  | trans {b : Bool} {c d e : Chip} : WaterMoves J I b c d → WaterMoves J I b d e → WaterMoves J I b c e
  | move {b : Bool} {c d : Chip} : WaterMove J I b c d → WaterMoves J I b c d
  | collect {c d : Chip} : WaterMoves J I true c d → WaterMoves J I false c (collected d)
  | loose {c d : Chip} : WaterMoves J I false c d → WaterMoves J I true c d

namespace WaterMoves

variable {J : JetId → Prop} {I : PumpId → Prop} {b : Bool} {c d e : Chip}

/-- What every single write keeps, a chain keeps. -/
theorem keeps {P : Chip → Prop} (move : ∀ {b c d}, WaterMove J I b c d → P c → P d) (collect : ∀ {c}, P c → P (collected c))
    (h : WaterMoves J I b c d) : P c → P d := by
  induction h with
  | refl c => exact id
  | trans _ _ ih ik => exact ik ∘ ih
  | move m => exact move m
  | collect _ ih => exact collect ∘ ih
  | loose _ ih => exact ih

/-- A relation that is reflexive and transitive and holds across every single write holds across a chain. -/
theorem rel {R : Chip → Chip → Prop} (refl : ∀ c, R c c) (trans : ∀ {c d e}, R c d → R d e → R c e)
    (move : ∀ {b c d}, WaterMove J I b c d → R c d) (collect : ∀ c, R c (collected c)) (h : WaterMoves J I b c d) : R c d :=
  keeps (P := R c) (fun m k => trans k (move m)) (fun k => trans k (collect _)) h (refl c)

/-- A chain that leaves no request to join may stand where one may. -/
theorem loosen (h : WaterMoves J I false c d) : WaterMoves J I b c d := by
  cases b
  · exact h
  · exact .loose h

theorem ite {p : Prop} [Decidable p] (h : WaterMoves J I b c d) (k : WaterMoves J I b c e) :
    WaterMoves J I b c (if p then d else e) := by split <;> assumption

theorem forEach {α : Type} {ids : List α} {f : α → Chip → Chip} (h : ∀ a ∈ ids, ∀ d : Chip, WaterMoves J I b d (f a d)) :
    WaterMoves J I b c (Chip.forEach ids f c) :=
  Chip.forEach_rel ids .refl (fun _ _ _ => .trans) h

/-- More jets and pumps may be written. -/
theorem mono {J' : JetId → Prop} {I' : PumpId → Prop} (hJ : ∀ j, J j → J' j) (hI : ∀ p, I p → I' p)
    (h : WaterMoves J I b c d) : WaterMoves J' I' b c d := by
  induction h with
  | refl c => exact .refl c
  | trans _ _ ih ik => exact ih.trans ik
  | collect _ ih => exact ih.collect
  | loose _ ih => exact ih.loose
  | move m =>
    refine .move ?_
    cases m with
    | dequeue _ p => exact .dequeue _ p
    | join _ p r waits unqueued untripped => exact .join _ p r waits unqueued untripped
    | drive _ p f named writes => exact .drive _ p f (hI p named) writes
    | timers _ p f writes down => exact .timers _ p f writes down
    | enter _ p st fault cause ungranted proven unqueued => exact .enter _ p st fault cause ungranted proven unqueued
    | faultNotice => exact .faultNotice _
    | grant _ e queued stopped => exact .grant _ e queued stopped
    | count _ p => exact .count _ p
    | write _ owner demand burstEnd j named => exact .write _ owner demand burstEnd j (hJ j named)

end WaterMoves

/-! ## The operations of HYD are chains -/

section Operations

variable {J : JetId → Prop} {I : PumpId → Prop} {b : Bool} (c : Chip)

theorem dequeue_unqueued (p : PumpId) : (c.dequeue p).queued p = false := by
  simp [Chip.queued, Chip.dequeue]

/-- A start request joins for a pump that waits, or does nothing. -/
theorem startRequest_moves (p : PumpId) (r : Requester) : WaterMoves J I true c (c.startRequest p r) := by
  unfold Chip.startRequest
  split
  · exact .refl c
  next untripped =>
    have joined (waits : (c.pumps[p]).state = .stopped ∨ (c.pumps[p]).state = .resting) : WaterMoves J I true c
        (if c.queued p then c else { c with joining := insertEntry ⟨p, r, c.now⟩ c.joining }) := by
      split
      · exact .refl c
      next unqueued => exact .move (.join c p r waits (Bool.eq_false_iff.mpr unqueued) untripped)
    split
    next stopped => exact joined (.inl stopped)
    next resting => exact joined (.inr resting)
    all_goals exact .refl c

theorem enterFaulted_moves (p : PumpId) (cause : PumpFault) : WaterMoves J I b c (c.enterFaulted p cause) :=
  .trans (.trans (.move (.dequeue c p)) (.move (.enter _ p .faulted (some cause) (by simp) nofun nofun
    (.inr (.inr (.inl (dequeue_unqueued c p))))))) (.move (.faultNotice _))

theorem watchDrive_moves (p : PumpId) : WaterMoves J I b c (c.watchDrive p) := by
  have watched : WaterMoves J I b c (if c.lines.drvOk[p] then c else c.enterFaulted p .drive) :=
    .ite (.refl c) (enterFaulted_moves c p _)
  unfold Chip.watchDrive
  split
  exacts [watched, watched, watched, watched, .refl c, .refl c]

theorem setRestEnd_moves (p : PumpId) (t : Nat) : WaterMoves J I b c (c.updPump p fun r => { r with restEnd := t }) :=
  .move (.timers c p _ rfl fun _ => ⟨.inr rfl, .inr rfl⟩)

theorem enterResting_moves (p : PumpId) : WaterMoves J I b c (c.enterResting p) :=
  .trans (.trans (.move (.enter c p .resting none (by decide) nofun nofun (.inr (.inl rfl)))) (setRestEnd_moves _ p _))
    (watchDrive_moves _ p)

theorem enterStopped_moves (p : PumpId) : WaterMoves J I true c (c.enterStopped p) := by
  have stopped : WaterMoves J I true c ((c.enterState p .stopped none).watchDrive p) :=
    .trans (.move (.enter c p .stopped none (by decide) nofun nofun (.inl rfl))) (watchDrive_moves _ p)
  unfold Chip.enterStopped
  exact .ite (stopped.trans (startRequest_moves _ p _)) stopped

/-- The pump's timers lose the idle expiry, as at every stop request. -/
theorem clearIdle_moves (p : PumpId) : WaterMoves J I b c (c.updPump p fun r => { r with idleExpiry := none }) :=
  .move (.timers c p _ rfl fun _ => ⟨.inr rfl, .inl rfl⟩)

theorem stopRequest_moves (p : PumpId) : WaterMoves J I b c (c.stopRequest p) := by
  have cleared := clearIdle_moves (J := J) (I := I) (b := b) c p
  have dequeued := cleared.trans (.move (.dequeue _ p))
  have pending (up : (c.pumps[p]).state.up = true) : WaterMoves J I b c
      ((c.updPump p fun r => { r with idleExpiry := none }).updPump p fun r => { r with stopPending := true }) :=
    cleared.trans (.move (.timers _ p _ rfl fun down => by simp_all))
  unfold Chip.stopRequest
  dsimp only
  split
  next => exact dequeued
  next => exact dequeued
  next priming => exact pending (by rw [priming]; rfl)
  next running => exact .ite (cleared.trans (enterResting_moves _ p)) (pending (by rw [running]; rfl))
  next => exact cleared
  next => exact cleared

theorem enterRunning_moves (p : PumpId) (priming : (c.pumps[p]).state = .priming) : WaterMoves J I b c (c.enterRunning p) := by
  have running : WaterMoves J I b c (c.enterState p .running none) :=
    .move (.enter c p .running none (by decide) nofun (fun _ => priming) (.inr (.inr (.inr priming))))
  unfold Chip.enterRunning
  exact .ite (running.trans (enterResting_moves _ p)) running

theorem demandAppears_moves (p : PumpId) (r : Requester) : WaterMoves J I true c (c.demandAppears p r) := by
  have kept : WaterMoves J I true c (c.updPump p fun q => { q with stopPending := false, idleExpiry := none }) :=
    .move (.timers c p _ rfl fun _ => ⟨.inl rfl, .inl rfl⟩)
  unfold Chip.demandAppears
  split
  exacts [startRequest_moves c p r, startRequest_moves c p r, kept, kept, .refl c, .refl c]

theorem idleOut_moves (p : PumpId) : WaterMoves J I b c (c.idleOut p) := by
  unfold Chip.idleOut
  split
  next up =>
    exact .ite (.refl c) (.ite (stopRequest_moves c p) (.move (.timers c p _ rfl fun down => absurd (up.symm.trans down) nofun)))
  next => exact stopRequest_moves c p

theorem demandLost_moves (p : PumpId) (was : Owner) : WaterMoves J I b c (c.demandLost p was) :=
  .ite (.ite (.refl c) (.ite (idleOut_moves c p) (stopRequest_moves c p))) (idleOut_moves c p)

theorem stopUnlessDemanded_moves (p : PumpId) : WaterMoves J I b c (c.stopUnlessDemanded p) :=
  .ite (.refl c) (stopRequest_moves c p)

section Pumps

variable {c} {p : PumpId} (named : I p)
include named

theorem intentRun_moves (r : Requester) : WaterMoves J I true c (c.intentRun p r) := by
  have written : WaterMoves J I true c (c.updPump p fun q => { q with intent := .run }) := .move (.drive c p _ named rfl)
  unfold Chip.intentRun
  exact .trans (.ite written (written.trans (demandAppears_moves _ p r))) (startRequest_moves _ p r)

theorem intentStop_moves : WaterMoves J I b c (c.intentStop p) :=
  .trans (.move (.drive c p _ named rfl)) (stopUnlessDemanded_moves _ p)

theorem setPolicy_moves (policy : Policy) : WaterMoves J I true c (c.setPolicy p policy) := by
  have written : WaterMoves J I true c (c.updPump p fun q => { q with policy := policy }) := .move (.drive c p _ named rfl)
  exact .ite (.ite written (written.trans (demandAppears_moves _ p _)))
    (.ite (written.trans (stopRequest_moves _ p)) written)

theorem handDrive_moves (intent : Intent) (policy : Policy) (atOnce : Bool) :
    WaterMoves J I true c (c.handDrive p intent policy atOnce) := by
  have written : WaterMoves J I true c (c.updPump p fun q => { q with intent := intent, policy := policy }) :=
    .move (.drive c p _ named rfl)
  exact .ite (.trans (.ite written (written.trans (demandAppears_moves _ p _))) (startRequest_moves _ p _))
    (.ite (written.trans (stopRequest_moves _ p)) written)

theorem drive_moves (act : PumpAction) : WaterMoves J I true c (c.drive act p) := by
  unfold Chip.drive
  split
  exacts [intentRun_moves named _, intentStop_moves named, setPolicy_moves named _, setPolicy_moves named _]

end Pumps

/-- A demand write is its write, and what the pump's run demand, evaluated again, then asks for. -/
theorem demandWrite_eq (owner : Owner) (demand : Nat) (burstEnd : Option Nat) (j : JetId) :
    c.demandWrite owner demand burstEnd j =
      if (demandWritten c owner demand burstEnd j).hasRunDemand (c.pumpOf j) then
        if c.hasRunDemand (c.pumpOf j) then demandWritten c owner demand burstEnd j
        else (demandWritten c owner demand burstEnd j).demandAppears (c.pumpOf j) (if owner = .flush then .flush else .follow)
      else if c.hasRunDemand (c.pumpOf j) then
        (demandWritten c owner demand burstEnd j).demandLost (c.pumpOf j) (c.jets[j]).owner
      else demandWritten c owner demand burstEnd j := rfl

theorem demandWrite_moves (owner : Owner) (demand : Nat) (burstEnd : Option Nat) {j : JetId} (named : J j) :
    WaterMoves J I true c (c.demandWrite owner demand burstEnd j) := by
  have written : WaterMoves J I true c (demandWritten c owner demand burstEnd j) := .move (.write c owner demand burstEnd j named)
  rw [demandWrite_eq]
  exact .ite (.ite written (written.trans (demandAppears_moves _ _ _)))
    (.ite (written.trans (demandLost_moves _ _ _)) written)

theorem demandWrites_moves {js : List JetId} (owner : Owner) (demand : Nat) (named : ∀ j ∈ js, J j) :
    WaterMoves J I true c (c.demandWrites js owner demand) :=
  .forEach fun j hj d => demandWrite_moves d owner demand none (named j hj)

/-! ### The arbiter -/

theorem countStarted_moves (e : StartEntry) : WaterMoves J I b c (c.countStarted e) :=
  .ite (.move (.count c e.pump)) (.refl c)

/-- A grant is the grant itself, CIR's count of it, and the watch on the drive. -/
theorem grant_eq (e : StartEntry) : c.grant e = ((granted c e).countStarted e).watchDrive e.pump := rfl

theorem grant_moves {e : StartEntry} (h : c.grantable = some e) : WaterMoves J I b c (c.grant e) := by
  obtain ⟨queued, eligible, -⟩ := Chip.grantable_mem c h
  have stopped : (c.pumps[e.pump]).state = .stopped := by
    rw [Chip.eligible, Bool.and_eq_true, decide_eq_true_eq] at eligible
    exact eligible.1
  rw [grant_eq]
  exact .trans (.trans (.move (.grant c e queued stopped)) (countStarted_moves _ e)) (watchDrive_moves _ _)

theorem grants_moves (fuel : Nat) : WaterMoves J I b c (Chip.grants fuel c) := by
  induction fuel generalizing c with
  | zero => exact .refl c
  | succ n ih =>
    unfold Chip.grants
    split
    next e grantable => exact (grant_moves c grantable).trans (ih _)
    next => exact .refl c

theorem testQueue_moves : WaterMoves J I b c c.testQueue := grants_moves c _

/-- What the event left to join is collected at its end. -/
theorem endEvent_moves {c d : Chip} (h : WaterMoves J I true c d) : WaterMoves J I b c d.endEvent :=
  .loosen (h.collect.trans (testQueue_moves _))

end Operations

/-! ## What the single writes do to the pumps -/

section Pumps

variable (c : Chip)

/-- The pump record that entry into a state leaves (R93, R95, R101). -/
def entered (c : Chip) (p : PumpId) (st : PumpState) (fault : Option PumpFault) : Pump :=
  { c.pumps[p] with
    state := st
    stateEntry := c.now
    faultCause := fault
    setpoint := if st = .priming then c.sMinInForce[p] else if st = .running then (c.pumps[p]).setpoint else 0
    idleExpiry := if st.up then (c.pumps[p]).idleExpiry else none
    stopPending := if st = .running then (c.pumps[p]).stopPending else false }

theorem enterState_pump (p q : PumpId) (st : PumpState) (fault : Option PumpFault) :
    (c.enterState p st fault).pumps[q] = if q = p then entered c p st fault else c.pumps[q] := by
  simp [Chip.enterState, entered]

/-- The pump record that a grant leaves (R88). -/
def primed (c : Chip) (p : PumpId) : Pump :=
  { entered c p .priming none with
    lastGrant := some c.now
    primeMinEnd := c.now + (c.limits.pumps[p]).primeMin
    primeMaxEnd := c.now + (c.limits.pumps[p]).primeMax
    runMinEnd := c.now + (c.limits.pumps[p]).runMin * 1000 }

theorem granted_pump (e : StartEntry) (q : PumpId) :
    (granted c e).pumps[q] = if q = e.pump then primed c e.pump else c.pumps[q] := by
  simp [granted, Chip.enterState, primed, entered, Chip.dequeue]
  split <;> rfl

@[simp] theorem demandWritten_pumps (owner : Owner) (demand : Nat) (burstEnd : Option Nat) (j : JetId) :
    (demandWritten c owner demand burstEnd j).pumps = c.pumps := by simp [demandWritten]

@[simp] theorem demandWritten_jet (owner : Owner) (demand : Nat) (burstEnd : Option Nat) (j k : JetId) :
    (demandWritten c owner demand burstEnd j).jets[k] =
      if k = j then jetWritten c owner demand burstEnd j else c.jets[k] := by
  simp only [demandWritten, Chip.wetFlush_jets, Fin.getElem_fin, Vector.getElem_set, Fin.ext_iff, eq_comm]

end Pumps

end Sys2Proof.Proofs.Water


/-! PROOF. What every single write of HYD keeps, and so every chain of them: the jets in the state of their pumps, the shape of
the start queue, the pump records (R82 to R109), and the notice sets and the flush record but for its dry time. -/

namespace Sys2Proof.Proofs.Water

open Sys2Proof Sys2Proof.Machine

variable {J : JetId → Prop} {I : PumpId → Prop} {b : Bool} {c d : Chip}

/-! ## A demand write of 0 asks for no start -/

/-- A jet that gets demand 0 wants nothing, so no pump gains run demand by it (R82). -/
theorem hasRunDemand_of_written_zero (c : Chip) (owner : Owner) (burstEnd : Option Nat) (j : JetId) (p : PumpId)
    (h : (demandWritten c owner 0 burstEnd j).hasRunDemand p = true) : c.hasRunDemand p = true := by
  have limits : (demandWritten c owner 0 burstEnd j).jetsOf p = c.jetsOf p := by
    have water : c.WaterOnly (demandWritten c owner 0 burstEnd j) :=
      (Chip.jets_water c _).trans (Chip.wetFlush_water _)
    simp only [Chip.jetsOf, water.pumpOf]
  have wants (k : JetId) (f : Jet → Bool) (zero : f (jetWritten c owner 0 burstEnd j) = false)
      (wanting : f (demandWritten c owner 0 burstEnd j).jets[k] = true) : f c.jets[k] = true := by
    rw [demandWritten_jet] at wanting
    split at wanting <;> simp_all
  simp only [Chip.hasRunDemand, Chip.flushUses, demandWritten_pumps, limits, Bool.or_eq_true, Bool.and_eq_true,
    List.any_eq_true] at h ⊢
  rcases h with (run | ⟨follow, k, hk, wanting⟩) | ⟨k, hk, wanting⟩
  · exact .inl (.inl run)
  · exact .inl (.inr ⟨follow, k, hk, wants k Jet.wants (by simp [jetWritten, Jet.wants]) wanting⟩)
  · exact .inr ⟨k, hk, wants k Jet.wantsFlush (by simp [jetWritten, Jet.wantsFlush]) wanting⟩

theorem demandWrite_zero_moves (c : Chip) (owner : Owner) (burstEnd : Option Nat) {j : JetId} (named : J j) :
    WaterMoves J I b c (c.demandWrite owner 0 burstEnd j) := by
  have written : WaterMoves J I b c (demandWritten c owner 0 burstEnd j) := .move (.write c owner 0 burstEnd j named)
  rw [demandWrite_eq]
  split
  next demand =>
    rw [if_pos (hasRunDemand_of_written_zero c owner burstEnd j _ demand)]
    exact written
  next => exact .ite (written.trans (demandLost_moves _ _ _)) written

theorem demandWrites_zero_moves (c : Chip) {js : List JetId} (owner : Owner) (named : ∀ j ∈ js, J j) :
    WaterMoves J I b c (c.demandWrites js owner 0) :=
  .forEach fun j hj d => demandWrite_zero_moves d owner none (named j hj)

/-! ## The jets follow their pumps -/

/-- The state, wait cause and height that fit a jet to a pump in state `st`, where `wait` is the first cause of R108 that holds. -/
def JetFits (st : PumpState) (wait : WaitCause) (j : Jet) : Prop :=
  j.state = (if j.demand = 0 then .closed else if st = .running then .opened else .waiting) ∧
    j.waitCause = (if j.state = .waiting then some wait else none) ∧ (j.state ≠ .opened → j.height = 0)

/-- The state of a pump. -/
def stateOf (c : Chip) (p : PumpId) : PumpState := (c.pumps[p]).state

/-- The jet fits its pump as the part stands. -/
def FitsOn (c : Chip) (p : PumpId) (j : Jet) : Prop := JetFits (stateOf c p) (c.waitCauseOn p) j

theorem jetsFollow_iff : c.jetsFollow ↔ ∀ j : JetId, FitsOn c (c.pumpOf j) c.jets[j] := Iff.rfl

/-- A jet CLOSED as its demand 0 asks, without wait cause and height, fits a pump in any state. -/
theorem jetFits_of_closed {st st' : PumpState} {wait wait' : WaitCause} {j : Jet} (h : JetFits st wait j) (closed : j.state = .closed) :
    JetFits st' wait' j := by
  obtain ⟨state, cause, height⟩ := h
  rw [closed] at state cause height
  refine ⟨?_, by simpa [closed] using cause, fun _ => height nofun⟩
  rw [closed]
  split_ifs at state ⊢
  simp_all

/-- Settling fits a jet to its pump, where only a CLOSED jet has demand 0. -/
theorem settleJet_fits (p : PumpId) {j : Jet} (closed : j.state = .closed → FitsOn c p j)
    (demand : j.state ≠ .closed → j.demand ≠ 0) : FitsOn c p (c.settleJet p j) := by
  unfold Chip.settleJet
  split
  next is_closed => exact closed is_closed
  next not_closed =>
    split
    next running => exact ⟨by simp only [stateOf, running, demand not_closed, if_false, if_true], rfl, fun h => absurd rfl h⟩
    next other => exact ⟨by simp only [stateOf, other, demand not_closed, if_false], rfl, fun _ => rfl⟩

theorem settleJet_fits_of_fits (p : PumpId) {j : Jet} {st : PumpState} {wait : WaitCause} (h : JetFits st wait j) :
    FitsOn c p (c.settleJet p j) :=
  settleJet_fits p (jetFits_of_closed h) fun not_closed zero => not_closed (by rw [h.1, if_pos zero])

theorem jetWritten_fits (owner : Owner) (demand : Nat) (burstEnd : Option Nat) (j : JetId) :
    FitsOn c (c.pumpOf j) (jetWritten c owner demand burstEnd j) := by
  unfold jetWritten
  split
  · exact ⟨rfl, rfl, fun _ => rfl⟩
  next some_demand =>
    refine settleJet_fits _ (fun closed => ?_) fun _ => some_demand
    dsimp only at closed
    split at closed <;> cases closed

/-- Whether a jet fits depends on its pump's state and on the power. -/
theorem fitsOn_congr {p : PumpId} {j : Jet} (state : stateOf d p = stateOf c p) (power : d.mode.power = c.mode.power) :
    FitsOn d p j ↔ FitsOn c p j := by
  have wait : d.waitCauseOn p = c.waitCauseOn p := by
    unfold stateOf at state
    simp only [Chip.waitCauseOn, state, power]
  rw [FitsOn, FitsOn, state, wait]

/-- Where the pump states and the power stand, jets that fit still fit. -/
theorem jetsFollow_of_same (h : c.jetsFollow) (limits : d.limits.jets = c.limits.jets) (power : d.mode.power = c.mode.power)
    (pumps : ∀ p : PumpId, stateOf d p = stateOf c p) (jets : d.jets = c.jets) : d.jetsFollow := by
  refine jetsFollow_iff.mpr fun j => ?_
  have same : d.pumpOf j = c.pumpOf j := by simp only [Chip.pumpOf, limits]
  rw [jets, same, fitsOn_congr (pumps _) power]
  exact jetsFollow_iff.mp h j

theorem stateOf_updPump (c : Chip) (p q : PumpId) (f : Pump → Pump) :
    stateOf (c.updPump p f) q = if q = p then (f c.pumps[p]).state else stateOf c q := by
  simp only [stateOf, Fin.getElem_fin, Chip.updPump_pump]
  split <;> rfl

theorem updPump_follow (h : c.jetsFollow) (p : PumpId) (f : Pump → Pump) (state : (f c.pumps[p]).state = stateOf c p) :
    (c.updPump p f).jetsFollow :=
  jetsFollow_of_same h rfl rfl (fun q => by
    rw [stateOf_updPump]
    split
    next e => rw [e, state]
    next => rfl) rfl

theorem followPump_jet (c : Chip) (p : PumpId) (j : JetId) :
    (c.followPump p).jets[j] = if c.pumpOf j = p then c.settleJet p c.jets[j] else c.jets[j] := by
  simp [Chip.followPump]

theorem followPump_pumpOf (c : Chip) (p : PumpId) (j : JetId) : (c.followPump p).pumpOf j = c.pumpOf j :=
  (Chip.followPump_water c p).pumpOf j

theorem followPump_fitsOn (c : Chip) (p q : PumpId) (j : Jet) : FitsOn (c.followPump p) q j ↔ FitsOn c q j :=
  fitsOn_congr (by rw [stateOf, Chip.followPump_pumps]; rfl) (by rw [(Chip.followPump_water c p).mode])

/-- Once its jets are settled against a pump in its new state, all jets fit again. -/
theorem followPump_follow {p : PumpId} (others : ∀ j : JetId, c.pumpOf j ≠ p → FitsOn c (c.pumpOf j) c.jets[j])
    (own : ∀ j : JetId, c.pumpOf j = p → ∃ st wait, JetFits st wait c.jets[j]) : (c.followPump p).jetsFollow := by
  refine jetsFollow_iff.mpr fun j => ?_
  rw [followPump_pumpOf, followPump_fitsOn, followPump_jet]
  split
  next e =>
    obtain ⟨st, wait, fits⟩ := own j e
    rw [e]
    exact settleJet_fits_of_fits p fits
  next e => exact others j e

/-- A pump record rewritten, and the pump's jets settled against it. -/
theorem updPump_followPump_follow (h : c.jetsFollow) (p : PumpId) (f : Pump → Pump) :
    ((c.updPump p f).followPump p).jetsFollow := by
  have fits := jetsFollow_iff.mp h
  refine followPump_follow (fun j e => ?_) fun j _ => ⟨_, _, fits j⟩
  have other : c.pumpOf j ≠ p := e
  have same : stateOf (c.updPump p f) (c.pumpOf j) = stateOf c (c.pumpOf j) := by rw [stateOf_updPump, if_neg other]
  exact (fitsOn_congr same rfl).mpr (fits j)

theorem enterState_follow (h : c.jetsFollow) (p : PumpId) (st : PumpState) (fault : Option PumpFault) :
    (c.enterState p st fault).jetsFollow := updPump_followPump_follow h p _

theorem wetFlush_follow (h : c.jetsFollow) : c.wetFlush.jetsFollow :=
  jetsFollow_of_same h (by rw [(Chip.wetFlush_water c).limits]) (by rw [(Chip.wetFlush_water c).mode])
    (fun p => by rw [stateOf, Chip.wetFlush_pumps, stateOf]) (Chip.wetFlush_jets c)

/-- Writing one jet that fits keeps the jets fitting. -/
theorem setJet_follow (h : c.jetsFollow) (j : JetId) {x : Jet} (fits : FitsOn c (c.pumpOf j) x) :
    Chip.jetsFollow { c with jets := c.jets.set j x } := by
  refine jetsFollow_iff.mpr fun k => (fitsOn_congr (c := c) rfl rfl).mpr ?_
  show FitsOn c (c.pumpOf k) (c.jets.set j x)[k]
  by_cases e : k = j
  · subst e
    simpa using fits
  · have ne : (j : Nat) ≠ k := fun h => e (Fin.ext h.symm)
    simpa [Vector.getElem_set_ne, ne] using jetsFollow_iff.mp h k

theorem demandWritten_follow (h : c.jetsFollow) (owner : Owner) (demand : Nat) (burstEnd : Option Nat) (j : JetId) :
    (demandWritten c owner demand burstEnd j).jetsFollow :=
  wetFlush_follow (setJet_follow h j (jetWritten_fits owner demand burstEnd j))

theorem granted_follow (h : c.jetsFollow) (e : StartEntry) : (granted c e).jetsFollow := by
  unfold granted
  have left : Chip.jetsFollow { c.dequeue e.pump with history := lastEight (c.history ++ [c.now]) } :=
    jetsFollow_of_same h rfl rfl (fun _ => rfl) rfl
  have primed := enterState_follow left e.pump .priming none
  generalize Chip.enterState _ e.pump .priming none = d at primed ⊢
  exact updPump_follow primed e.pump _ rfl

theorem waterMove_follow (h : WaterMove J I b c d) (k : c.jetsFollow) : d.jetsFollow := by
  cases h with
  | dequeue | join | faultNotice | count => exact jetsFollow_of_same k rfl rfl (fun _ => rfl) rfl
  | drive _ p f named writes => exact updPump_follow k p f (by rw [writes]; rfl)
  | timers _ p f writes down => exact updPump_follow k p f (by rw [writes]; rfl)
  | enter _ p st fault => exact enterState_follow k p st fault
  | grant _ e => exact granted_follow k e
  | write _ owner demand burstEnd j => exact demandWritten_follow k owner demand burstEnd j

theorem waterMoves_follow (h : WaterMoves J I b c d) : c.jetsFollow → d.jetsFollow :=
  h.keeps waterMove_follow fun k => jetsFollow_of_same k rfl rfl (fun _ => rfl) rfl

end Sys2Proof.Proofs.Water


namespace Sys2Proof.Proofs.Water

open Sys2Proof Sys2Proof.Machine

variable {J : JetId → Prop} {I : PumpId → Prop} {b : Bool} {c d : Chip}

/-! ## The start queue -/

/-- The pump waits out of PRIMING and RUNNING, in service and without a fault. -/
def Waits (c : Chip) (p : PumpId) : Prop := stateOf c p = .stopped ∨ stateOf c p = .resting

/-- The entries of the queue and of the requests that are to join it: one for each pump at most, and each for a pump that waits. -/
structure QueueFits (c : Chip) : Prop where
  once : ((c.queue ++ c.joining).map StartEntry.pump).Nodup
  waits : ∀ e ∈ c.queue ++ c.joining, Waits c e.pump
  history : c.history.length ≤ 8

theorem queueKept_iff : c.queueKept ↔ c.joining = [] ∧ QueueFits c := by
  constructor
  · rintro ⟨joined, once, waits, history⟩
    exact ⟨joined, by simpa [joined] using once, by rw [joined, List.append_nil]; exact waits, history⟩
  · rintro ⟨joined, once, waits, history⟩
    rw [joined, List.append_nil] at once waits
    exact ⟨joined, once, waits, history⟩

theorem queued_eq_false_iff {p : PumpId} : c.queued p = false ↔ ∀ e ∈ c.queue ++ c.joining, e.pump ≠ p := by
  simp only [Chip.queued, List.any_eq_false, decide_eq_true_eq]

theorem insertEntry_perm (e : StartEntry) (xs : List StartEntry) : (insertEntry e xs).Perm (e :: xs) := by
  induction xs with
  | nil => exact .refl _
  | cons x xs ih =>
    unfold insertEntry
    split
    · exact .refl _
    · exact (ih.cons x).trans (.swap e x xs)

/-- The queue fits where its entries are some of those that stood, the pumps that wait still do, and the history is no longer. -/
theorem QueueFits.of_sublist (h : QueueFits c) (entries : List.Sublist (d.queue ++ d.joining) (c.queue ++ c.joining))
    (waits : ∀ e ∈ d.queue ++ d.joining, Waits c e.pump → Waits d e.pump) (history : d.history.length ≤ 8) : QueueFits d where
  once := h.once.sublist (entries.map _)
  waits e he := waits e he (h.waits e (entries.subset he))
  history := history

theorem waits_of_state {p : PumpId} (state : stateOf d p = stateOf c p) : Waits c p → Waits d p := by
  rw [Waits, Waits, state]
  exact id

theorem QueueFits.of_same (h : QueueFits c) (queue : d.queue = c.queue) (joining : d.joining = c.joining)
    (history : d.history = c.history) (states : ∀ p, stateOf d p = stateOf c p) : QueueFits d :=
  h.of_sublist (by rw [queue, joining]) (fun _ _ => waits_of_state (states _)) (by rw [history]; exact h.history)

theorem dequeue_sublist (c : Chip) (p : PumpId) :
    List.Sublist ((c.dequeue p).queue ++ (c.dequeue p).joining) (c.queue ++ c.joining) :=
  List.Sublist.append (List.filter_sublist) (List.filter_sublist)

theorem join_fits (h : QueueFits c) {p : PumpId} (r : Requester) (waits : Waits c p) (unqueued : c.queued p = false) :
    QueueFits { c with joining := insertEntry ⟨p, r, c.now⟩ c.joining } := by
  have perm : (c.queue ++ insertEntry ⟨p, r, c.now⟩ c.joining).Perm (⟨p, r, c.now⟩ :: (c.queue ++ c.joining)) :=
    ((insertEntry_perm _ _).append_left _).trans List.perm_middle
  refine ⟨?_, fun e he => ?_, h.history⟩
  · rw [List.Perm.nodup_iff (perm.map _), List.map_cons, List.nodup_cons]
    refine ⟨fun mem => ?_, h.once⟩
    obtain ⟨e, he, same⟩ := List.mem_map.mp mem
    exact queued_eq_false_iff.mp unqueued e he same
  · rcases List.mem_cons.mp (perm.subset he) with rfl | old
    · exact waits
    · exact h.waits e old

@[simp] theorem wetFlush_history (c : Chip) : c.wetFlush.history = c.history := by unfold Chip.wetFlush; split <;> rfl

theorem enterState_history (c : Chip) (p : PumpId) (st : PumpState) (fault : Option PumpFault) :
    (c.enterState p st fault).history = c.history := by
  rw [Chip.enterState, Chip.followPump, wetFlush_history]
  rfl

theorem stateOf_enterState (c : Chip) (p q : PumpId) (st : PumpState) (fault : Option PumpFault) :
    stateOf (c.enterState p st fault) q = if q = p then st else stateOf c q := by
  rw [stateOf, enterState_pump]
  split <;> rfl

/-- Entry into a state keeps the queue where the state is a waiting one or the pump is not queued. -/
theorem enterState_fits (h : QueueFits c) (p : PumpId) (st : PumpState) (fault : Option PumpFault)
    (unqueued : st = .stopped ∨ st = .resting ∨ c.queued p = false) : QueueFits (c.enterState p st fault) := by
  have queue : (c.enterState p st fault).queue = c.queue := by simp [Chip.enterState]
  have joining : (c.enterState p st fault).joining = c.joining := by simp [Chip.enterState]
  have history : (c.enterState p st fault).history = c.history := enterState_history c p st fault
  refine h.of_sublist (by rw [queue, joining]) (fun e he waits => ?_) (by rw [history]; exact h.history)
  rw [queue, joining] at he
  rw [Waits, stateOf_enterState]
  split
  next same =>
    rcases unqueued with stopped | resting | unqueued
    · exact .inl stopped
    · exact .inr resting
    · exact absurd same (queued_eq_false_iff.mp unqueued e he)
  next => exact waits

/-- A pump that is PRIMING has no entry. -/
theorem QueueFits.unqueued (h : QueueFits c) {p : PumpId} (priming : stateOf c p = .priming) : c.queued p = false :=
  queued_eq_false_iff.mpr fun e he same => by
    rcases h.waits e he with waits | waits <;> rw [same, priming] at waits <;> cases waits

theorem granted_fits (h : QueueFits c) (e : StartEntry) : QueueFits (granted c e) := by
  have left : QueueFits { c.dequeue e.pump with history := lastEight (c.history ++ [c.now]) } :=
    h.of_sublist (dequeue_sublist c e.pump) (fun _ _ => id) (by simp only [lastEight, List.length_drop]; omega)
  have primed := enterState_fits left e.pump .priming none (.inr (.inr (dequeue_unqueued c e.pump)))
  unfold granted
  generalize Chip.enterState _ e.pump .priming none = d at primed ⊢
  exact primed.of_same rfl rfl rfl fun q => by
    rw [stateOf_updPump]
    split
    next same => rw [same]; rfl
    next => rfl

theorem stateOf_updPump_same (p : PumpId) {f : Pump → Pump} (state : (f c.pumps[p]).state = stateOf c p) (q : PumpId) :
    stateOf (c.updPump p f) q = stateOf c q := by
  rw [stateOf_updPump]
  split
  next same => rw [same, state]
  next => rfl

theorem waterMove_fits (h : WaterMove J I b c d) (k : QueueFits c) : QueueFits d := by
  cases h with
  | dequeue _ p => exact k.of_sublist (dequeue_sublist c p) (fun _ _ => id) k.history
  | join _ p r waits unqueued => exact join_fits k r waits unqueued
  | drive _ p f named writes => exact k.of_same rfl rfl rfl (stateOf_updPump_same p (by rw [writes]; rfl))
  | timers _ p f writes down => exact k.of_same rfl rfl rfl (stateOf_updPump_same p (by rw [writes]; rfl))
  | enter _ p st fault cause ungranted proven unqueued =>
    refine enterState_fits k p st fault ?_
    rcases unqueued with stopped | resting | unqueued | priming
    exacts [.inl stopped, .inr (.inl resting), .inr (.inr unqueued), .inr (.inr (k.unqueued priming))]
  | faultNotice | count => exact k.of_same rfl rfl rfl fun _ => rfl
  | grant _ e => exact granted_fits k e
  | write _ owner demand burstEnd j =>
    exact k.of_same (by simp [demandWritten]) (by simp [demandWritten]) (by simp [demandWritten]) fun q => by
      simp only [stateOf, demandWritten_pumps]

theorem waterMoves_fits (h : WaterMoves J I b c d) : QueueFits c → QueueFits d :=
  h.keeps waterMove_fits fun k => k.of_sublist (by simp [collected]) (fun _ _ => id) k.history

/-- An event leaves no request that has not joined. -/
theorem waterMoves_joined (h : WaterMoves J I b c d) (quiet : b = false) (joined : c.joining = []) : d.joining = [] := by
  induction h with
  | refl => exact joined
  | trans _ _ ih ik => exact ik quiet (ih quiet joined)
  | collect _ => rfl
  | loose => cases quiet
  | move m =>
    cases m with
    | join => cases quiet
    | dequeue => simp [Chip.dequeue, joined]
    | enter => simpa [Chip.enterState] using joined
    | grant => simp [granted, Chip.enterState, Chip.dequeue, joined]
    | write => simpa [demandWritten] using joined
    | drive | timers | faultNotice | count => exact joined

/-! ## The pump records -/

/-- A pump record as `pumpsKept` asks of it, where `sMin` is the pump's S_min in force. -/
def RecordFits (sMin : Nat) (q : Pump) : Prop :=
  (q.state.up = false → q.setpoint = 0 ∧ q.idleExpiry = none ∧ q.stopPending = false) ∧
    (q.state = .priming → q.setpoint = sMin) ∧ (q.state.up = true → q.lastGrant.isSome) ∧
    (q.faultCause.isSome ↔ q.state = .faulted)

theorem pumpsKept_iff : c.pumpsKept ↔ ∀ p : PumpId, RecordFits c.sMinInForce[p] c.pumps[p] := Iff.rfl

theorem pumpsKept_of_same (h : c.pumpsKept) (sMin : d.sMinInForce = c.sMinInForce) (pumps : d.pumps = c.pumps) : d.pumpsKept := by
  rw [pumpsKept_iff] at *
  rw [sMin, pumps]
  exact h

theorem updPump_kept (h : c.pumpsKept) (p : PumpId) {f : Pump → Pump} (own : RecordFits c.sMinInForce[p] (f c.pumps[p])) :
    (c.updPump p f).pumpsKept := by
  rw [pumpsKept_iff] at *
  intro q
  simp only [Fin.getElem_fin, Chip.updPump_pump, Chip.updPump_sMinInForce]
  split
  next same => subst same; exact own
  next => exact h q

/-- The record that entry into a state leaves fits, where a pump enters RUNNING from PRIMING alone and PRIMING by a grant alone. -/
theorem entered_fits (h : RecordFits c.sMinInForce[p] c.pumps[p]) (st : PumpState) (fault : Option PumpFault)
    (cause : fault.isSome ↔ st = .faulted) (ungranted : st ≠ .priming)
    (proven : st = .running → (c.pumps[p]).state = .priming) : RecordFits c.sMinInForce[p] (entered c p st fault) := by
  obtain ⟨-, -, granted, -⟩ := h
  refine ⟨fun down => ?_, fun priming => absurd priming ungranted, fun up => granted ?_, cause⟩
  · have ⟨not_priming, not_running⟩ : st ≠ .priming ∧ st ≠ .running := by
      simpa [entered, PumpState.up] using down
    have down : st.up = false := down
    simp [entered, not_priming, not_running, down]
  · have running : st = .running := by
      simpa [entered, PumpState.up, ungranted] using up
    rw [proven running]
    rfl

theorem enterState_kept_of (h : c.pumpsKept) (p : PumpId) (st : PumpState) (fault : Option PumpFault)
    (own : RecordFits c.sMinInForce[p] (entered c p st fault)) : (c.enterState p st fault).pumpsKept := by
  have updated := updPump_kept h p (f := fun _ => entered c p st fault) own
  have water := Chip.followPump_water (c.updPump p fun _ => entered c p st fault) p
  have same : c.enterState p st fault = (c.updPump p fun _ => entered c p st fault).followPump p := rfl
  rw [same]
  refine pumpsKept_of_same updated ?_ (Chip.followPump_pumps _ p)
  rw [water.1]

theorem granted_kept (h : c.pumpsKept) (e : StartEntry) : (granted c e).pumpsKept := by
  rw [pumpsKept_iff] at *
  intro q
  have sMin : (granted c e).sMinInForce = c.sMinInForce := by
    have water : Chip.WaterOnly { c.dequeue e.pump with history := lastEight (c.history ++ [c.now]) } (granted c e) :=
      (Chip.enterState_water _ _ _ _).trans (Chip.updPump_water _ _ _)
    rw [water.1]
    rfl
  rw [granted_pump, sMin]
  split
  next same => subst same; exact ⟨nofun, fun _ => by simp [primed, entered], fun _ => rfl, by simp [primed, entered]⟩
  next => exact h q

theorem waterMove_kept (h : WaterMove J I b c d) (k : c.pumpsKept) : d.pumpsKept := by
  have fits := pumpsKept_iff.mp k
  cases h with
  | dequeue | join | faultNotice | count => exact pumpsKept_of_same k rfl rfl
  | drive _ p f named writes => exact updPump_kept k p (by rw [writes]; exact fits p)
  | timers _ p f writes down =>
    refine updPump_kept k p ?_
    obtain ⟨low, high, granted, fault⟩ := fits p
    rw [writes]
    refine ⟨fun is_down => ?_, high, granted, fault⟩
    obtain ⟨stop, idle⟩ := down is_down
    obtain ⟨setpoint, no_idle, no_stop⟩ := low is_down
    exact ⟨setpoint, idle.elim id (·.trans no_idle), stop.elim id (·.trans no_stop)⟩
  | enter _ p st fault cause ungranted proven => exact enterState_kept_of k p st fault (entered_fits (fits p) st fault cause ungranted proven)
  | grant _ e => exact granted_kept k e
  | write _ owner demand burstEnd j =>
    have water : c.WaterOnly (demandWritten c owner demand burstEnd j) :=
      (Chip.jets_water c _).trans (Chip.wetFlush_water _)
    exact pumpsKept_of_same k (by rw [water.1]) (demandWritten_pumps c owner demand burstEnd j)

theorem waterMoves_kept (h : WaterMoves J I b c d) : c.pumpsKept → d.pumpsKept :=
  h.keeps waterMove_kept fun k => pumpsKept_of_same k rfl rfl

end Sys2Proof.Proofs.Water


namespace Sys2Proof.Proofs.Water

open Sys2Proof Sys2Proof.Machine

variable {J : JetId → Prop} {I : PumpId → Prop} {b : Bool} {c d e : Chip}

/-! ## Notices (R173) -/

/-- From `k` to `m` nothing of the link but its notice set has changed: it has gained notices of `may` alone, each once. -/
structure LinkNoted (may : List Notice) (k m : Link) : Prop where
  rest : m = { k with notices := m.notices }
  kept : ∀ n ∈ k.notices, n ∈ m.notices
  gained : ∀ n ∈ m.notices, n ∈ k.notices ∨ n ∈ may
  once : k.notices.Nodup → m.notices.Nodup

/-- From `c` to `d` every link has gained notices of `may` alone. -/
def Noted (may : List Notice) (c d : Chip) : Prop := ∀ l : LinkId, LinkNoted may c.links[l] d.links[l]

theorem LinkNoted.refl (may : List Notice) (k : Link) : LinkNoted may k k := ⟨rfl, fun _ => id, fun _ => .inl, id⟩

theorem LinkNoted.trans {may : List Notice} {k m n : Link} (h : LinkNoted may k m) (g : LinkNoted may m n) : LinkNoted may k n where
  rest := by rw [g.rest, h.rest]
  kept x hx := g.kept x (h.kept x hx)
  gained x hx := (g.gained x hx).elim (h.gained x) .inr
  once hk := g.once (h.once hk)

namespace Noted

variable {may : List Notice}

theorem refl (c : Chip) : Noted may c c := fun _ => .refl may _

theorem trans (h : Noted may c d) (k : Noted may d e) : Noted may c e := fun l => (h l).trans (k l)

theorem of_links (h : d.links = c.links) : Noted may c d := fun l => by rw [h]; exact .refl may _

theorem mono {may' : List Notice} (sub : ∀ n ∈ may, n ∈ may') (h : Noted may c d) : Noted may' c d := fun l =>
  ⟨(h l).rest, (h l).kept, fun n hn => ((h l).gained n hn).imp_right (sub n), (h l).once⟩

theorem notify {n : Notice} (mem : n ∈ may) (c : Chip) : Noted may c (c.notify n) := fun l => by
  rw [show (c.notify n).links[l] = { c.links[l] with notices := withNotice n (c.links[l]).notices } by simp]
  exact ⟨rfl, fun m hm => mem_withNotice_iff.mpr (.inr hm), fun m hm => (mem_withNotice_iff.mp hm).elim
    (fun e => .inr (e ▸ mem)) .inl, withNotice_nodup⟩

theorem ite {p : Prop} [Decidable p] (h : Noted may c d) (k : Noted may c e) : Noted may c (if p then d else e) := by
  split <;> assumption

end Noted

theorem enterState_links (c : Chip) (p : PumpId) (st : PumpState) (fault : Option PumpFault) :
    (c.enterState p st fault).links = c.links := by simp [Chip.enterState]

/-- What holds from the part to each of its stages in a grant, holds across the grant. -/
theorem granted_rel {R : Chip → Chip → Prop} (trans : ∀ {c d e}, R c d → R d e → R c e) (c : Chip) (e : StartEntry)
    (left : R c { c.dequeue e.pump with history := lastEight (c.history ++ [c.now]) })
    (enter : ∀ d : Chip, R d (d.enterState e.pump .priming none)) (timers : ∀ (d : Chip) (f : Pump → Pump), R d (d.updPump e.pump f)) :
    R c (granted c e) :=
  trans (trans left (enter _)) (timers _ _)

theorem waterMove_noted (h : WaterMove J I b c d) : Noted [.pumpFault] c d := by
  cases h with
  | faultNotice => exact .notify (by decide) c
  | enter => exact .of_links (enterState_links _ _ _ _)
  | grant _ e =>
    exact granted_rel .trans c e (.of_links rfl) (fun d => .of_links (enterState_links d _ _ _)) fun _ _ => .of_links rfl
  | write => exact .of_links (Chip.wetFlush_links _)
  | dequeue | join | drive | timers | count => exact .of_links rfl

/-- HYD raises PUMP_FAULT and no other notice. -/
theorem waterMoves_noted (h : WaterMoves J I b c d) : Noted [.pumpFault] c d :=
  h.rel .refl .trans waterMove_noted fun _ => .of_links rfl

/-! ## The circulation record -/

/-- From `c` to `d` nothing of the circulation record has changed but, of a flush, the pumps it started and its dry time, which has
not grown. -/
def FlushStands (c d : Chip) : Prop :=
  ∃ f : Flush → Flush, d.circ = { c.circ with flush := c.circ.flush.map f } ∧
    ∀ x, f x = { x with dryTime := (f x).dryTime, started := (f x).started } ∧ (f x).dryTime ≤ x.dryTime

namespace FlushStands

theorem of_circ (h : d.circ = c.circ) : FlushStands c d := ⟨id, by simp [h], fun _ => ⟨rfl, le_rfl⟩⟩

theorem refl (c : Chip) : FlushStands c c := of_circ rfl

theorem trans (h : FlushStands c d) (k : FlushStands d e) : FlushStands c e := by
  obtain ⟨f, hf, sf⟩ := h
  obtain ⟨g, hg, sg⟩ := k
  refine ⟨g ∘ f, by rw [hg, hf]; simp, fun x => ⟨?_, (sg (f x)).2.trans (sf x).2⟩⟩
  show g (f x) = { x with dryTime := (g (f x)).dryTime, started := (g (f x)).started }
  have first := (sf x).1
  generalize f x = y at first ⊢
  calc g y = { y with dryTime := (g y).dryTime, started := (g y).started } := (sg y).1
    _ = { x with dryTime := (g y).dryTime, started := (g y).started } := by
      generalize (g y).dryTime = t
      generalize (g y).started = s
      rw [first]

theorem isSome (h : FlushStands c d) : d.circ.flush.isSome = c.circ.flush.isSome := by
  obtain ⟨f, hf, -⟩ := h
  simp [hf]

theorem wetFlush (c : Chip) : FlushStands c c.wetFlush := by
  unfold Chip.wetFlush
  split
  · exact ⟨fun f => { f with dryTime := 0 }, rfl, fun x => ⟨rfl, Nat.zero_le _⟩⟩
  · exact .refl c

theorem enterState (c : Chip) (p : PumpId) (st : PumpState) (fault : Option PumpFault) :
    FlushStands c (c.enterState p st fault) := by
  unfold Chip.enterState Chip.followPump
  refine .trans ?_ (wetFlush _)
  exact .of_circ rfl

end FlushStands

theorem waterMove_flush (h : WaterMove J I b c d) : FlushStands c d := by
  cases h with
  | enter _ p st fault => exact .enterState c p st fault
  | grant _ e => exact granted_rel .trans c e (.of_circ rfl) (fun d => .enterState d _ _ _) fun _ _ => .of_circ rfl
  | write _ owner demand burstEnd j =>
    have written : FlushStands c { c with jets := c.jets.set j (jetWritten c owner demand burstEnd j) } := .of_circ rfl
    exact written.trans (.wetFlush _)
  | count _ p => exact ⟨fun f => { f with started := f.started.set p true }, rfl, fun x => ⟨rfl, le_rfl⟩⟩
  | dequeue | join | drive | timers | faultNotice => exact .of_circ rfl

theorem waterMoves_flush (h : WaterMoves J I b c d) : FlushStands c d :=
  h.rel .refl .trans waterMove_flush fun _ => .of_circ rfl

theorem waterMove_water (h : WaterMove J I b c d) : c.WaterOnly d := by
  cases h with
  | enter _ p st fault => exact Chip.enterState_water c p st fault
  | grant _ e =>
    exact granted_rel .trans c e (.of_eq rfl) (fun d => Chip.enterState_water d _ _ _) fun d _ => Chip.updPump_water d _ _
  | write _ owner demand burstEnd j => exact (Chip.jets_water c _).trans (Chip.wetFlush_water _)
  | drive _ p f | timers _ p f => exact Chip.updPump_water c p f
  | faultNotice => exact Chip.notify_water c _
  | dequeue | join | count => exact .of_eq rfl

theorem waterMoves_water (h : WaterMoves J I b c d) : c.WaterOnly d :=
  h.rel .refl .trans waterMove_water fun _ => .of_eq rfl

/-! ## The water of a tripped fountain (R102, R118) -/

/-- A jet as a trip leaves it. -/
def JetShut (j : Jet) : Prop := j.state = .closed ∧ j.owner = .none ∧ j.demand = 0

/-- The fountain is TRIPPED, nothing waits to start, no pump is up and every jet is shut. -/
structure Dry (c : Chip) : Prop where
  mode : c.mode.mode = .tripped
  queue : c.queue = []
  joining : c.joining = []
  pumps : ∀ p, (stateOf c p).up = false
  jets : ∀ j : JetId, JetShut c.jets[j]

theorem Dry.of_same (h : Dry c) (mode : d.mode.mode = c.mode.mode) (queue : d.queue = c.queue) (joining : d.joining = c.joining)
    (pumps : ∀ p, (stateOf d p).up = (stateOf c p).up) (jets : d.jets = c.jets) : Dry d :=
  ⟨mode.trans h.mode, queue.trans h.queue, joining.trans h.joining, fun p => (pumps p).trans (h.pumps p),
    fun j => by rw [jets]; exact h.jets j⟩

theorem settleJet_of_closed (c : Chip) (p : PumpId) {j : Jet} (closed : j.state = .closed) : c.settleJet p j = j := if_pos closed

theorem enterState_jet (c : Chip) (p : PumpId) (st : PumpState) (fault : Option PumpFault) {j : JetId}
    (closed : (c.jets[j]).state = .closed) : (c.enterState p st fault).jets[j] = c.jets[j] := by
  have own : (c.updPump p fun r => entered c p st fault).jets[j] = c.jets[j] := rfl
  show ((c.updPump p fun r => entered c p st fault).followPump p).jets[j] = _
  rw [followPump_jet, own]
  split
  · exact settleJet_of_closed _ p closed
  · rfl

theorem enterState_dry (h : Dry c) (p : PumpId) {st : PumpState} (fault : Option PumpFault) (down : st.up = false) :
    Dry (c.enterState p st fault) where
  mode := by rw [(Chip.enterState_water c p st fault).mode]; exact h.mode
  queue := by simpa [Chip.enterState] using h.queue
  joining := by simpa [Chip.enterState] using h.joining
  pumps q := by
    rw [stateOf_enterState]
    split
    · exact down
    · exact h.pumps q
  jets j := by rw [enterState_jet c p st fault (h.jets j).1]; exact h.jets j

theorem updPump_dry (h : Dry c) (p : PumpId) {f : Pump → Pump} (state : (f c.pumps[p]).state = stateOf c p) : Dry (c.updPump p f) :=
  h.of_same rfl rfl rfl (fun q => by rw [stateOf_updPump_same p state]) rfl

theorem waterMove_dry (h : WaterMove (fun _ => False) I b c d) (k : Dry c) : Dry d := by
  cases h with
  | dequeue =>
    exact ⟨k.mode, by simp [Chip.dequeue, k.queue], by simp [Chip.dequeue, k.joining], k.pumps, k.jets⟩
  | join _ p r waits unqueued untripped => exact absurd k.mode untripped
  | drive _ p f named writes => exact updPump_dry k p (by rw [writes]; rfl)
  | timers _ p f writes down => exact updPump_dry k p (by rw [writes]; rfl)
  | enter _ p st fault cause ungranted proven =>
    refine enterState_dry k p fault ?_
    have not_running : st ≠ .running := fun running => by
      have down := k.pumps p
      rw [stateOf, proven running] at down
      cases down
    simp [PumpState.up, ungranted, not_running]
  | faultNotice | count => exact k.of_same rfl rfl rfl (fun _ => rfl) rfl
  | grant _ e queued => rw [k.queue] at queued; cases queued
  | write _ owner demand burstEnd j named => exact named.elim

/-- Where no demand is written, a dry fountain stays dry. -/
theorem waterMoves_dry (h : WaterMoves (fun _ => False) I b c d) : Dry c → Dry d :=
  h.keeps waterMove_dry fun k => ⟨k.mode, by simp [collected, k.queue, k.joining], rfl, k.pumps, k.jets⟩

end Sys2Proof.Proofs.Water


/-! PROOF. What a command can do to the part, said once: every command is a chain of `Effect`s, each with what its rule's tests have
made sure of, so that what every effect keeps, every step keeps. `may` names the resets and the clearing of a trip that the command
may make. -/

namespace Sys2Proof.Proofs.StepEffects

open Sys2Proof Sys2Proof.Machine Sys2Proof.Proofs.Water Sys2Proof.Proofs.RequestEffects

/-- The effects that few commands have: the power-on reset, the release of a line reset, RESTART, CLEAR_TRIP, a page written by its
requests, a section of the limit table written, a change of its protection, a show set up by CUE, and a step of the show clock. -/
inductive Special where
  | powerOn | lineReset | restart | clearTrip | storePage | writeTable | protect | cue | clock

/-- The effects of these that a request of this kind may have. -/
def kindMakes (kind : Nat) (x : Special) : Prop :=
  match kind with
  | 1 | 2 | 3 | 4 | 5 | 6 => x = .storePage
  | 7 => x = .cue
  | 20 => x = .clearTrip
  | 21 => x = .restart
  | 31 => x = .writeTable
  | 32 | 33 => x = .protect
  | _ => False

/-- Any jet, and any pump. -/
abbrev anyJet : JetId → Prop := fun _ => True
abbrev noJet : JetId → Prop := fun _ => False
abbrev anyPump : PumpId → Prop := fun _ => True

/-- The part once a trip has been cleared (R168). -/
def tripCleared (c : Chip) : Chip :=
  let d := Chip.raisePower { c with mode := { c.mode with causes := [] } }
  Chip.toMode { d with mode := { d.mode with wake := some .standby } } .settling

/-- The part once F has been set and the frames beyond it removed (R66). -/
def audioCut (c : Chip) (position : Nat) : Chip :=
  Chip.lowCrossing { c with playback := { c.playback with
    endAt := some position, buffer := c.playback.buffer.take (position - c.playback.p) } } c.playback.fill

/-- The part at a tick of the LOCAL show clock (R76). -/
def clockTicked (c : Chip) (stamp : Nat) : Chip :=
  { c with clock := { c.clock with value := min clockTop (c.clock.value + 1), stamp := stamp } }

/-- The part once the page `k` has passed its validation (R13). -/
def validated (c : Chip) (k : PageId) : Chip :=
  Chip.notify ((c.updPage k fun _ => (c.pages[k]).checked).updLinks fun l => l.answerClose (c.pages[k]).checked) .pageChecked

/-- The effects that leave the timebase, the field lines, the gains, the sensing record and the limit table, and of the links all
but their notices. -/
inductive FountainEffect (may : Special → Prop) : Chip → Chip → Prop
  | notify (c : Chip) (n : Notice) : FountainEffect may c (c.notify n)
  | cue (c : Chip) (k : PageId) (i : StepIndex) (music : Bool) (origin : Nat) (special : may .cue) (idle : c.run.cue = .idle)
      (mode : c.mode.mode.mayCue = true) (ready : (c.pages[k]).state = .ready) : FountainEffect may c (c.cueShow k i music origin)
  | uncue (c : Chip) (cued : c.run.cue = .cued) : FountainEffect may c c.uncue
  | start (c : Chip) (cued : c.run.cue = .cued) (mode : c.mode.mode = .standby)
      (primed : c.playback.music = true → prebuffer ≤ c.playback.fill) : FountainEffect may c c.startShow
  | pause (c : Chip) (running : c.run.cue = .running) : FountainEffect may c (c.pauseShow .program)
  | continueShow (c : Chip) (paused : c.run.cue = .paused) : FountainEffect may c c.continueShow
  | hold (c : Chip) (i : Option StepIndex) (cue : c.run.cue.mayHoldSet = true) : FountainEffect may c (c.setHold i)
  | stop (c : Chip) (idle : c.run.cue ≠ .idle) (ending : c.run.cue ≠ .ending) : FountainEffect may c c.stopShow
  | restored (c : Chip) (restoring : c.run.cue = .restoring) : FountainEffect may c c.endRestore
  | gust (c : Chip) : FountainEffect may c c.gustToShow
  | clockTook (c : Chip) : FountainEffect may c c.clockTook
  | audio (c : Chip) (q : Nat) (frames : List AudioFrame) (off : c.playback.state ≠ .off)
      (finished : c.playback.state ≠ .finished) (taken : (c.playback.place q frames).1.taken = true) :
      FountainEffect may c (AudioBlocks.appendFrames c (c.playback.place q frames).2)
  | audioEnd (c : Chip) (position : Nat) (off : c.playback.state ≠ .off) (finished : c.playback.state ≠ .finished)
      (ahead : c.playback.p ≤ position) :
      FountainEffect may c (if position = (audioCut c position).playback.p ∧
          ((audioCut c position).playback.state = .playing ∨ (audioCut c position).playback.state = .starved)
        then (audioCut c position).endOfMusic else audioCut c position)
  | framePeriod (c : Chip) (special : may .clock) : FountainEffect may c c.framePeriod
  | tick (c : Chip) (stamp : Nat) (special : may .clock) (running : c.clock.running = true) (source : c.clock.source = .localTime) :
      FountainEffect may c (clockTicked c stamp)
  | take (c : Chip) (mode : c.mode.mode ≠ .tripped) (ending : c.run.cue ≠ .ending) : FountainEffect may c c.takeFountain
  | restore (c : Chip) (mode : c.mode.mode = .manual) (paused : c.run.cue = .paused) : FountainEffect may c c.beginRestore
  | release (c : Chip) (mode : c.mode.mode = .manual) : FountainEffect may c c.releaseFountain
  | trip (c : Chip) (cause : TripCause) : FountainEffect may c (c.tripCause cause)
  | clearTrip (c : Chip) (special : may .clearTrip) (tripped : c.mode.mode = .tripped) : FountainEffect may c (tripCleared c)
  | manual (c d : Chip) (mode : c.mode.mode = .manual) (moves : WaterMoves anyJet anyPump false c d) : FountainEffect may c d
  | pumps (c d : Chip) (moves : WaterMoves noJet anyPump false c d) : FountainEffect may c d
  | panelLayer (c : Chip) (fades : Vector Fade 128) : FountainEffect may c { c with panelLayer := fades }
  | lampFrame (c : Chip) : FountainEffect may c c.lampFrame
  | mask (c : Chip) (mask : ZoneMask) : FountainEffect may c { c with circ := { c.circ with mask := mask } }
  | flushAll (c : Chip) (z : ZoneId) (mode : c.mode.mode = .dormant ∨ c.mode.mode = .standby) : FountainEffect may c (c.beginFlush .all z)
  | dormant (c : Chip) (mode : c.mode.mode = .standby) (idle : c.run.cue = .idle) : FountainEffect may c c.enterDormant
  | wake (c : Chip) (mode : c.mode.mode = .dormant) : FountainEffect may c (c.beginWake .standby)
  | settle (c before : Chip) : FountainEffect may c (Chip.settle before c)
  | powered (c : Chip) (settling : c.mode.settle ≠ none) : FountainEffect may c (c.powerOn.endEvent).endWake
  | periodExpiry (c : Chip) : FountainEffect may c c.periodExpiry
  | endFlush (c : Chip) (f : Flush) (runs : c.circ.flush.isSome = true) : FountainEffect may c (c.endFlush f)
  | zoneDone (c : Chip) (f : Flush) (runs : c.circ.flush.isSome = true) : FountainEffect may c (c.zoneDone f)
  | stallFlush (c : Chip) (f : Flush) (runs : c.circ.flush.isSome = true) : FountainEffect may c (c.stallFlush f)

/-- The single effects of a command. -/
inductive Effect (may : Special → Prop) : Chip → Chip → Prop
  | fountain {c d : Chip} (effect : FountainEffect may c d) : Effect may c d
  | reply (c : Chip) (l : LinkId) (kind : Nat) (code : ReplyCode) (data : ReplyData)
      (room : (c.links[l]).replies.length < 4) : Effect may c (c.reply l kind code data)
  | owe (c : Chip) (l : LinkId) (room : (c.links[l]).replies.length < 4) :
      Effect may c (c.updLink l fun k => { k with owed := some kindPageClose })
  | receive (c : Chip) (l : LinkId) (state : Receive) (discarding : Bool) (receiving : discarding = true → state = .receiving) :
      Effect may c (c.setReceive l state discarding)
  | sent (c : Chip) (l : LinkId) (r : Reply) (rest : List Reply) (oldest : (c.links[l]).replies = r :: rest) :
      Effect may c (c.updLink l fun k => { k with replies := rest, sent := [r] })
  | told (c : Chip) (l : LinkId) : Effect may c (c.updLink l fun k => { k with notices := [] })
  | gain (c : Chip) (g : GainRecord) (master : g.master ≤ 256 ∨ g.master = c.gain.master)
      (duck : g.duck ≤ 256 ∨ g.duck = c.gain.duck) (applied : g.applied = c.gain.applied) : Effect may c { c with gain := g }
  | gainStep (c : Chip) : Effect may c c.gainStep
  | countPeriod (c : Chip) : Effect may c
      { c with framesLeft := c.framesLeft - 1, gainPeriods := min gainSpacing (c.gainPeriods + 1) }
  | page (c : Chip) (k : PageId) (f : Page → Page) (special : may .storePage) (other : (c.pages[k]).state ≠ .live)
      (unlive : (f c.pages[k]).state ≠ .live) : Effect may c (c.updPage k f)
  | validated (c : Chip) (k : PageId) (checking : (c.pages[k]).state = .checking) : Effect may c (validated c k)
  | writeSection (c : Chip) (x : LimitSection) (special : may .writeTable) (guard : c.tableGuard = none) (free : c.limitConflict x = false)
      (read : ∃ sect bytes, sectionOfBytes sect bytes = some x) : Effect may c (c.writeSection x)
  | protect (c : Chip) (p : Protection) (code : Nat) (special : may .protect)
      (level : (c.protection = .opened ∧ 1 ≤ code ∧ code ≤ 65535 ∨ c.siteCode = some code) ∧ p ≠ .opened) :
      Effect may c { c with siteCode := some code, protection := p }
  | advance (c : Chip) (k : Nat) : Effect may c (c.advance k)
  | hydraulics (c : Chip) : Effect may c { c.hydraulics with hydTimer := 0 }
  | lines (c : Chip) (n : Lines) (eStop : n.eStop = c.lines.eStop) : Effect may c { c with lines := n }
  | stopLine (c : Chip) (level : Bool) (sensed : Bool) (follows : c.resetHeld = false → sensed = level) :
      Effect may c { c with lines := { c.lines with eStop := level }, sense := { c.sense with eStop := sensed } }
  | pulse (c : Chip) : Effect may c c.pulse
  | closeGate (c : Chip) : Effect may c { c with sense := c.sense.closeGate c.limits.site.windScale c.limits.wind }
  | switch (c : Chip) (which : LevelSwitch) (v : Debounced) (state : v.state = (c.sense.switch which).state) :
      Effect may c { c with sense := c.sense.setSwitch which v }
  | level (c : Chip) (which : LevelSwitch) (v : Debounced) :
      Effect may c { c with sense := { c.sense.setSwitch which v with
        level := levelOfSwitches (c.sense.setSwitch which v).lowTrip.state (c.sense.setSwitch which v).lowWarn.state } }
  | dusk (c : Chip) (v : Debounced) : Effect may c { c with sense := { c.sense with dusk := v } }
  | assertReset (c : Chip) : Effect may c c.assertReset
  | powerOn (c : Chip) (lines : Lines) (special : may .powerOn) : Effect may c (powerOnReset lines)
  | lineReset (c : Chip) (straps : Vector StrapPins 3) (special : may .lineReset) : Effect may c (c.lineReset straps)
  | restart (c : Chip) (special : may .restart) : Effect may c c.restart

/-- Chains of effects. -/
def Effects (may : Special → Prop) : Chip → Chip → Prop := Relation.ReflTransGen (Effect may)

namespace Effects

variable {may : Special → Prop} {c d e : Chip}

theorem refl (c : Chip) : Effects may c c := Relation.ReflTransGen.refl

theorem trans (h : Effects may c d) (k : Effects may d e) : Effects may c e := Relation.ReflTransGen.trans h k

theorem one (h : Effect may c d) : Effects may c d := Relation.ReflTransGen.single h

theorem snoc (h : Effects may c d) (k : Effect may d e) : Effects may c e := h.tail k

theorem ite {p : Prop} [Decidable p] (h : Effects may c d) (k : Effects may c e) : Effects may c (if p then d else e) := by
  split <;> assumption

theorem settled (h : Effects may c d) (before : Chip) : Effects may c (Chip.settle before d) := h.snoc (.fountain (.settle d before))

theorem event {f : Chip → Chip} (h : Effects may c (f c)) : Effects may c (Chip.event f c) :=
  Chip.event_keeps (.refl c) fun _ => h

theorem reach (c : Chip) (t : Nat) : Effects may c (c.reach t) := one (.advance c _)

/-- What every effect keeps, a chain keeps. -/
theorem keeps {P : Chip → Prop} (effect : ∀ {c d}, Effect may c d → P c → P d) (h : Effects may c d) (k : P c) : P d := by
  induction h with
  | refl => exact k
  | tail _ last ih => exact effect last ih

end Effects

/-! ## The rules -/

/-- The replies that wait, and the reply owed, are the same on every link. -/
def RepliesStand (c d : Chip) : Prop :=
  ∀ l : LinkId, (d.links[l]).replies = (c.links[l]).replies ∧ (d.links[l]).owed = (c.links[l]).owed ∧
    (d.links[l]).receive = (c.links[l]).receive

namespace RepliesStand

variable {c d e : Chip}

theorem refl (c : Chip) : RepliesStand c c := fun _ => ⟨rfl, rfl, rfl⟩

theorem trans (h : RepliesStand c d) (k : RepliesStand d e) : RepliesStand c e := fun l =>
  ⟨(k l).1.trans (h l).1, (k l).2.1.trans (h l).2.1, (k l).2.2.trans (h l).2.2⟩

theorem of_links (h : d.links = c.links) : RepliesStand c d := fun _ => by rw [h]; exact ⟨rfl, rfl, rfl⟩

theorem of_fountain (h : c.FountainOnly d) : RepliesStand c d := fun l => by rw [h.2 l]; exact ⟨rfl, rfl, rfl⟩

theorem settled (h : c.FountainOnly d) (before : Chip) : RepliesStand c (Chip.settle before d) :=
  of_fountain (h.trans (Chip.settle_fountain d before))

end RepliesStand

/-- What a rule does to a part and answers: it is a chain of effects that leaves the replies that wait; it answers at once, a refusal
changing nothing, or owes the reply of a PAGE_CLOSE. -/
structure RuleDoes (may : Special → Prop) (kind : Nat) (c : Chip) (x : Chip × Reaction) : Prop where
  effects : Effects may c x.1
  replies : RepliesStand c x.1
  reacts : (∃ code data, x.2 = .answer code data ∧ (code.taken = false → x.1 = c)) ∨ (kind = kindPageClose ∧ x.2 = .owe)

namespace RuleDoes

variable {may : Special → Prop} {kind : Nat} {c d : Chip}

theorem refuse (code : ReplyCode) : RuleDoes may kind c (c.refuse code) :=
  ⟨.refl c, .refl c, .inl ⟨code, .none, rfl, fun _ => rfl⟩⟩

/-- A rule that changes nothing. -/
theorem same (code : ReplyCode) (data : ReplyData) : RuleDoes may kind c (c, .answer code data) :=
  ⟨.refl c, .refl c, .inl ⟨code, data, rfl, fun _ => rfl⟩⟩

theorem answered {code : ReplyCode} (data : ReplyData) (h : Effects may c d) (k : RepliesStand c d) (success : code.taken = true) :
    RuleDoes may kind c (d, .answer code data) :=
  ⟨h, k, .inl ⟨code, data, rfl, fun refusal => by rw [success] at refusal; cases refusal⟩⟩

theorem taken (h : Effect may c d) (k : RepliesStand c d) : RuleDoes may kind c d.taken := answered .none (.one h) k rfl

theorem fountain (h : Effect may c d) (k : c.FountainOnly d) : RuleDoes may kind c d.taken := taken h (.of_fountain k)

/-- A request taken, with the tests that follow it. -/
theorem settled (h : Effect may c d) (k : c.FountainOnly d) (before : Chip) : RuleDoes may kind c (Chip.settle before d).taken :=
  answered .none ((Effects.one h).settled before) (.settled k before) rfl

theorem ite {p : Prop} [Decidable p] {x y : Chip × Reaction} (h : p → RuleDoes may kind c x) (k : ¬p → RuleDoes may kind c y) :
    RuleDoes may kind c (if p then x else y) := by
  split
  next yes => exact h yes
  next no => exact k no

end RuleDoes

/-- What `RuleDoes` says, on every part. -/
def RuleEffects (may : Special → Prop) (kind : Nat) (rule : Rule) : Prop := ∀ c, RuleDoes may kind c (rule c)

section Rules

variable {may : Special → Prop} {kind : Nat} {exact : Bool}

theorem withoutPayload_effects {rule : Rule} (n : Nat) (h : RuleEffects may kind rule) :
    RuleEffects may kind (withoutPayload n exact rule) := fun c => by
  cases exact with
  | true => exact h c
  | false =>
    obtain ⟨code, data, refused, -⟩ := withoutPayload_wrong (c := c) n rule
    rw [refused]
    exact .same code data

theorem onPage_effects {payload : List Byte} {rule : Nat → Rule} (h : ∀ page, RuleEffects may kind (rule page)) :
    RuleEffects may kind (onPage payload rule) := by
  unfold onPage
  split
  · exact fun c => .refuse .badArg
  · exact h _

theorem pageStages_effects {page : Nat} {allowed : PageState → Bool} {valid : Bool} {act : PageId → Rule}
    (h : ∀ k c, allowed (c.pages[k]).state = true → RuleDoes may kind c (act k c)) :
    RuleEffects may kind (pageStages page allowed valid act) := fun c => by
  unfold pageStages
  split
  next in_range =>
    exact .ite (fun _ => .refuse _) fun is_allowed => .ite (fun _ => .refuse _) fun _ => h ⟨page, in_range⟩ c (by simpa using is_allowed)
  next => exact .refuse _

theorem updPage_does {c : Chip} {k : PageId} {f : Page → Page} (special : may .storePage) (other : (c.pages[k]).state ≠ .live)
    (unlive : (f c.pages[k]).state ≠ .live) : RuleDoes may kind c (c.updPage k f).taken :=
  .fountain (.page c k f special other unlive) (Chip.updPage_fountain c k f)

theorem mayOpen_not_live {st : PageState} (h : st.mayOpen = true) : st ≠ .live := by rintro rfl; cases h
theorem mayFree_not_live {st : PageState} (h : st.mayFree = true) : st ≠ .live := by rintro rfl; cases h
theorem mayWrite_iff {st : PageState} : st.mayWrite = true ↔ st = .loading := by cases st <;> simp [PageState.mayWrite]

theorem rulePageOpen_effects (special : may .storePage) (page : Nat) : RuleEffects may kind (rulePageOpen page exact) :=
  pageStages_effects fun _ _ allowed => updPage_does special (mayOpen_not_live allowed) fun live => PageState.noConfusion live

theorem pageWrite_does {c : Chip} {k : PageId} {f : Page → Page} (special : may .storePage) (allowed : (c.pages[k]).state.mayWrite = true)
    (stands : ∀ pg, (f pg).state = pg.state) : RuleDoes may kind c (c.updPage k f).taken := by
  have loading := mayWrite_iff.mp allowed
  exact updPage_does special (by rw [loading]; nofun) (by rw [stands, loading]; nofun)

theorem storeSteps_state (start : Nat) (steps : List RawStep) (pg : Page) : (pg.storeSteps start steps).state = pg.state := by
  simp only [Page.storeSteps]

theorem ruleStepWrite_effects (special : may .storePage) (page start count : Nat) (steps : List RawStep) :
    RuleEffects may kind (ruleStepWrite page start count steps exact) :=
  pageStages_effects fun _ _ allowed => pageWrite_does special allowed (storeSteps_state start steps)

theorem ruleSceneWrite_effects (special : may .storePage) (page scene : Nat) (entry : Option Nat) :
    RuleEffects may kind (ruleSceneWrite page scene entry exact) :=
  pageStages_effects fun _ _ allowed => pageWrite_does special allowed fun _ => rfl

theorem ruleSlotWrite_effects (special : may .storePage) (page slot : Nat) (value : Slot) : RuleEffects may kind (ruleSlotWrite page slot value exact) :=
  pageStages_effects fun _ _ allowed => pageWrite_does special allowed fun _ => rfl

theorem rulePageClose_effects (special : may .storePage) (page : Nat) : RuleEffects may kindPageClose (rulePageClose page exact) :=
  pageStages_effects fun k c allowed => by
    have loading := mayWrite_iff.mp allowed
    exact ⟨.one (.page c k (fun pg => { pg with state := .checking }) special (by rw [loading]; nofun)
      fun live => PageState.noConfusion live), .of_links rfl, .inr ⟨rfl, rfl⟩⟩

theorem rulePageFree_effects (special : may .storePage) (page : Nat) : RuleEffects may kind (rulePageFree page exact) :=
  pageStages_effects fun _ _ allowed => updPage_does special (mayFree_not_live allowed) fun live => PageState.noConfusion live

/-! ### The show -/

theorem ruleCue_effects (special : may .cue) (page : Nat) (music : Bool) (origin : Nat) :
    RuleEffects may kind (ruleCue page music origin exact) := fun c => by
  unfold ruleCue
  split
  next in_range =>
    refine .ite (fun _ => .refuse _) fun idle => .ite (fun _ => .refuse _) fun mode => .ite (fun _ => .refuse _) fun ready => ?_
    split
    · exact .refuse _
    · exact .settled (.fountain (.cue c ⟨page, in_range.1⟩ _ music origin special (not_not.mp idle) (by simpa using mode) (not_not.mp ready)))
        (cueShow_fountain c _ _ _ _) c
  next => exact .refuse _

theorem ruleUncue_effects : RuleEffects may kind ruleUncue := fun c =>
  .ite (fun cued => .settled (.fountain (.uncue c cued)) (uncue_fountain c) c) fun _ => .refuse _

theorem ruleStart_effects : RuleEffects may kind ruleStart := fun c =>
  .ite (fun _ => .refuse _) fun cued => .ite (fun _ => .refuse _) fun _ => .ite (fun _ => .refuse _) fun mode =>
    .ite (fun _ => .refuse _) fun primed =>
      .settled (.fountain (.start c (not_not.mp cued) (not_not.mp mode) (fun music => by
        simpa [music] using primed))) (startShow_fountain c) c

theorem rulePause_effects : RuleEffects may kind rulePause := fun c =>
  .ite (fun running => .fountain (.fountain (.pause c running)) (pauseShow_fountain c _)) fun _ => .refuse _

theorem ruleContinue_effects : RuleEffects may kind ruleContinue := fun c =>
  .ite (fun paused => by
    have resumed : RuleDoes may kind c c.continueShow.taken := .fountain (.fountain (.continueShow c paused)) (continueShow_fountain c)
    split
    exacts [.refuse _, resumed, resumed]) fun _ => .refuse _

theorem ruleHoldSet_effects (scene : Option Nat) : RuleEffects may kind (ruleHoldSet scene exact) := fun c => by
  refine .ite (fun _ => .refuse _) fun cue => .ite (fun _ => .refuse _) fun _ => ?_
  have placed (i : Option StepIndex) : RuleDoes may kind c (c.setHold i).taken :=
    .fountain (.fountain (.hold c i (by simpa using cue))) (Chip.run_fountain c _)
  split
  · exact placed none
  · refine .ite (fun _ => .refuse _) fun _ => ?_
    split
    · exact .refuse _
    · exact placed _

theorem ruleStop_effects : RuleEffects may kind ruleStop := fun c =>
  .ite (fun _ => .refuse _) fun idle => .ite (fun _ => .same _ _) fun ending =>
    .settled (.fountain (.stop c idle ending)) (stopShow_fountain c) c

/-! ### Sound -/

theorem ruleAudio_effects (position count : Nat) (frames : List AudioFrame) :
    RuleEffects may kind (ruleAudio position count frames exact) := fun c =>
  .ite (fun _ => .refuse _) fun closed => .ite (fun _ => .refuse _) fun _ => .ite
    (fun taken => .answered .none (.one (.fountain (.audio c position frames (fun h => closed (.inl h)) (fun h => closed (.inr h)) taken)))
      (.of_links rfl) taken) fun _ => .refuse _

theorem audioCut_audio (c : Chip) (position : Nat) : c.AudioOnly (audioCut c position) :=
  (Chip.playback_audio c _).trans (Chip.lowCrossing_audio _ _)

theorem ruleAudioEnd_effects (position : Nat) : RuleEffects may kind (ruleAudioEnd position exact) := fun c =>
  .ite (fun _ => .refuse _) fun closed => .ite (fun _ => .refuse _) fun argument => by
    have cut := FountainEffect.audioEnd (may := may) c position (fun h => closed (.inl h)) (fun h => closed (.inr h))
      (Nat.not_lt.mp fun h => argument (.inl h))
    split at cut
    next ended =>
      exact (if_pos ended : (if _ then _ else _) = (audioCut c position).endOfMusic.taken) ▸
        .fountain (.fountain cut) ((audioCut_audio c position).trans (Chip.endOfMusic_audio _)).fountain
    next goes_on =>
      exact (if_neg goes_on : (if _ then _ else _) = (audioCut c position).taken) ▸
        .fountain (.fountain cut) (audioCut_audio c position).fountain

theorem ruleGain_effects (value : Nat) : RuleEffects may kind (ruleGain value exact) := fun c =>
  .ite (fun _ => .taken (.gain c _ (.inl (Nat.min_le_left _ _)) (.inr rfl) rfl) (.of_links rfl)) fun _ => .refuse _

theorem ruleDuck_effects (value : Nat) : RuleEffects may kind (ruleDuck value exact) := fun c =>
  .ite (fun _ => .taken (.gain c _ (.inr rfl) (.inl (Nat.min_le_left _ _)) rfl) (.of_links rfl)) fun _ => .refuse _

/-! ### The panel -/

theorem ruleTake_effects : RuleEffects may kind ruleTake := fun c =>
  .ite (fun _ => .refuse _) fun free => .ite (fun _ => .same _ _) fun _ =>
    .settled (.fountain (.take c (fun h => free (.inl h)) fun h => free (.inr h))) (takeFountain_fountain c) c

theorem ruleRelease_effects : RuleEffects may kind ruleRelease := fun c =>
  .ite (fun _ => .refuse _) fun _ => .ite (fun _ => .refuse _) fun mode =>
    .ite (fun taken => .settled (.fountain (.restore c (not_not.mp mode) taken.1)) (beginRestore_fountain c) c) fun _ =>
      .settled (.fountain (.release c (not_not.mp mode))) (releaseFountain_fountain c) c

theorem ruleTrip_effects : RuleEffects may kind ruleTrip := fun c => .fountain (.fountain (.trip c _)) (Chip.tripCause_fountain c _)

theorem ruleClearTrip_effects (special : may .clearTrip) : RuleEffects may kind ruleClearTrip := fun c =>
  .ite (fun _ => .refuse _) fun tripped => .ite (fun _ => .same _ _) fun _ =>
    .fountain (.fountain (.clearTrip c special (not_not.mp tripped))) ((((Chip.mode_fountain c _).trans
      (Chip.raisePower_fountain _)).trans (Chip.mode_fountain _ _)).trans (Chip.toMode_fountain _ _))

theorem manualStages_effects {valid : Bool} {act : Chip → Chip}
    (h : ∀ c, c.mode.mode = .manual → RuleDoes may kind c (act c).taken) : RuleEffects may kind (manualStages valid act) :=
  fun c => .ite (fun _ => .refuse _) fun _ => .ite (fun _ => .refuse _) fun mode => .ite (fun _ => .refuse _) fun _ =>
    h c (not_not.mp mode)

/-- A manual request that is a chain of writes of the water. -/
theorem manual_does {c d : Chip} (mode : c.mode.mode = .manual) (moves : WaterMoves anyJet anyPump false c d) :
    RuleDoes may kind c d.taken := .fountain (.fountain (.manual c d mode moves)) (waterMoves_water moves).fountain

theorem onPumps_moves {J : JetId → Prop} {I : PumpId → Prop} {b : Bool} (c : Chip) (set : PumpSet) {act : PumpId → Chip → Chip}
    (h : ∀ p ∈ pumpsIn set, ∀ d, WaterMoves J I true d (act p d)) : WaterMoves J I b c (c.onPumps set act) :=
  endEvent_moves (.forEach h)

theorem ruleJetSet_effects (set : JetSet) (demand : Nat) : RuleEffects may kind (ruleJetSet set demand exact) :=
  manualStages_effects fun c mode => manual_does mode (endEvent_moves (demandWrites_moves c _ _ fun _ _ => trivial))

theorem rulePumpStart_effects (set : PumpSet) : RuleEffects may kind (rulePumpStart set exact) :=
  manualStages_effects fun c mode => manual_does mode (onPumps_moves c set fun _ _ _ => intentRun_moves trivial _)

theorem rulePumpStop_effects (set : PumpSet) : RuleEffects may kind (rulePumpStop set exact) :=
  manualStages_effects fun c mode => manual_does mode (onPumps_moves c set fun _ _ _ => intentStop_moves trivial)

theorem rulePumpPolicy_effects (set : PumpSet) (code : Nat) : RuleEffects may kind (rulePumpPolicy set code exact) :=
  manualStages_effects fun c mode => by
    split
    · exact manual_does mode (onPumps_moves c set fun _ _ _ => setPolicy_moves trivial _)
    · exact .same _ _

theorem clearPump_moves {J : JetId → Prop} {I : PumpId → Prop} {b : Bool} (c : Chip) (p : PumpId) :
    WaterMoves J I b c (c.clearPump p) :=
  endEvent_moves (.ite ((enterResting_moves c p).trans (startRequest_moves _ p _)) (enterResting_moves c p))

theorem ruleClearPump_effects (pump : Nat) : RuleEffects may kind (ruleClearPump pump exact) := fun c => by
  unfold ruleClearPump
  split
  · exact .ite (fun _ => .refuse _) fun _ => .ite (fun _ => .refuse _) fun _ =>
      .fountain (.fountain (.pumps c _ (clearPump_moves c _))) (clearPump_water c _).fountain
  · exact .refuse _

theorem ruleLightSet_effects (lums : LumSet) (mask : ChannelMask) (red green blue white fade : Nat) :
    RuleEffects may kind (ruleLightSet lums mask red green blue white fade exact) :=
  manualStages_effects fun c _ => .fountain (.fountain (.panelLayer c _)) (Chip.fadePanel_lamps c _ _ _ _).fountain

theorem ruleZoneMask_effects (mask : ZoneMask) : RuleEffects may kind (ruleZoneMask mask exact) := fun c =>
  .ite (fun _ => .settled (.fountain (.mask c mask)) (Chip.circ_fountain c _) c) fun _ => .refuse _

theorem ruleFlushAll_effects : RuleEffects may kind ruleFlushAll := fun c =>
  .ite (fun _ => .refuse _) fun mode => .ite (fun _ => .refuse _) fun _ => .ite (fun _ => .refuse _) fun _ => by
    split
    · exact .refuse _
    · exact .settled (.fountain (.flushAll c _ (by tauto))) (Chip.beginFlush_fountain c _ _) c

theorem ruleSleep_effects : RuleEffects may kind ruleSleep := fun c =>
  .ite (fun h => .settled (.fountain (.dormant c h.1 h.2)) (Chip.enterDormant_fountain c) c) fun _ => .refuse _

theorem ruleWake_effects : RuleEffects may kind ruleWake := fun c => by
  unfold ruleWake
  split
  next dormant => exact .settled (.fountain (.wake c dormant)) (Chip.beginWake_fountain c _) c
  all_goals exact .same _ _

/-! ### The limit table -/

theorem writeSection_replies (c : Chip) (x : LimitSection) : RepliesStand c (c.writeSection x) := by
  have ended (d : Chip) (h : RepliesStand c d) : RepliesStand c d.endEvent :=
    h.trans (.of_fountain (Chip.endEvent_water d).fountain)
  cases x with
  | pumps es =>
    have written : RepliesStand c { c with limits := { c.limits with pumps := es } } := .of_links rfl
    exact ended _ (written.trans (.of_fountain (Chip.WaterOnly.forEach fun p d => changeService_water d _ p).fountain))
  | jets es => exact ended _ (.of_links rfl)
  | site e => exact ended _ (.of_links rfl)
  | wind es => exact ended _ (.of_links rfl)
  | lums es => exact ended _ (.of_links rfl)

theorem ruleLimitWrite_effects (special : may .writeTable) (sect : Nat) (entries : List Byte) : RuleEffects may kind (ruleLimitWrite sect entries) :=
  fun c => by
  unfold ruleLimitWrite
  split
  · exact .refuse _
  next guard =>
    split
    · exact .refuse _
    next x read =>
      exact .ite (fun _ => .refuse _) fun free =>
        .answered .none ((Effects.one (.writeSection c x special guard (by simpa using free) ⟨_, _, read⟩)).settled c)
          ((writeSection_replies c x).trans (.of_fountain (Chip.settle_fountain _ c))) rfl

theorem ruleCommission_effects (special : may .protect) (code : Nat) : RuleEffects may kind (ruleCommission code exact) := fun c =>
  .ite (fun _ => .refuse _) fun range => by
    have ⟨low, high⟩ : 1 ≤ code ∧ code ≤ 65535 := by omega
    split
    next opened => exact .taken (.protect c .locked code special ⟨.inl ⟨opened, low, high⟩, nofun⟩) (.of_links rfl)
    next => exact .ite (fun same => by
        have locked := Effect.protect (may := may) c .locked code special ⟨.inr same, nofun⟩
        rw [← same] at locked
        exact .taken locked (.of_links rfl)) fun _ => .refuse _
    next => exact .ite (fun _ => .same _ _) fun _ => .refuse _

theorem ruleRelax_effects (special : may .protect) (code : Nat) : RuleEffects may kind (ruleRelax code exact) := fun c =>
  .ite (fun _ => .refuse _) fun _ => by
    split
    next => exact .refuse _
    next => exact .refuse _
    next => exact .ite (fun same => by
        have guarded := Effect.protect (may := may) c .guarded code special ⟨.inr same, nofun⟩
        rw [← same] at guarded
        exact .taken guarded (.of_links rfl)) fun _ => .refuse _

/-! ### Reading -/

theorem ruleStatus_effects (l : LinkId) : RuleEffects may kind (ruleStatus l) := fun c =>
  .answered _ (.one (.told c l)) (fun m => by
    simp only [Fin.getElem_fin, Chip.updLink_link]
    split
    next same => subst same; exact ⟨rfl, rfl, rfl⟩
    next => exact ⟨rfl, rfl, rfl⟩) rfl

theorem readOf_effects (data : Chip → ReplyData) : RuleEffects may kind (readOf data) := fun _ => .same _ _

theorem ruleReadLamps_effects (luminaire : Nat) : RuleEffects may kind (ruleReadLamps luminaire exact) := fun c => by
  unfold ruleReadLamps
  split
  exacts [.same _ _, .refuse _]

theorem ruleReadLimits_effects (sect : Nat) : RuleEffects may kind (ruleReadLimits sect exact) := fun c => by
  unfold ruleReadLimits
  split
  exacts [.same _ _, .refuse _]

theorem ruleReadPage_effects (page : Nat) : RuleEffects may kind (ruleReadPage page exact) := fun c => by
  unfold ruleReadPage
  split
  exacts [.same _ _, .refuse _]

theorem ruleReadSteps_effects (page start count : Nat) : RuleEffects may kind (ruleReadSteps page start count exact) :=
  fun c => by
  unfold ruleReadSteps
  split
  exacts [.same _ _, .refuse _]

end Rules

/-! ## Requests -/

section Requests

variable {may : Special → Prop}

/-- What a rule does, its request does; the reply, or the reply owed, is the last effect. -/
theorem request_effects {l : LinkId} {kind : Nat} {rule : Rule} (h : RuleEffects may kind rule) (c : Chip) :
    Effects may c (Chip.request l kind rule c) := by
  unfold Chip.request
  refine .ite (.refl c) ?_
  split
  · exact .refl c
  next room =>
    have room : (c.links[l]).replies.length < 4 := Nat.not_le.mp room
    refine .ite (.one (.reply c l kind _ _ room)) (.ite (.one (.reply c l kind _ _ room))
      (.ite (.one (.reply c l kind _ _ room)) ?_))
    obtain ⟨effects, replies, reacts⟩ := h c
    generalize rule c = x at effects replies reacts
    obtain ⟨d, reaction⟩ := x
    have room : (d.links[l]).replies.length < 4 := by rw [(replies l).1]; exact room
    rcases reacts with ⟨code, data, rfl, -⟩ | ⟨rfl, rfl⟩
    · exact effects.snoc (.reply d l kind code data room)
    · exact effects.snoc (.owe d l room)

theorem ruleRestart_effects (special : may .restart) (l : LinkId) (exact : Bool) (c : Chip) :
    Effects may c (Chip.request l kindRestart (withoutPayload kindRestart exact (ruleRestart l)) c) := by
  cases exact with
  | false =>
    refine request_effects (fun d => ?_) c
    obtain ⟨code, data, refused, -⟩ := withoutPayload_wrong (c := d) kindRestart (ruleRestart l)
    rw [refused]
    exact .same code data
  | true =>
    unfold Chip.request
    refine .ite (.refl c) ?_
    split
    · exact .refl c
    next room =>
      have room : (c.links[l]).replies.length < 4 := Nat.not_le.mp room
      refine .ite (.one (.reply c l _ _ _ room)) (.ite (.one (.reply c l _ _ _ room)) (.ite (.one (.reply c l _ _ _ room)) ?_))
      exact (Effects.one (.reply c l kindRestart .ok .none room)).snoc (.restart _ special)

/-- The rule of every kind but RESTART does what its request does; that of CLEAR_TRIP clears a trip. -/
theorem ruleOf_effects (l : LinkId) {kind : Nat} (payload : List Byte) (not_restart : kind ≠ 21)
    (special : ∀ x, kindMakes kind x → may x) : RuleEffects may kind (ruleOf l kind payload) := by
  unfold ruleOf
  dsimp only
  split
  exacts [onPage_effects fun page => rulePageOpen_effects (special _ rfl) page,
    onPage_effects fun page => ruleStepWrite_effects (special _ rfl) page _ _ _,
    onPage_effects fun page => ruleSceneWrite_effects (special _ rfl) page _ _,
    onPage_effects fun page => ruleSlotWrite_effects (special _ rfl) page _ _,
    onPage_effects fun page => rulePageClose_effects (special _ rfl) page,
    onPage_effects fun page => rulePageFree_effects (special _ rfl) page,
    ruleCue_effects (special _ rfl) _ _ _,
    withoutPayload_effects _ ruleUncue_effects,
    withoutPayload_effects _ ruleStart_effects,
    withoutPayload_effects _ rulePause_effects,
    withoutPayload_effects _ ruleContinue_effects,
    ruleHoldSet_effects _,
    ruleAudio_effects _ _ _,
    ruleAudioEnd_effects _,
    ruleGain_effects _,
    withoutPayload_effects _ ruleStop_effects,
    withoutPayload_effects _ ruleTake_effects,
    withoutPayload_effects _ ruleRelease_effects,
    withoutPayload_effects _ ruleTrip_effects,
    withoutPayload_effects _ (ruleClearTrip_effects (special _ rfl)),
    absurd rfl not_restart,
    ruleJetSet_effects _ _,
    rulePumpStart_effects _,
    rulePumpStop_effects _,
    rulePumpPolicy_effects _ _,
    ruleClearPump_effects _,
    ruleLightSet_effects _ _ _ _ _ _ _,
    ruleZoneMask_effects _,
    withoutPayload_effects _ ruleFlushAll_effects,
    ruleDuck_effects _,
    (by split <;> exact ruleLimitWrite_effects (special _ rfl) _ _),
    ruleCommission_effects (special _ rfl) _,
    ruleRelax_effects (special _ rfl) _,
    withoutPayload_effects _ ruleSleep_effects,
    withoutPayload_effects _ ruleWake_effects,
    withoutPayload_effects _ (ruleStatus_effects l),
    withoutPayload_effects _ (readOf_effects _),
    withoutPayload_effects _ (readOf_effects _),
    withoutPayload_effects _ (readOf_effects _),
    ruleReadLamps_effects _,
    withoutPayload_effects _ (readOf_effects _),
    ruleReadLimits_effects _,
    ruleReadPage_effects _,
    ruleReadSteps_effects _ _ _,
    fun _ => .refuse _]

end Requests

end Sys2Proof.Proofs.StepEffects


/-! PROOF. What a command can do to the part, continued: the events, and the dispatch. -/

namespace Sys2Proof.Proofs.StepEffects

open Sys2Proof Sys2Proof.Machine Sys2Proof.Proofs.Water Sys2Proof.Proofs.RequestEffects

variable {may : Special → Prop} (c : Chip)

/-! ## Links and pages -/

theorem checkingPage_state {k : PageId} (h : c.checkingPage = some k) : (c.pages[k]).state = .checking := by
  simpa using List.find?_some h

theorem completeValidation_effects : Effects may c c.completeValidation := by
  unfold Chip.completeValidation
  split
  · exact .refl c
  next k checking => exact .one (.validated c k (checkingPage_state c checking))

theorem badFrame_effects (l : LinkId) (kind : Nat) : Effects may c (c.badFrame l kind) := by
  rcases Chip.badFrame_cases (c := c) l kind with e | ⟨room, e⟩ <;> rw [e]
  · exact .refl c
  · exact .one (.reply c l kind _ _ room)

theorem overLength_effects (l : LinkId) (kind : Nat) : Effects may c (c.overLength l kind) :=
  (badFrame_effects c l kind).snoc (.receive _ l _ _ fun _ => rfl)

theorem hunt_effects (l : LinkId) : Effects may c (c.setReceive l .hunt false) := .one (.receive c l _ _ nofun)

theorem frameEnd_effects (l : LinkId) (kind : Byte) (payload : List Byte) (crc : BitVec 16)
    (special : ∀ x, kindMakes kind.toNat x → may x) : Effects may c (c.frameEnd l kind payload crc) := by
  refine .ite (.refl c) (.ite (overLength_effects c l _) (.ite ((hunt_effects c l).trans ?_)
    ((hunt_effects c l).trans (badFrame_effects _ l _))))
  by_cases is_restart : kind.toNat = 21
  · rw [is_restart] at special ⊢
    exact ruleRestart_effects (special _ rfl) l _ _
  · exact request_effects (ruleOf_effects l payload is_restart special) _

theorem lengthFault_effects (l : LinkId) (kind : Byte) (length : Nat) : Effects may c (c.lengthFault l kind length) :=
  .ite (overLength_effects c l _) (.refl c)

theorem gap_effects (l : LinkId) (kind : Option Byte) : Effects may c (c.gap l kind) :=
  .ite ((badFrame_effects c l _).trans (hunt_effects _ l)) (.refl c)

theorem discardOver_effects (l : LinkId) : Effects may c (c.discardOver l) := .ite (hunt_effects c l) (.refl c)

theorem replySent_effects (l : LinkId) : Effects may c (c.replySent l) := by
  unfold Chip.replySent
  split
  · exact .refl c
  next r rest oldest => exact .one (.sent c l r rest oldest)

theorem startByte_effects (l : LinkId) : Effects may c (c.startByte l) := by
  unfold Chip.startByte
  split
  · exact .one (.receive c l _ _ nofun)
  · exact .refl c

/-! ## Sound and the show clock -/

theorem takePeriod_effects : Effects may c c.takePeriod := by
  unfold Chip.takePeriod
  exact Effects.snoc (.ite (.one (.advance c 1)) (.refl c)) (.countPeriod _)

theorem audioPeriod_effects (special : may .clock) : Effects may c c.audioPeriod := by
  have played : Effects may c c.takePeriod.framePeriod := (takePeriod_effects c).snoc (.fountain (.framePeriod _ special))
  exact .ite played ((played.snoc (.fountain (.clockTook _))).settled c)

theorem localTick_effects (special : may .clock) : Effects may c c.localTick := by
  unfold Chip.localTick
  split
  next runs =>
    have ticked : Effects may c (clockTicked (c.reach (c.clock.stamp + 1)) (c.clock.stamp + 1)) :=
      (Effects.reach c _).snoc (.fountain (.tick _ _ special runs.1 runs.2))
    exact .ite ticked ((ticked.snoc (.fountain (.clockTook _))).settled c)
  next => exact .refl c

theorem restoreExpiry_effects : Effects may c c.restoreExpiry := by
  unfold Chip.restoreExpiry
  split
  next restoring _ => exact ((Effects.reach c _).snoc (.fountain (.restored _ restoring))).settled c
  next => exact .refl c

/-! ## The field lines -/

theorem closeGate_effects : Effects may c c.closeGate := by
  unfold Chip.closeGate
  have sampled : Effects may c { c.advance (1000 - c.sense.gateTimer) with
      sense := (c.advance (1000 - c.sense.gateTimer)).sense.closeGate c.limits.site.windScale c.limits.wind } :=
    (Effects.one (.advance c _)).snoc (.closeGate _)
  exact .ite (((sampled.snoc (.fountain (.notify _ _))).snoc (.fountain (.gust _))).settled c) sampled

theorem lineEvent_effects {upd : Lines → Lines} {f : Chip → Chip} (held : c.resetHeld = true → Effects may c { c with lines := upd c.lines })
    (free : c.resetHeld = false → Effects may c (f { c with lines := upd c.lines })) : Effects may c (c.lineEvent upd f) := by
  unfold Chip.lineEvent Chip.event
  split
  next is_held => exact held is_held
  next not_held => exact free (Bool.eq_false_iff.mpr not_held)

theorem withLineLevel_eStop (n : Lines) (which : LevelSwitch) (v : Bool) : (withLineLevel n which v).eStop = n.eStop := by
  cases which <;> rfl

theorem levelInput_effects (which : LevelSwitch) (v : Bool) : Effects may c (c.levelInput which v) := by
  have taken : Effects may c { c with lines := withLineLevel c.lines which v } :=
    .one (.lines c _ (withLineLevel_eStop _ _ _))
  exact .ite (.refl c) (lineEvent_effects c (fun _ => taken) fun _ => taken.snoc (.switch _ which _ rfl))

theorem levelExpiry_effects (which : LevelSwitch) : Effects may c (c.levelExpiry which) := by
  have formed := (Effects.reach (may := may) c ((c.sense.switch which).since + levelHold)).snoc
    (.level _ which { (c.reach ((c.sense.switch which).since + levelHold)).sense.switch which with state := lineLevel c.lines which })
  exact .ite (.refl c) (.ite (formed.snoc (.fountain (.trip _ _))) formed)

theorem stopPressed_effects : Effects may c c.stopPressed :=
  .ite (.refl c) (lineEvent_effects c (fun held => .one (.stopLine c true c.sense.eStop fun free => absurd (held.symm.trans free) nofun)) fun _ =>
    (Effects.one (.stopLine c true true fun _ => rfl)).snoc (.fountain (.trip _ _)))

theorem stopReleased_effects : Effects may c c.stopReleased :=
  .ite (lineEvent_effects c (fun held => .one (.stopLine c false c.sense.eStop fun free => absurd (held.symm.trans free) nofun)) fun _ =>
    .one (.stopLine c false false fun _ => rfl)) (.refl c)

theorem duskInput_effects (v : Bool) : Effects may c (c.duskInput v) := by
  have taken : Effects may c { c with lines := { c.lines with dusk := v } } := .one (.lines c _ rfl)
  exact .ite (.refl c) (lineEvent_effects c (fun _ => taken) fun _ => taken.snoc (.dusk _ _))

theorem duskExpiry_effects : Effects may c c.duskExpiry :=
  .ite (.refl c) ((Effects.reach c _).snoc (.dusk _ _))

/-! ## The pumps -/

section Pumps

variable {c} (p : PumpId)

/-- A chain of writes of the pumps alone, after the timebase has reached a moment, and the tests that follow. -/
theorem pumps_effects {d e before : Chip} (h : Effects may c d) (moves : WaterMoves noJet anyPump false d e) :
    Effects may c (Chip.settle before e) := (h.snoc (.fountain (.pumps d e moves))).settled before

theorem hydraulicUpdate_effects : Effects may c c.hydraulicUpdate := (Effects.one (.advance c _)).snoc (.hydraulics _)

theorem queueExpiry_effects : Effects may c c.queueExpiry := .one (.fountain (.pumps c _ (testQueue_moves c)))

theorem pressureProven_effects : Effects may c (c.pressureProven p) := by
  unfold Chip.pressureProven
  split
  next proven => exact pumps_effects (.refl c) (enterRunning_moves c p proven.1)
  next => exact .refl c

theorem pressOkRise_effects (high : Bool) : Effects may c (c.pressOkRise p high) := by
  unfold Chip.pressOkRise
  have raised : Effects may c { c with lines := { c.lines with pressOk := c.lines.pressOk.set p true } } := .one (.lines c _ rfl)
  have acted := raised.trans (.event (pressureProven_effects p))
  generalize Chip.event (Chip.pressureProven p) _ = d at acted ⊢
  exact acted.snoc (.lines d _ rfl)

theorem drvOkFall_effects (high : Bool) : Effects may c (c.drvOkFall p high) := by
  unfold Chip.drvOkFall
  have fallen : Effects may c { c with lines := { c.lines with drvOk := c.lines.drvOk.set p false } } := .one (.lines c _ rfl)
  have acted := fallen.trans (.event (f := fun c => c.settle (c.watchDrive p)) (pumps_effects (.refl _) (watchDrive_moves _ p)))
  generalize Chip.event _ _ = d at acted ⊢
  exact acted.snoc (.lines d _ rfl)

theorem primeMinExpiry_effects : Effects may c (c.primeMinExpiry p) := by
  unfold Chip.primeMinExpiry
  split
  next priming => exact .ite (pumps_effects (.reach c _) (enterRunning_moves _ p priming)) (.reach c _)
  next => exact .refl c

theorem primeTimeout_effects : Effects may c (c.primeTimeout p) :=
  .ite (pumps_effects (.reach c _) (enterFaulted_moves _ p _)) (.refl c)

theorem runMinExpiry_effects : Effects may c (c.runMinExpiry p) :=
  .ite (pumps_effects (.reach c _) (enterResting_moves _ p)) (.refl c)

theorem idleReached_effects : Effects may c (c.idleReached p) := by
  unfold Chip.idleReached
  split
  · exact pumps_effects (.reach c _) (stopRequest_moves _ p)
  · exact .refl c

theorem restOver_effects : Effects may c (c.restOver p) :=
  .ite ((Effects.reach c _).snoc (.fountain (.pumps _ _ (endEvent_moves (enterStopped_moves _ p))))) (.refl c)

end Pumps

/-! ## Circulation, modes and lamps -/

theorem periodReached_effects : Effects may c c.periodReached :=
  ((Effects.one (.advance c _)).snoc (.fountain (.periodExpiry _))).settled c

theorem advance_flush_isSome (k : Nat) : (c.advance k).circ.flush.isSome = c.circ.flush.isSome := by
  simp [Chip.advance]

theorem flushReached_effects : Effects may c c.flushReached := by
  unfold Chip.flushReached
  split
  next f runs =>
    exact .ite (((Effects.one (.advance c _)).snoc (.fountain (.endFlush _ f (by rw [advance_flush_isSome, runs]; rfl)))).settled c) (.refl c)
  next => exact .refl c

theorem zoneReached_effects : Effects may c c.zoneReached := by
  unfold Chip.zoneReached
  split
  next f runs =>
    exact .ite (((Effects.one (.advance c _)).snoc (.fountain (.zoneDone _ f (by rw [advance_flush_isSome, runs]; rfl)))).settled c) (.refl c)
  next => exact .refl c

theorem stallReached_effects : Effects may c c.stallReached := by
  unfold Chip.stallReached
  split
  next f runs =>
    exact .ite (((Effects.one (.advance c _)).snoc (.fountain (.stallFlush _ f (by rw [advance_flush_isSome, runs]; rfl)))).settled c) (.refl c)
  next => exact .refl c

theorem settleExpiry_effects : Effects may c c.settleExpiry := by
  unfold Chip.settleExpiry
  split
  next t settling => exact ((Effects.reach c _).snoc (.fountain (.powered _ (by rw [Chip.reach_mode, settling]; nofun)))).settled c
  next => exact .refl c

theorem dormancyExpiry_effects : Effects may c c.dormancyExpiry := by
  unfold Chip.dormancyExpiry
  split
  next =>
    split
    next alone =>
      have ⟨mode, idle⟩ : c.mode.mode = .standby ∧ c.run.cue = .idle := by
        simp only [Chip.unattended, Bool.and_eq_true, decide_eq_true_eq] at alone
        exact alone.1
      exact ((Effects.reach c _).snoc (.fountain (.dormant _ mode idle))).settled c
    next => exact .refl c
  next => exact .refl c

theorem frameReached_effects : Effects may c c.frameReached :=
  ((Effects.one (.advance c _)).snoc (.fountain (.lampFrame _))).settled c

/-! ## The dispatch -/

/-- The effects that few commands have, as far as this one may have them. -/
def mayMake (i : Instr) (x : Special) : Prop :=
  match i with
  | .powerOnReset _ => x = .powerOn
  | .lineResetRelease _ => x = .lineReset
  | .audioFramePeriod | .showClockTick => x = .clock
  | .frameReceived _ kind _ _ => kindMakes kind.toNat x
  | i => ∃ l kind payload, requestFrame i = some (l, kind, payload) ∧ kindMakes kind x

/-- The command changes the part by a chain of effects, and leaves the commands that wait. -/
def CommandDoes (i : Instr) : Prop := ∀ s t : State, exec i s = .next t → Effects (mayMake i) s.chip t.chip ∧ t.pending = s.pending

namespace CommandDoes

variable {i : Instr} {f : Chip → Chip}

theorem of_act (run : ∀ s, exec i s = s.act f) (h : ∀ c, Effects (mayMake i) c (f c)) : CommandDoes i := by
  intro s t next
  obtain rfl : { s with chip := f s.chip } = t := by simpa [run] using next
  exact ⟨h s.chip, rfl⟩

theorem of_event (run : ∀ s, exec i s = s.act (Chip.event f)) (h : ∀ c, Effects (mayMake i) c (f c)) : CommandDoes i :=
  of_act run fun c => (h c).event

end CommandDoes

/-- A request runs its rule on its link, and does what the rule does. -/
structure RequestDoes (i : Instr) (l : LinkId) (kind : Nat) (rule : Rule) : Prop where
  run : ∀ s, exec i s = s.act (Chip.request l kind rule)
  does : kind ≠ kindRestart → RuleEffects (mayMake i) kind rule
  effects : ∀ c, Effects (mayMake i) c (Chip.request l kind rule c)

theorem RequestDoes.of_rule {i : Instr} {l : LinkId} {kind : Nat} {rule : Rule}
    (run : ∀ s, exec i s = s.act (Chip.request l kind rule)) (h : RuleEffects (mayMake i) kind rule) : RequestDoes i l kind rule :=
  ⟨run, fun _ => h, request_effects h⟩

theorem RequestDoes.restart {l : LinkId} : RequestDoes (.restart l) l kindRestart (withoutPayload kindRestart true (ruleRestart l)) :=
  ⟨fun _ => rfl, fun other => absurd rfl other, ruleRestart_effects (may := mayMake (.restart l)) ⟨_, _, _, rfl, rfl⟩ l true⟩

open RequestDoes in
/-- Every request runs a rule. -/
theorem request_does {i : Instr} {l : LinkId} {kind : Nat} {payload : List Byte} (h : requestFrame i = some (l, kind, payload)) :
    ∃ rule, RequestDoes i l kind rule := by
  cases i with
  | pageOpen l page => cases h; exact ⟨_, of_rule (fun _ => rfl) (rulePageOpen_effects ⟨_, _, _, rfl, rfl⟩ page)⟩
  | stepWrite l page start count steps =>
    cases h
    exact ⟨_, of_rule (fun _ => rfl) (ruleStepWrite_effects ⟨_, _, _, rfl, rfl⟩ page start count steps)⟩
  | sceneWrite l page scene entry => cases h; exact ⟨_, of_rule (fun _ => rfl) (ruleSceneWrite_effects ⟨_, _, _, rfl, rfl⟩ page scene entry)⟩
  | slotWrite l page slot source sense threshold => cases h; exact ⟨_, of_rule (fun _ => rfl) (ruleSlotWrite_effects ⟨_, _, _, rfl, rfl⟩ page slot _)⟩
  | pageClose l page => cases h; exact ⟨_, of_rule (fun _ => rfl) (rulePageClose_effects ⟨_, _, _, rfl, rfl⟩ page)⟩
  | pageFree l page => cases h; exact ⟨_, of_rule (fun _ => rfl) (rulePageFree_effects ⟨_, _, _, rfl, rfl⟩ page)⟩
  | cue l page music origin => cases h; exact ⟨_, of_rule (fun _ => rfl) (ruleCue_effects ⟨_, _, _, rfl, rfl⟩ page music origin)⟩
  | uncue l => cases h; exact ⟨_, of_rule (fun _ => rfl) (withoutPayload_effects _ ruleUncue_effects)⟩
  | start l => cases h; exact ⟨_, of_rule (fun _ => rfl) (withoutPayload_effects _ ruleStart_effects)⟩
  | pause l => cases h; exact ⟨_, of_rule (fun _ => rfl) (withoutPayload_effects _ rulePause_effects)⟩
  | continueShow l => cases h; exact ⟨_, of_rule (fun _ => rfl) (withoutPayload_effects _ ruleContinue_effects)⟩
  | holdSet l scene => cases h; exact ⟨_, of_rule (fun _ => rfl) (ruleHoldSet_effects scene)⟩
  | audio l position count frames => cases h; exact ⟨_, of_rule (fun _ => rfl) (ruleAudio_effects position count frames)⟩
  | audioEnd l position => cases h; exact ⟨_, of_rule (fun _ => rfl) (ruleAudioEnd_effects position)⟩
  | gain l value => cases h; exact ⟨_, of_rule (fun _ => rfl) (ruleGain_effects value)⟩
  | duck l value => cases h; exact ⟨_, of_rule (fun _ => rfl) (ruleDuck_effects value)⟩
  | stop l => cases h; exact ⟨_, of_rule (fun _ => rfl) (withoutPayload_effects _ ruleStop_effects)⟩
  | take l => cases h; exact ⟨_, of_rule (fun _ => rfl) (withoutPayload_effects _ ruleTake_effects)⟩
  | release l => cases h; exact ⟨_, of_rule (fun _ => rfl) (withoutPayload_effects _ ruleRelease_effects)⟩
  | trip l => cases h; exact ⟨_, of_rule (fun _ => rfl) (withoutPayload_effects _ ruleTrip_effects)⟩
  | clearTrip l => cases h; exact ⟨_, of_rule (fun _ => rfl) (withoutPayload_effects _ (ruleClearTrip_effects ⟨_, _, _, rfl, rfl⟩))⟩
  | restart l => cases h; exact ⟨_, restart⟩
  | jetSet l jets demand => cases h; exact ⟨_, of_rule (fun _ => rfl) (ruleJetSet_effects jets demand)⟩
  | pumpStart l pumps => cases h; exact ⟨_, of_rule (fun _ => rfl) (rulePumpStart_effects pumps)⟩
  | pumpStop l pumps => cases h; exact ⟨_, of_rule (fun _ => rfl) (rulePumpStop_effects pumps)⟩
  | pumpPolicy l pumps policy => cases h; exact ⟨_, of_rule (fun _ => rfl) (rulePumpPolicy_effects pumps policy)⟩
  | clearPump l pump => cases h; exact ⟨_, of_rule (fun _ => rfl) (ruleClearPump_effects pump)⟩
  | lightSet l lums mask red green blue white fade =>
    cases h
    exact ⟨_, of_rule (fun _ => rfl) (ruleLightSet_effects lums mask red green blue white fade)⟩
  | zoneMask l mask => cases h; exact ⟨_, of_rule (fun _ => rfl) (ruleZoneMask_effects mask)⟩
  | flushAll l => cases h; exact ⟨_, of_rule (fun _ => rfl) (withoutPayload_effects _ ruleFlushAll_effects)⟩
  | limitWrite l sect bytes => cases h; exact ⟨_, of_rule (fun _ => rfl) (ruleLimitWrite_effects ⟨_, _, _, rfl, rfl⟩ sect bytes)⟩
  | commission l code => cases h; exact ⟨_, of_rule (fun _ => rfl) (ruleCommission_effects ⟨_, _, _, rfl, rfl⟩ code)⟩
  | relax l code => cases h; exact ⟨_, of_rule (fun _ => rfl) (ruleRelax_effects ⟨_, _, _, rfl, rfl⟩ code)⟩
  | sleep l => cases h; exact ⟨_, of_rule (fun _ => rfl) (withoutPayload_effects _ ruleSleep_effects)⟩
  | wake l => cases h; exact ⟨_, of_rule (fun _ => rfl) (withoutPayload_effects _ ruleWake_effects)⟩
  | status l => cases h; exact ⟨_, of_rule (fun _ => rfl) (withoutPayload_effects _ (ruleStatus_effects l))⟩
  | readShow l => cases h; exact ⟨_, of_rule (fun _ => rfl) (withoutPayload_effects _ (readOf_effects _))⟩
  | readPumps l => cases h; exact ⟨_, of_rule (fun _ => rfl) (withoutPayload_effects _ (readOf_effects _))⟩
  | readJets l => cases h; exact ⟨_, of_rule (fun _ => rfl) (withoutPayload_effects _ (readOf_effects _))⟩
  | readLamps l luminaire => cases h; exact ⟨_, of_rule (fun _ => rfl) (ruleReadLamps_effects luminaire)⟩
  | readSite l => cases h; exact ⟨_, of_rule (fun _ => rfl) (withoutPayload_effects _ (readOf_effects _))⟩
  | readLimits l sect => cases h; exact ⟨_, of_rule (fun _ => rfl) (ruleReadLimits_effects sect)⟩
  | readPage l page => cases h; exact ⟨_, of_rule (fun _ => rfl) (ruleReadPage_effects page)⟩
  | readSteps l page start count => cases h; exact ⟨_, of_rule (fun _ => rfl) (ruleReadSteps_effects page start count)⟩
  | _ => cases h

open CommandDoes in
/-- Every command that is no request is a chain of effects. -/
theorem event_does {i : Instr} (h : requestFrame i = none) : CommandDoes i := by
  cases i with
  | validationComplete => exact of_event (fun _ => rfl) completeValidation_effects
  | frameReceived l kind payload crc =>
    exact of_event (fun _ => rfl) fun c => frameEnd_effects c l kind payload crc fun _ => id
  | frameLengthFault l kind length => exact of_event (fun _ => rfl) fun c => lengthFault_effects c l kind length
  | frameGapTimeout l kind => exact of_event (fun _ => rfl) fun c => gap_effects c l kind
  | discardIdleEnd l => exact of_event (fun _ => rfl) fun c => discardOver_effects c l
  | replyFrameSent l => exact of_event (fun _ => rfl) fun c => replySent_effects c l
  | powerOnReset lines => exact of_act (fun _ => rfl) fun c => .one (.powerOn c lines rfl)
  | lineResetAssert => exact of_act (fun _ => rfl) fun c => .one (.assertReset c)
  | lineResetRelease straps => exact of_act (fun _ => rfl) fun c => .one (.lineReset c straps rfl)
  | showClockTick => exact of_event (fun _ => rfl) fun c => localTick_effects c rfl
  | audioFramePeriod => exact of_event (fun _ => rfl) fun c => audioPeriod_effects c rfl
  | gainStep => exact of_event (fun _ => rfl) fun c => .one (.gainStep c)
  | anemometerPulse => exact of_event (fun _ => rfl) fun c => .one (.pulse c)
  | windGateClose => exact of_event (fun _ => rfl) closeGate_effects
  | levelInputChange which asserted => exact of_act (fun _ => rfl) fun c => levelInput_effects c which asserted
  | levelDebounceExpiry which => exact of_event (fun _ => rfl) fun c => levelExpiry_effects c which
  | eStopAssert => exact of_act (fun _ => rfl) stopPressed_effects
  | eStopRelease => exact of_act (fun _ => rfl) stopReleased_effects
  | duskInputChange high => exact of_act (fun _ => rfl) fun c => duskInput_effects c high
  | duskDebounceExpiry => exact of_event (fun _ => rfl) duskExpiry_effects
  | hydraulicUpdate => exact of_event (fun _ => rfl) fun _ => hydraulicUpdate_effects
  | queueTimingExpiry => exact of_event (fun _ => rfl) fun _ => queueExpiry_effects
  | pressOkRise p high => exact of_act (fun _ => rfl) fun _ => pressOkRise_effects p high
  | primeMinExpiry p => exact of_event (fun _ => rfl) fun _ => primeMinExpiry_effects p
  | primeTimeout p => exact of_event (fun _ => rfl) fun _ => primeTimeout_effects p
  | runMinExpiry p => exact of_event (fun _ => rfl) fun _ => runMinExpiry_effects p
  | idleExpiry p => exact of_event (fun _ => rfl) fun _ => idleReached_effects p
  | restEnd p => exact of_event (fun _ => rfl) fun _ => restOver_effects p
  | drvOkFall p high => exact of_act (fun _ => rfl) fun _ => drvOkFall_effects p high
  | flushPeriodExpiry => exact of_event (fun _ => rfl) periodReached_effects
  | flushEnd => exact of_event (fun _ => rfl) flushReached_effects
  | flushAllZoneDone => exact of_event (fun _ => rfl) zoneReached_effects
  | flushStall => exact of_event (fun _ => rfl) stallReached_effects
  | settleExpiry => exact of_event (fun _ => rfl) settleExpiry_effects
  | dormancyExpiry => exact of_event (fun _ => rfl) dormancyExpiry_effects
  | restoreTimeout => exact of_event (fun _ => rfl) restoreExpiry_effects
  | lampFrame => exact of_event (fun _ => rfl) frameReached_effects
  | startByteReceived l => exact of_event (fun _ => rfl) fun c => startByte_effects c l
  | _ => cases h

/-- Every command is a chain of effects. -/
theorem commandDoes (i : Instr) : CommandDoes i := by
  rcases h : requestFrame i with _ | ⟨l, kind, payload⟩
  · exact event_does h
  · obtain ⟨rule, does⟩ := request_does h
    exact .of_act does.run does.effects

theorem exec_effects {i : Instr} {s t : State} (next : exec i s = .next t) : Effects (mayMake i) s.chip t.chip :=
  (commandDoes i s t next).1

/-- What every effect keeps, every step keeps: an idle step passes one millisecond at most. -/
theorem step_keeps {P : Chip → Prop} (effect : ∀ {may : Special → Prop} {c d : Chip}, Effect may c d → P c → P d) {s t : State}
    (h : P s.chip) (next : step s = .next t) : P t.chip := by
  unfold step at next
  split at next
  · cases next
    rcases State.idle_cases s with ⟨-, e⟩ | ⟨-, group, -, e⟩ <;> rw [e]
    · exact effect (may := fun _ => False) (.advance s.chip 1) h
    · exact h
  · exact (exec_effects next).keeps effect h

end Sys2Proof.Proofs.StepEffects


/-! PROOF. The operations of CUE, MOD and CIR as chains of single moves, seen from the water: each is a chain of HYD's writes, of
changes of the power and of the circulation record, and of moves that leave the water still. What every move keeps, every operation
keeps. -/

namespace Sys2Proof.Proofs.FountainMoves

open Sys2Proof Sys2Proof.Machine Sys2Proof.Proofs.Water Sys2Proof.Proofs.StepEffects

/-! ## The moves -/

/-- Every notice. -/
def everyNotice : List Notice :=
  [.showState, .mark, .hold, .gust, .audioLow, .audioStarved, .pumpFault, .trip, .flushOverdue, .flushStalled, .pageChecked, .mode]

theorem mem_everyNotice (n : Notice) : n ∈ everyNotice := by cases n <;> decide

/-- From `c` to `d` nothing has changed of the pumps, the start queue, the grant history, the jets, the circulation record and the
power, and no jet but a CLOSED one has changed its pump. -/
structure WaterStands (c d : Chip) : Prop where
  pumps : d.pumps = c.pumps
  queue : d.queue = c.queue
  joining : d.joining = c.joining
  history : d.history = c.history
  jets : d.jets = c.jets
  circ : d.circ = c.circ
  sMin : d.sMinInForce = c.sMinInForce
  pumpOf : ∀ j : JetId, (c.jets[j]).state ≠ .closed → d.pumpOf j = c.pumpOf j
  power : d.mode.power = c.mode.power
  flushRunning : d.mode.flushRunning = c.mode.flushRunning

/-- The steps, scenes and slots of every page stand. -/
def PagesStand (c d : Chip) : Prop := ∀ k : PageId,
  (d.pages[k]).steps = (c.pages[k]).steps ∧ (d.pages[k]).scenes = (c.pages[k]).scenes ∧ (d.pages[k]).slots = (c.pages[k]).slots

namespace PagesStand

variable {c d e : Chip}

theorem refl (c : Chip) : PagesStand c c := fun _ => ⟨rfl, rfl, rfl⟩

theorem of_pages (h : d.pages = c.pages) : PagesStand c d := fun _ => by rw [h]; exact ⟨rfl, rfl, rfl⟩

theorem trans (h : PagesStand c d) (k : PagesStand d e) : PagesStand c e := fun p =>
  ⟨(k p).1.trans (h p).1, (k p).2.1.trans (h p).2.1, (k p).2.2.trans (h p).2.2⟩

end PagesStand

/-- The water and the contents of the pages stand, and the links have gained notices alone. -/
structure Still (c d : Chip) : Prop extends WaterStands c d where
  pages : PagesStand c d
  links : Noted everyNotice c d

theorem Still.of_links {c d : Chip} (pumps : d.pumps = c.pumps) (queue : d.queue = c.queue) (joining : d.joining = c.joining)
    (history : d.history = c.history) (jets : d.jets = c.jets) (circ : d.circ = c.circ) (sMin : d.sMinInForce = c.sMinInForce)
    (limits : d.limits = c.limits) (power : d.mode.power = c.mode.power) (running : d.mode.flushRunning = c.mode.flushRunning)
    (pages : d.pages = c.pages) (links : d.links = c.links) : Still c d where
  pumps := pumps
  queue := queue
  joining := joining
  history := history
  jets := jets
  circ := circ
  sMin := sMin
  pumpOf _ _ := by simp only [Chip.pumpOf, limits]
  power := power
  flushRunning := running
  pages := .of_pages pages
  links := .of_links links

theorem Still.notify (c : Chip) (n : Notice) : Still c (c.notify n) :=
  ⟨⟨rfl, rfl, rfl, rfl, rfl, rfl, rfl, fun _ _ => rfl, rfl, rfl⟩, .of_pages rfl, .notify (mem_everyNotice n) c⟩

/-- What an audio operation that has raised notices alone leaves still. -/
theorem Still.of_audio {c d : Chip} (h : c.AudioOnly d) (links : Noted everyNotice c d) : Still c d :=
  ⟨⟨h.pumps, h.queue, h.joining, h.history, h.jets, h.circ, by rw [h.1], fun _ _ => by simp only [Chip.pumpOf, h.limits],
    by rw [h.mode], by rw [h.mode]⟩, .of_pages h.pages, links⟩

theorem Still.of_lamps {c d : Chip} (h : c.LampsOnly d) : Still c d := by
  rw [h]
  exact .of_links rfl rfl rfl rfl rfl rfl rfl rfl rfl rfl rfl rfl

/-- A flush whose zone has been open and dry for no time. -/
def Fresh (f : Flush) : Prop := f.openTime = 0 ∧ f.dryTime = 0

/-- A jet after a change of the power: a WAITING jet takes the cause that holds in `d` (R108). -/
def recaused (d : Chip) (j : JetId) : Jet :=
  if (d.jets[j]).state = .waiting then { d.jets[j] with waitCause := some (d.waitCauseOn (d.pumpOf j)) } else d.jets[j]

/-- A jet at a trip: CLOSED, without owner (R118). -/
def shutAtTrip (x : Jet) : Jet :=
  { x with state := .closed, owner := .none, demand := 0, burstEnd := none, waitCause := none, height := 0 }

/-- A pump at a trip, once it rests where it was up: STOP, and nothing pending (R102). -/
def stoppedAtTrip (q : Pump) : Pump := { q with intent := .stop, stopPending := false, idleExpiry := none }

/-- The single moves of the water, with what holds where the operations make them. -/
inductive Move : Bool → Chip → Chip → Prop
  | water {b : Bool} {c d : Chip} (moves : WaterMoves anyJet anyPump b c d) : Move b c d
  | still {b : Bool} {c d : Chip} (still : Still c d) : Move b c d
  | power {b : Bool} (c : Chip) (m : ModeRecord) (js : Vector Jet 48) (running : m.flushRunning = c.mode.flushRunning)
      (jets : ∀ j : JetId, js[j] = recaused { c with mode := m } j) : Move b c { c with mode := m, jets := js }
  | circ {b : Bool} (c : Chip) (r : Circulation) (flush : r.flush = c.circ.flush)
      (debt : c.circ.debt ≤ 8 → r.debt ≤ 8)
      (timer : c.circ.periodTimer ≤ c.circ.period * 1000 → r.periodTimer ≤ r.period * 1000) : Move b c { c with circ := r }
  | begin {b : Bool} (c d : Chip) (f : Flush) (fresh : Fresh f)
      (moves : WaterMoves anyJet anyPump b { c with circ := { c.circ with flush := some f } } d) :
      Move b c { d with mode := { d.mode with flushRunning := true } }
  | renew {b : Bool} (c : Chip) (f : Flush) (fresh : Fresh f) (runs : c.circ.flush.isSome = true) :
      Move b c { c with circ := { c.circ with flush := some f } }
  | drop {b : Bool} (c : Chip) : Move b c c.dropFlush
  | clearQueue {b : Bool} (c : Chip) : Move b c { c with queue := [], joining := [] }
  | stopDrives {b : Bool} (c : Chip) (ps : Vector Pump 12) (pumps : ∀ p : PumpId, ps[p] = stoppedAtTrip c.pumps[p]) :
      Move b c { c with pumps := ps }
  | closeJets {b : Bool} (c : Chip) (js : Vector Jet 48) (jets : ∀ j : JetId, js[j] = shutAtTrip c.jets[j]) :
      Move b c { c with jets := js }

/-- Chains of moves. A chain in which requests were left to join ends as one that leaves none where they are collected. -/
inductive Moves : Bool → Chip → Chip → Prop
  | refl {b : Bool} (c : Chip) : Moves b c c
  | trans {b : Bool} {c d e : Chip} : Moves b c d → Moves b d e → Moves b c e
  | move {b : Bool} {c d : Chip} : Move b c d → Moves b c d
  | collect {c d : Chip} : Moves true c d → Moves false c (collected d)
  | loose {c d : Chip} : Moves false c d → Moves true c d

namespace Moves

variable {b : Bool} {c d e : Chip}

theorem keeps {P : Chip → Prop} (move : ∀ {b c d}, Move b c d → P c → P d) (collect : ∀ {c}, P c → P (collected c))
    (h : Moves b c d) : P c → P d := by
  induction h with
  | refl c => exact id
  | trans _ _ ih ik => exact ik ∘ ih
  | move m => exact move m
  | collect _ ih => exact collect ∘ ih
  | loose _ ih => exact ih

theorem rel {R : Chip → Chip → Prop} (refl : ∀ c, R c c) (trans : ∀ {c d e}, R c d → R d e → R c e)
    (move : ∀ {b c d}, Move b c d → R c d) (collect : ∀ c, R c (collected c)) (h : Moves b c d) : R c d :=
  keeps (P := R c) (fun m k => trans k (move m)) (fun k => trans k (collect _)) h (refl c)

theorem loosen (h : Moves false c d) : Moves b c d := by
  cases b
  · exact h
  · exact .loose h

theorem water (h : WaterMoves anyJet anyPump b c d) : Moves b c d := .move (.water h)

theorem still (h : Still c d) : Moves b c d := .move (.still h)

theorem notify (c : Chip) (n : Notice) : Moves b c (c.notify n) := still (.notify c n)

theorem lamps (h : c.LampsOnly d) : Moves b c d := still (.of_lamps h)

theorem ite {p : Prop} [Decidable p] (h : Moves b c d) (k : Moves b c e) : Moves b c (if p then d else e) := by
  split <;> assumption

/-- At the end of the event, the requests left to join are collected. -/
theorem endEvent (h : Moves true c d) : Moves b c d.endEvent := .loosen (h.collect.trans (water (testQueue_moves _)))

end Moves

variable {b : Bool} (c : Chip)

/-! ## Power and circulation -/

theorem setMode_still (m : ModeRecord) (power : m.power = c.mode.power) (running : m.flushRunning = c.mode.flushRunning) :
    Still c { c with mode := m } := .of_links rfl rfl rfl rfl rfl rfl rfl rfl power running rfl rfl

theorem recauseJets_moves (m : ModeRecord) (running : m.flushRunning = c.mode.flushRunning) :
    Moves b c (Chip.recauseJets { c with mode := m }) :=
  .move (.power c m _ running fun _ => Vector.getElem_ofFn _)

theorem raisePower_moves : Moves b c c.raisePower := .ite (recauseJets_moves c _ rfl) (.refl c)

theorem dropPower_moves : Moves b c c.dropPower := recauseJets_moves c _ rfl

theorem powerOn_moves : Moves b c c.powerOn := recauseJets_moves c _ rfl

theorem testPower_moves : Moves b c c.testPower := .ite (dropPower_moves c) (.refl c)

theorem advancePointer_moves (z : ZoneId) : Moves b c (c.advancePointer z) := .move (.circ c _ rfl id id)

theorem payDebt_moves : Moves b c c.payDebt := .move (.circ c _ rfl (fun h => (Nat.sub_le _ _).trans h) id)

theorem beginFlush_moves (mode : FlushMode) (z : ZoneId) : Moves b c (c.beginFlush mode z) := by
  unfold Chip.beginFlush
  extract_lets f _ taken written _ begun
  have begins : Moves b c begun :=
    .move (.begin c written f ⟨rfl, rfl⟩ (endEvent_moves (demandWrites_moves taken _ _ fun _ _ => trivial)))
  exact .ite (begins.trans (raisePower_moves begun)) begins

theorem testFlush_moves : Moves b c c.testFlush := by
  unfold Chip.testFlush
  extract_lets z
  exact .ite (.trans (.move (.circ c { c.circ with pointer := z } rfl id id)) (beginFlush_moves _ _ z)) (.refl c)

theorem releaseStarted_moves (started : Vector Bool 12) : Moves b c (c.releaseStarted started) :=
  .water (.forEach fun p _ d => stopUnlessDemanded_moves d p)

theorem releaseJets_moves : Moves b c c.releaseJets := .water (demandWrites_zero_moves c .none fun _ _ => trivial)

theorem closeFlush_moves (f : Flush) : Moves b c (c.closeFlush f) :=
  .endEvent (((releaseJets_moves c).trans (releaseStarted_moves _ _)).trans (.move (.drop _)))

theorem cutFlush_moves : Moves b c c.cutFlush := by
  unfold Chip.cutFlush
  split
  · exact .refl c
  next f _ =>
    exact .trans (.trans (.ite ((payDebt_moves c).trans (advancePointer_moves _ _)) (.refl c)) (releaseStarted_moves _ _))
      (.move (.drop _))

theorem releaseJets_isSome : c.releaseJets.circ.flush.isSome = c.circ.flush.isSome :=
  (waterMoves_flush (J := anyJet) (I := anyPump) (b := true) (demandWrites_zero_moves c .none fun _ _ => trivial)).isSome

theorem zoneDone_moves (f : Flush) (runs : c.circ.flush.isSome = true) : Moves b c (c.zoneDone f) := by
  unfold Chip.zoneDone
  split
  next z _ =>
    extract_lets g d _ renewed
    have renews : Moves true c renewed :=
      (releaseJets_moves c).trans (.move (.renew d g ⟨rfl, rfl⟩ ((releaseJets_isSome c).trans runs)))
    exact .endEvent ((renews.trans (.water (demandWrites_moves renewed _ _ fun _ _ => trivial))).trans (releaseStarted_moves _ _))
  next => exact (closeFlush_moves c f).trans (.move (.circ _ _ rfl (fun _ => Nat.zero_le _) id))

theorem endFlush_moves (f : Flush) : Moves b c (c.endFlush f) :=
  ((closeFlush_moves c f).trans (payDebt_moves _)).trans (advancePointer_moves _ _)

theorem stallFlush_moves (f : Flush) : Moves b c (c.stallFlush f) := by
  unfold Chip.stallFlush
  extract_lets d
  have closed : Moves b c d := closeFlush_moves c f
  exact .trans (.ite (closed.trans (advancePointer_moves d _)) closed) (.notify _ _)

theorem periodExpiry_moves : Moves b c c.periodExpiry := by
  unfold Chip.periodExpiry
  extract_lets _ d
  have expired : Moves b c d := .move (.circ c _ rfl (fun _ => Nat.min_le_left _ _) fun _ => Nat.zero_le _)
  exact .ite (expired.trans (.notify d _)) expired

/-! ## Modes -/

theorem toMode_moves (m : FountainMode) : Moves b c (c.toMode m) :=
  .ite (.refl c) (.trans (.still (setMode_still c { c.mode with mode := m } rfl rfl)) (.notify _ _))

theorem beginWake_moves (w : WakeTo) : Moves b c (c.beginWake w) := by
  have woken : Moves b c (Chip.toMode { c.raisePower with mode := { c.raisePower.mode with wake := some w } } .settling) :=
    ((raisePower_moves c).trans (.still (setMode_still _ { c.raisePower.mode with wake := some w } rfl rfl))).trans (toMode_moves _ _)
  unfold Chip.beginWake
  split
  exacts [woken, woken, toMode_moves c _]

theorem endWake_moves : Moves b c c.endWake := by
  unfold Chip.endWake
  split
  · exact .trans (.still (setMode_still c { c.mode with wake := none } rfl rfl)) (toMode_moves _ _)
  · exact .refl c

theorem enterDormant_moves : Moves b c c.enterDormant := by
  unfold Chip.enterDormant
  extract_lets d _ d' stopped
  have dormant : Moves b c d' := (toMode_moves c _).trans (.still (setMode_still d _ rfl rfl))
  have stops : Moves b c stopped := dormant.trans (.water (.forEach fun p _ d => intentStop_moves trivial))
  exact (stops.trans (testPower_moves _)).trans (.lamps (Chip.zeroFrame_lamps _))

/-! ## Sound -/

theorem endOfMusic_still : Still c c.endOfMusic := .of_audio (Chip.endOfMusic_audio c) (.of_links rfl)

theorem starve_noted : Noted everyNotice c c.starve := .trans (.of_links (d := { c with playback := _ }) rfl) (.notify (mem_everyNotice _) _)

theorem resumeAudio_still : Still c c.resumeAudio :=
  .of_audio (Chip.resumeAudio_audio c)
    (.ite (.refl c) (.ite (.of_links rfl) (.ite (.of_links rfl) (starve_noted c))))

theorem holdAudio_links : c.holdAudio.links = c.links := by unfold Chip.holdAudio; split <;> rfl

theorem holdAudio_still : Still c c.holdAudio := .of_audio (Chip.holdAudio_audio c) (.of_links (holdAudio_links c))

/-- An audio operation that leaves the links. -/
theorem audio_moves {d : Chip} (h : c.AudioOnly d) (links : d.links = c.links) : Moves b c d := .still (.of_audio h (.of_links links))

theorem lowCrossing_still (fill : Nat) : Still c (c.lowCrossing fill) :=
  .of_audio (Chip.lowCrossing_audio c fill) (.ite (.notify (mem_everyNotice _) c) (.refl c))

theorem playFrame_links : c.playFrame.links = c.links := by
  unfold Chip.playFrame
  extract_lets
  split <;> rfl

theorem testBuffer_moves (fill : Nat) : Moves b c (c.testBuffer fill) := by
  have ended : Moves b c c.endOfMusic := .still (endOfMusic_still c)
  unfold Chip.testBuffer
  split
  · exact .ite ended (.ite (.still (.of_audio (Chip.starve_audio c) (starve_noted c))) (.still (lowCrossing_still c fill)))
  · exact .ite ended (.refl c)
  all_goals exact .refl c

theorem followPosition_moves : Moves b c c.followPosition :=
  .ite (audio_moves c (Chip.clock_audio c _) rfl) (.refl c)

theorem framePeriod_moves : Moves b c c.framePeriod :=
  ((audio_moves c (Chip.playFrame_audio c) (playFrame_links c)).trans (followPosition_moves _)).trans (testBuffer_moves _ _)

/-! ## The end of a show, and the restore pass -/

theorem setRun_still (r : ShowRecord) : Still c { c with run := r } := .of_links rfl rfl rfl rfl rfl rfl rfl rfl rfl rfl rfl rfl

theorem setImage_still (m : ShowImage) : Still c { c with image := m } := .of_links rfl rfl rfl rfl rfl rfl rfl rfl rfl rfl rfl rfl

theorem endRestore_moves : Moves b c c.endRestore := by
  unfold Chip.endRestore
  extract_lets _ _ d
  have running : Moves b c d := .still (.of_links rfl rfl rfl rfl rfl rfl rfl rfl rfl rfl rfl rfl)
  exact ((running.trans (.notify d _)).trans (audio_moves _ (Chip.startClock_audio _) rfl)).trans (.still (resumeAudio_still _))

theorem testRestore_moves : Moves b c c.testRestore := .ite (endRestore_moves c) (.refl c)

/-- A page whose state alone changes. -/
theorem setPageState_still (k : PageId) (st : PageState) : Still c (c.updPage k fun pg => { pg with state := st }) :=
  ⟨⟨rfl, rfl, rfl, rfl, rfl, rfl, rfl, fun _ _ => rfl, rfl, rfl⟩, fun p => by
    simp only [Fin.getElem_fin, Chip.updPage_page]
    split
    next same => subst same; exact ⟨rfl, rfl, rfl⟩
    next => exact ⟨rfl, rfl, rfl⟩, .of_links rfl⟩

theorem releasePage_moves : Moves b c c.releasePage := by
  unfold Chip.releasePage
  split
  · exact .still (setPageState_still c _ _)
  · exact .refl c

theorem closeShow_moves : Moves b c c.closeShow :=
  ((releasePage_moves c).trans (.still (setRun_still _ _))).trans (.notify _ _)

theorem completeEnding_moves : Moves b c c.completeEnding :=
  (((closeShow_moves c).trans (audio_moves _ (Chip.stopClock_audio _) rfl)).trans (.lamps (Chip.darkenShow_lamps _))).trans
    (toMode_moves _ _)

theorem testEnding_moves : Moves b c c.testEnding := .ite (completeEnding_moves c) (.refl c)

theorem testDormancy_moves (before : Chip) : Moves b c (Chip.testDormancy before c) :=
  .ite (.still (setMode_still c _ rfl rfl)) (.ite (.refl c) (.still (setMode_still c _ rfl rfl)))

theorem settle_moves (before : Chip) : Moves b c (Chip.settle before c) :=
  ((((testRestore_moves c).trans (testEnding_moves _)).trans (testFlush_moves _)).trans (testPower_moves _)).trans
    (testDormancy_moves _ _)

/-! ## Trips -/

theorem tripPumps_moves : Moves b c c.tripPumps := by
  unfold Chip.tripPumps
  extract_lets d rested
  have cleared : Moves b c d := .move (.clearQueue c)
  have rests : Moves b c rested := cleared.trans (.water (.forEach fun p _ x => .ite (enterResting_moves x p) (.refl x)))
  exact rests.trans (.move (.stopDrives rested _ fun _ => Vector.getElem_ofFn _))

theorem closeJets_moves : Moves b c c.closeJets := .move (.closeJets c _ fun _ => Vector.getElem_ofFn _)

theorem abortShow_moves : Moves b c c.abortShow := by
  unfold Chip.abortShow
  extract_lets _ d
  have aborted : Moves b c d := .still (setMode_still c _ rfl rfl)
  exact .ite aborted (aborted.trans (closeShow_moves d))

theorem tripAudio_moves : Moves b c c.tripAudio := audio_moves c (Chip.tripAudio_audio c) rfl

theorem enterTripped_moves (cause : TripCause) : Moves b c (c.enterTripped cause) := by
  unfold Chip.enterTripped
  extract_lets _ d e
  have caused : Moves b c d := .still (setMode_still c _ rfl rfl)
  have dark : Moves b c e :=
    ((((((caused.trans (dropPower_moves d)).trans (tripPumps_moves _)).trans (closeJets_moves _)).trans
      (abortShow_moves _)).trans (tripAudio_moves _)).trans (.lamps (Chip.tripLamps_lamps _))).trans
      (cutFlush_moves _)
  exact (dark.trans (toMode_moves e .tripped)).trans (.notify _ _)

theorem tripCause_moves (cause : TripCause) : Moves b c (c.tripCause cause) := by
  have joined : Moves b c { c with mode := { c.mode with causes := withCause cause c.mode.causes } } :=
    .still (setMode_still c _ rfl rfl)
  exact .ite (joined.trans (.notify _ _)) (enterTripped_moves c cause)

end Sys2Proof.Proofs.FountainMoves


/-! PROOF. The steps of a show, its requests and the panel's, as chains of the moves of the water. -/

namespace Sys2Proof.Proofs.FountainMoves

open Sys2Proof Sys2Proof.Machine Sys2Proof.Proofs.Water Sys2Proof.Proofs.StepEffects

variable {b : Bool} (c : Chip)

/-! ## Steps -/

theorem showLayer_still (fades : Vector Fade 128) : Still c { c with showLayer := fades } :=
  .of_links rfl rfl rfl rfl rfl rfl rfl rfl rfl rfl rfl rfl

theorem fadeShow_still (lums : LumSet) (mask : ChannelMask) (level : ColourId → Nat) (origin duration : Nat) :
    Still c (c.fadeShow lums mask level origin duration) := by
  unfold Chip.fadeShow
  exact showLayer_still c _

theorem fadeOut_still (origin duration : Nat) : Still c (c.fadeOut origin duration) := by
  unfold Chip.fadeOut
  exact showLayer_still c _

theorem Still.refl : Still c c := .of_links rfl rfl rfl rfl rfl rfl rfl rfl rfl rfl rfl rfl

theorem setCounter_still (n v : Nat) : Still c (c.setCounter n v) := by
  unfold Chip.setCounter
  split
  · exact setRun_still c _
  · exact .refl c

theorem stepImage_moves (raw : RawStep) (due : Nat) : Moves b c (c.stepImage raw due) := by
  unfold Chip.stepImage
  split
  case h_4 =>
    split
    · exact .still (setImage_still c _)
    · exact .refl c
  case h_5 => exact .still (fadeShow_still c _ _ _ _ _)
  case h_8 =>
    have marked : Moves b c { c with run := { c.run with lastMark := some (stepMark raw) } } := .still (setRun_still c _)
    exact marked.trans (.notify _ _)
  all_goals first
    | exact .still (setImage_still c _)
    | exact .still (setCounter_still c _ _)

theorem expireJetBursts_water : WaterMoves anyJet anyPump b c c.expireJetBursts :=
  .forEach fun _ _ d => by
    split
    · exact .ite (demandWrite_zero_moves d _ _ trivial) (.refl d)
    · exact .refl d

theorem cutJets_water (set : JetSet) : WaterMoves anyJet anyPump b c (c.cutJets set) :=
  .forEach fun _ _ d => .ite (demandWrite_zero_moves d _ _ trivial) (.refl d)

theorem expireBursts_moves : Moves b c c.expireBursts := .trans (.still (setImage_still c _)) (.water (expireJetBursts_water _))

theorem stepWater_moves (raw : RawStep) (due : Nat) : Moves b c (c.stepWater raw due) := by
  unfold Chip.stepWater
  split
  · exact .endEvent (.water (demandWrites_moves c _ _ fun _ _ => trivial))
  · extract_lets finish d
    have written : Moves true c d := .water (.forEach fun _ _ d => demandWrite_moves d _ _ _ trivial)
    exact .endEvent (.ite (written.trans (expireBursts_moves d)) written)
  · exact .endEvent (.water (cutJets_water c _))
  · split
    · exact .endEvent (.water (.forEach fun _ _ _ => drive_moves trivial _))
    · exact .refl c
  all_goals exact .refl c

theorem stepEffect_moves (raw : RawStep) (due : Nat) : Moves b c (c.stepEffect raw due) :=
  (stepImage_moves c raw due).trans (stepWater_moves _ raw due)

theorem endAudio_moves : Moves b c c.endAudio := audio_moves c (Chip.endAudio_audio c) rfl

theorem setIntent_moves (p : PumpId) (intent : Intent) :
    WaterMoves anyJet anyPump b c (c.updPump p fun q => { q with intent := intent }) :=
  .move (.drive c p _ trivial rfl)

/-- The show image of a show that ends: nothing is to flow or to run (R44). -/
def endingImage (m : ShowImage) : ShowImage :=
  { jets := Vector.replicate 48 ⟨0, none⟩, pumps := Vector.ofFn fun p => { m.pumps[p] with intent := .stop } }

/-- The record, the image and the mode record of a show that ends (R44). -/
def endingRecorded (d : Chip) : Chip :=
  { d with
    run := { d.run with cue := .ending, holdDue := none, shadow := none, pauseCause := none, holdEntry := none }
    image := endingImage d.image
    mode := { d.mode with restore := none } }

/-- The jets of a show that ends are shut and its pumps stopped (R44). -/
def shutDown (d : Chip) : Chip :=
  Chip.endEvent (Chip.forEach (List.finRange 12) (fun p c => (c.updPump p fun q => { q with intent := .stop }).stopRequest p)
    (d.demandWrites (List.finRange 48) .showRun 0))

theorem enterEnding_eq (fade origin : Nat) :
    c.enterEnding fade origin = ((shutDown (endingRecorded (c.fadeOut origin fade))).endAudio).notify .showState := rfl

theorem shutDown_moves : WaterMoves anyJet anyPump b c (shutDown c) :=
  endEvent_moves ((demandWrites_moves c _ _ fun _ _ => trivial).trans
    (.forEach fun p _ d => (setIntent_moves d p _).trans (stopRequest_moves _ p)))

theorem endingRecorded_still : Still c (endingRecorded c) := .of_links rfl rfl rfl rfl rfl rfl rfl rfl rfl rfl rfl rfl

theorem enterEnding_moves (fade origin : Nat) : Moves b c (c.enterEnding fade origin) := by
  rw [enterEnding_eq]
  exact ((((Moves.still (fadeOut_still c origin fade)).trans (.still (endingRecorded_still _))).trans
    (.water (shutDown_moves _))).trans (endAudio_moves _)).trans (.notify _ _)

/-- An update of the show record, the image and the mode record, the power and the flush of the last as they stand. -/
theorem record_still (r : ShowRecord) (m : ShowImage) (k : ModeRecord) (power : k.power = c.mode.power)
    (running : k.flushRunning = c.mode.flushRunning) : Still c { c with run := r, image := m, mode := k } :=
  .of_links rfl rfl rfl rfl rfl rfl rfl rfl power running rfl rfl

theorem placeMain_moves (i : StepIndex) (due : Nat) : Moves b c (c.placeMain i due) := .still (setRun_still c _)

theorem placeHold_moves (i : StepIndex) (due : Nat) : Moves b c (c.placeHold i due) := .still (setRun_still c _)

theorem catchUpStep_moves (w : Written) (i : StepIndex) (due : Nat) : Moves b c (c.catchUpStep w i due).1 := by
  unfold Chip.catchUpStep
  extract_lets raw acts d w
  have imaged : Moves b c d := .ite (stepImage_moves c raw due) (.refl c)
  split
  exacts [imaged.trans (placeMain_moves d _ _), imaged.trans (enterEnding_moves d _ _), imaged]

theorem catchUpRun_moves (fuel : Nat) (w : Written) : Moves b c (Chip.catchUpRun fuel c w).1 := by
  induction fuel generalizing c w with
  | zero => exact .refl c
  | succ n ih =>
    unfold Chip.catchUpRun
    split
    · split
      · exact (catchUpStep_moves c w _ _).trans (ih _ _)
      · exact .refl c
    · exact .refl c

theorem handOver_moves (w : Written) : Moves b c (c.handOver w) :=
  .endEvent (.water (.trans (.forEach fun _ _ d => demandWrite_moves d _ _ _ trivial)
    (.forEach fun _ _ _ => handDrive_moves trivial _ _ _)))

theorem catchUp_moves : Moves b c c.catchUp := by
  unfold Chip.catchUp
  extract_lets x
  have ran : Moves b c x.1 := catchUpRun_moves c _ _
  exact .ite ran (ran.trans (handOver_moves _ _))

theorem endHold_moves (i : StepIndex) : Moves b c (c.endHold i) := by
  unfold Chip.endHold
  refine .trans ?_ (catchUp_moves _)
  refine .trans ?_ (.notify _ _)
  exact .still (setRun_still c _)

theorem executeMain_moves (i : StepIndex) (due : Nat) : Moves b c (c.executeMain i due) := by
  unfold Chip.executeMain
  extract_lets raw acts d
  have acted : Moves b c d := .ite (stepEffect_moves c raw due) (.refl c)
  split
  exacts [acted.trans (placeMain_moves d _ _), acted.trans (enterEnding_moves d _ _), acted]

theorem executeHold_moves (i : StepIndex) (due : Nat) : Moves b c (c.executeHold i due) := by
  unfold Chip.executeHold
  extract_lets raw acts d
  have acted : Moves b c d := .ite (stepEffect_moves c raw due) (.refl c)
  split
  exacts [acted.trans (placeHold_moves d _ _), acted.trans (enterEnding_moves d _ _), acted.trans (endHold_moves d i)]

theorem runSteps_moves : Moves b c c.runSteps :=
  Chip.runCursors_keeps c _ (fun d i due h _ _ _ _ => h.trans (executeMain_moves d i due))
    (fun d i due h _ _ _ _ => h.trans (executeHold_moves d i due)) (.refl c)

theorem clockTook_moves : Moves b c c.clockTook := .ite ((expireBursts_moves c).trans (runSteps_moves _)) (.refl c)

theorem holdSwap_moves (i : StepIndex) : Moves b c (c.holdSwap i) := by
  unfold Chip.holdSwap
  extract_lets _ d
  have swapped : Moves b c d := .still (setRun_still c _)
  exact ((swapped.trans (.notify d _)).trans (.notify _ _)).trans (runSteps_moves _)

theorem gustToShow_moves : Moves b c c.gustToShow := by
  unfold Chip.gustToShow
  split
  · exact holdSwap_moves c _
  · exact .refl c

/-! ## Requests of the show -/

theorem cueAudio_moves (music : Bool) (origin : Nat) : Moves b c (c.cueAudio music origin) :=
  audio_moves c (Chip.cueAudio_audio c music origin) rfl

theorem cueShow_moves (k : PageId) (i : StepIndex) (music : Bool) (origin : Nat) : Moves b c (c.cueShow k i music origin) := by
  unfold Chip.cueShow
  extract_lets d _ e _ f g
  have live : Moves b c d := .still (setPageState_still c k _)
  have recorded : Moves b c e := live.trans (.still (setRun_still d _))
  have imaged : Moves b e f := .still (record_still e _ _ _ rfl rfl)
  have sounded : Moves b c g := ((recorded.trans imaged).trans (cueAudio_moves f _ _)).trans (.notify _ _)
  exact .ite (sounded.trans (beginWake_moves g _)) sounded

theorem setPlayback_moves (a : Playback) : Moves b c { c with playback := a } := audio_moves c (Chip.playback_audio c a) rfl

theorem audioOff_moves : Moves b c c.audioOff := setPlayback_moves c _

theorem uncue_moves : Moves b c c.uncue := ((closeShow_moves c).trans (audioOff_moves _)).trans (setPlayback_moves _ _)

theorem startAudio_moves : Moves b c c.startAudio := audio_moves c (Chip.startAudio_audio c) rfl

theorem startShow_moves : Moves b c c.startShow := by
  unfold Chip.startShow
  extract_lets d _ _ e shut stopped
  have running : Moves true c e := by
    refine .trans (toMode_moves c .showMode) (.trans ?_ (.notify _ _))
    exact .still (record_still d _ _ _ rfl rfl)
  have shuts : Moves true c shut := running.trans (.water (demandWrites_moves e _ _ fun _ _ => trivial))
  have stops : Moves true c stopped := shuts.trans (.water (.forEach fun _ _ _ => handDrive_moves trivial _ _ _))
  exact ((stops.trans (cutFlush_moves _)).endEvent.trans (startAudio_moves _)).trans (clockTook_moves _)

theorem stopClock_moves : Moves b c c.stopClock := audio_moves c (Chip.stopClock_audio c) rfl

theorem startClock_moves : Moves b c c.startClock := audio_moves c (Chip.startClock_audio c) rfl

theorem pauseShow_moves (cause : PauseCause) : Moves b c (c.pauseShow cause) := by
  unfold Chip.pauseShow
  extract_lets d _ e
  have held : Moves b c d := (stopClock_moves c).trans (.still (holdAudio_still _))
  have paused : Moves b c e := held.trans (.still (setRun_still d _))
  exact .ite paused (paused.trans (.notify e _))

theorem continueShow_moves : Moves b c c.continueShow := by
  unfold Chip.continueShow
  extract_lets _ d
  have running : Moves b c d := by
    refine .trans ?_ (.notify _ _)
    exact .still (setRun_still c _)
  exact (running.trans (startClock_moves d)).trans (.still (resumeAudio_still _))

theorem dropShow_moves : Moves b c c.dropShow := by
  have silent : Moves b c c.darkenShow.audioOff := .trans (.lamps (Chip.darkenShow_lamps c)) (audioOff_moves _)
  exact (silent.trans (.still (setImage_still _ clearedImage))).trans (closeShow_moves _)

theorem stopShow_moves : Moves b c c.stopShow := by
  unfold Chip.stopShow
  split
  exacts [.refl c, .refl c, uncue_moves c, enterEnding_moves c _ _, enterEnding_moves c _ _, enterEnding_moves c _ _,
    .ite (dropShow_moves c) (enterEnding_moves c _ _)]

/-! ## Requests of the panel -/

theorem undoHold_moves : Moves b c c.undoHold := .ite (.still (setRun_still c _)) (.refl c)

theorem takeShow_moves : Moves b c c.takeShow := by
  have paused : Moves b c (c.undoHold.pauseShow .take) := (undoHold_moves c).trans (pauseShow_moves _ _)
  unfold Chip.takeShow
  split
  all_goals first
    | exact paused.trans (.still (setMode_still _ _ rfl rfl))
    | exact .refl c

theorem takeJets_moves : Moves true c c.takeJets := .water (.forEach fun _ _ d => demandWrite_moves d _ _ _ trivial)

theorem takeMode_moves : Moves b c c.takeMode := by
  unfold Chip.takeMode
  extract_lets _ d
  have undozed : Moves b c d := .still (setMode_still c _ rfl rfl)
  split
  · exact undozed.trans (beginWake_moves d _)
  · exact undozed.trans (.still (setMode_still d _ rfl rfl))
  all_goals exact undozed.trans (toMode_moves d _)

theorem takeFountain_moves : Moves b c c.takeFountain :=
  (((((takeShow_moves c).trans (takeJets_moves _)).trans (cutFlush_moves _)).endEvent).trans (.lamps (Chip.lampsToPanel_lamps _))).trans
    (takeMode_moves _)

theorem beginRestore_moves : Moves b c c.beginRestore := by
  unfold Chip.beginRestore
  extract_lets _ d e written expired driven faded
  have restoring : Moves true c d := by
    refine .trans ?_ (.notify _ _)
    exact .still (setRun_still c _)
  have toShow : Moves true c e := restoring.trans (toMode_moves d _)
  have writes : Moves true c written := toShow.trans (.water (.forEach fun _ _ d => demandWrite_moves d _ _ _ trivial))
  have drives : Moves true c driven :=
    (writes.trans (expireBursts_moves written)).trans (.water (.forEach fun _ _ _ => handDrive_moves trivial _ _ _))
  have fades : Moves b c faded := drives.endEvent.trans (.lamps (Chip.beginCrossfade_lamps _))
  clear_value faded
  exact fades.trans (.still (setMode_still faded _ rfl rfl))

theorem releaseFountain_moves : Moves b c c.releaseFountain :=
  ((Moves.endEvent (.water ((demandWrites_moves c _ _ fun _ _ => trivial).trans
    (.forEach fun _ _ _ => intentStop_moves trivial)))).trans (.lamps (Chip.beginCrossfade_lamps _))).trans (toMode_moves _ _)

theorem tripCleared_moves : Moves b c (tripCleared c) := by
  unfold tripCleared
  extract_lets _ d _
  have raised : Moves b c d := by
    refine .trans ?_ (raisePower_moves _)
    exact .still (setMode_still c _ rfl rfl)
  exact (raised.trans (.still (setMode_still d { d.mode with wake := some .standby } rfl rfl))).trans (toMode_moves _ _)

theorem powered_moves : Moves b c (c.powerOn.endEvent).endWake :=
  ((powerOn_moves c).trans (.water (endEvent_moves (.refl _)))).trans (endWake_moves _)

end Sys2Proof.Proofs.FountainMoves


/-! PROOF. The effects of a command on the fountain: chains of the moves of the water, that leave the timebase, the lines, the gains,
the sensing record and the limit table. -/

namespace Sys2Proof.Proofs.FountainMoves

open Sys2Proof Sys2Proof.Machine Sys2Proof.Proofs.Water Sys2Proof.Proofs.StepEffects Sys2Proof.Proofs.RequestEffects
  Sys2Proof.Proofs.AudioBlocks

variable {may : Special → Prop} {b : Bool} {c d : Chip}

theorem audioEnd_moves (c : Chip) (position : Nat) : Moves b c (audioCut c position) :=
  (setPlayback_moves c _).trans (.still (lowCrossing_still _ _))

theorem anyOf_water {J : JetId → Prop} {I : PumpId → Prop} (h : WaterMoves J I b c d) : Moves b c d :=
  .water (h.mono (fun _ _ => trivial) fun _ _ => trivial)

theorem panelLayer_moves (c : Chip) (fades : Vector Fade 128) : Moves b c { c with panelLayer := fades } :=
  .lamps (Chip.lamps_lamps c _ _ _ _ _ _)

/-- Every effect on the fountain is a chain of moves. -/
theorem fountainEffect_moves (h : FountainEffect may c d) : Moves false c d := by
  cases h with
  | notify n => exact .notify c n
  | cue k i music origin _ _ _ _ => exact cueShow_moves c k i music origin
  | uncue => exact uncue_moves c
  | start => exact startShow_moves c
  | pause => exact pauseShow_moves c _
  | continueShow => exact continueShow_moves c
  | hold i _ => exact .still (setRun_still c _)
  | stop => exact stopShow_moves c
  | restored => exact endRestore_moves c
  | gust => exact gustToShow_moves c
  | clockTook => exact clockTook_moves c
  | audio q frames _ _ _ => exact setPlayback_moves c _
  | audioEnd position _ _ _ =>
    exact .ite ((audioEnd_moves c position).trans (.still (endOfMusic_still _))) (audioEnd_moves c position)
  | framePeriod => exact framePeriod_moves c
  | tick stamp _ _ _ => exact audio_moves c (Chip.clock_audio c _) rfl
  | take => exact takeFountain_moves c
  | restore => exact beginRestore_moves c
  | release => exact releaseFountain_moves c
  | trip cause => exact tripCause_moves c cause
  | clearTrip => exact tripCleared_moves c
  | manual _ _ moves => exact .water moves
  | pumps _ moves => exact anyOf_water moves
  | panelLayer fades => exact panelLayer_moves c fades
  | lampFrame => exact .lamps (Chip.lampFrame_lamps c)
  | mask mask => exact .move (.circ c _ rfl id id)
  | flushAll z _ => exact beginFlush_moves c _ z
  | dormant => exact enterDormant_moves c
  | wake => exact beginWake_moves c _
  | settle before => exact settle_moves c before
  | powered => exact powered_moves c
  | periodExpiry => exact periodExpiry_moves c
  | endFlush f _ => exact endFlush_moves c f
  | zoneDone f runs => exact zoneDone_moves c f runs
  | stallFlush f _ => exact stallFlush_moves c f

theorem fountainEffect_fountain (h : FountainEffect may c d) : c.FountainOnly d := by
  cases h with
  | notify n => exact Chip.notify_fountain c n
  | cue k i music origin _ _ _ _ => exact cueShow_fountain c k i music origin
  | uncue => exact uncue_fountain c
  | start => exact startShow_fountain c
  | pause => exact pauseShow_fountain c _
  | continueShow => exact continueShow_fountain c
  | hold i _ => exact Chip.run_fountain c _
  | stop => exact stopShow_fountain c
  | restored => exact Chip.endRestore_fountain c
  | gust => exact (Chip.gustToShow_show c).fountain
  | clockTook => exact (Chip.clockTook_show c).fountain
  | audio q frames _ _ _ => exact (Chip.playback_audio c _).fountain
  | audioEnd position _ _ _ =>
    exact .ite ((audioCut_audio c position).trans (Chip.endOfMusic_audio _)).fountain (audioCut_audio c position).fountain
  | framePeriod => exact (Chip.framePeriod_audio c).fountain
  | tick stamp _ _ _ => exact (Chip.clock_audio c _).fountain
  | take => exact takeFountain_fountain c
  | restore => exact beginRestore_fountain c
  | release => exact releaseFountain_fountain c
  | trip cause => exact Chip.tripCause_fountain c cause
  | clearTrip =>
    exact (((Chip.mode_fountain c _).trans (Chip.raisePower_fountain _)).trans (Chip.mode_fountain _ _)).trans (Chip.toMode_fountain _ _)
  | manual _ _ moves => exact (waterMoves_water moves).fountain
  | pumps _ moves => exact (waterMoves_water moves).fountain
  | panelLayer fades => exact (Chip.lamps_lamps c _ _ _ _ _ _).fountain
  | lampFrame => exact (Chip.lampFrame_lamps c).fountain
  | mask mask => exact Chip.circ_fountain c _
  | flushAll z _ => exact Chip.beginFlush_fountain c _ z
  | dormant => exact Chip.enterDormant_fountain c
  | wake => exact Chip.beginWake_fountain c _
  | settle before => exact Chip.settle_fountain c before
  | powered => exact ((Chip.powerOn_fountain c).trans (Chip.endEvent_water _).fountain).trans (Chip.endWake_fountain _)
  | periodExpiry => exact Chip.periodExpiry_fountain c
  | endFlush f _ => exact Chip.endFlush_fountain c f
  | zoneDone f _ => exact Chip.zoneDone_fountain c f
  | stallFlush f _ => exact Chip.stallFlush_fountain c f

end Sys2Proof.Proofs.FountainMoves


/-! PROOF. What every move of the water keeps: the jets fit their pumps, the start queue and the pump records their shape, and the
circulation record its ranges. -/

namespace Sys2Proof.Proofs.FountainMoves

open Sys2Proof Sys2Proof.Machine Sys2Proof.Proofs.Water Sys2Proof.Proofs.StepEffects

variable {b : Bool} {c d : Chip}

/-! ## The jets -/

/-- At a change of the power every WAITING jet takes the cause that now holds; no other jet depends on the power. -/
theorem recaused_fits {j : JetId} {x : Jet} (h : FitsOn c (c.pumpOf j) c.jets[j]) (m : ModeRecord)
    (recause : x = recaused { c with mode := m } j) : FitsOn { c with mode := m } (c.pumpOf j) x := by
  obtain ⟨state, cause, height⟩ := h
  rw [recause]
  unfold recaused
  split
  next waiting => exact ⟨state, (if_pos waiting).symm, height⟩
  next other => exact ⟨state, by rw [cause, if_neg other, if_neg other], height⟩

theorem shutAtTrip_fits (p : PumpId) (x : Jet) : FitsOn c p (shutAtTrip x) := ⟨rfl, rfl, fun _ => rfl⟩

/-- The jets follow where each one fits its pump, and the pump states and the power are another part's. -/
theorem jetsFollow_of_fits (fits : ∀ j : JetId, FitsOn c (c.pumpOf j) d.jets[j]) (limits : d.limits.jets = c.limits.jets)
    (power : d.mode.power = c.mode.power) (pumps : ∀ p : PumpId, stateOf d p = stateOf c p) : d.jetsFollow := by
  refine jetsFollow_iff.mpr fun j => ?_
  have same : d.pumpOf j = c.pumpOf j := by simp only [Chip.pumpOf, limits]
  rw [same, fitsOn_congr (pumps _) power]
  exact fits j

theorem stands_follow (h : WaterStands c d) (k : c.jetsFollow) : d.jetsFollow := by
  refine jetsFollow_iff.mpr fun j => ?_
  have fits := jetsFollow_iff.mp k j
  have pumps : ∀ p : PumpId, stateOf d p = stateOf c p := fun p => by rw [stateOf, h.pumps, stateOf]
  rw [h.jets]
  by_cases closed : (c.jets[j]).state = .closed
  · exact jetFits_of_closed fits closed
  · rw [h.pumpOf j closed, fitsOn_congr (pumps _) h.power]
    exact fits

theorem stopped_state {ps : Vector Pump 12} (pumps : ∀ p : PumpId, ps[p] = stoppedAtTrip c.pumps[p]) (p : PumpId) :
    stateOf { c with pumps := ps } p = stateOf c p := by
  show (ps[p]).state = (c.pumps[p]).state
  rw [pumps]
  rfl

theorem move_follow (h : Move b c d) (k : c.jetsFollow) : d.jetsFollow := by
  cases h with
  | water moves => exact waterMoves_follow moves k
  | still h => exact stands_follow h.toWaterStands k
  | power m js _ jets =>
    exact jetsFollow_of_fits (c := { c with mode := m }) (fun j => recaused_fits (jetsFollow_iff.mp k j) m (jets j)) rfl rfl fun _ => rfl
  | begin e f _ moves =>
    have begun : e.jetsFollow := waterMoves_follow moves (jetsFollow_of_same k rfl rfl (fun _ => rfl) rfl)
    exact jetsFollow_of_same begun rfl rfl (fun _ => rfl) rfl
  | stopDrives ps pumps => exact jetsFollow_of_same k rfl rfl (stopped_state pumps) rfl
  | closeJets js jets => exact jetsFollow_of_fits (fun j => by rw [jets]; exact shutAtTrip_fits _ _) rfl rfl fun _ => rfl
  | circ | renew | drop | clearQueue => exact jetsFollow_of_same k rfl rfl (fun _ => rfl) rfl

theorem moves_follow (h : Moves b c d) : c.jetsFollow → d.jetsFollow :=
  h.keeps move_follow fun k => jetsFollow_of_same k rfl rfl (fun _ => rfl) rfl

/-! ## The start queue -/

theorem stands_fits (h : WaterStands c d) (k : QueueFits c) : QueueFits d :=
  k.of_same h.queue h.joining h.history fun p => by rw [stateOf, h.pumps, stateOf]

theorem move_fits (h : Move b c d) (k : QueueFits c) : QueueFits d := by
  have same {e : Chip} (queue : e.queue = c.queue) (joining : e.joining = c.joining) (history : e.history = c.history)
      (pumps : e.pumps = c.pumps) : QueueFits e := k.of_same queue joining history fun p => by rw [stateOf, pumps, stateOf]
  cases h with
  | water moves => exact waterMoves_fits moves k
  | still h => exact stands_fits h.toWaterStands k
  | begin e f _ moves =>
    have begun : QueueFits e := waterMoves_fits moves (k.of_same rfl rfl rfl fun _ => rfl)
    exact begun.of_same rfl rfl rfl fun _ => rfl
  | clearQueue => exact ⟨List.nodup_nil, nofun, k.history⟩
  | stopDrives ps pumps => exact k.of_same rfl rfl rfl (stopped_state pumps)
  | power | circ | renew | drop | closeJets => exact same rfl rfl rfl rfl

theorem moves_fits (h : Moves b c d) : QueueFits c → QueueFits d :=
  h.keeps move_fits fun k => k.of_sublist (by simp [collected]) (fun _ _ => id) k.history

theorem moves_joined (h : Moves b c d) (quiet : b = false) (joined : c.joining = []) : d.joining = [] := by
  induction h with
  | refl => exact joined
  | trans _ _ ih ik => exact ik quiet (ih quiet joined)
  | collect _ => rfl
  | loose => cases quiet
  | move m =>
    cases m with
    | water moves => exact waterMoves_joined moves quiet joined
    | still h => exact h.joining.trans joined
    | begin e f _ moves =>
      have begun : e.joining = [] := waterMoves_joined moves quiet joined
      exact begun
    | clearQueue => rfl
    | stopDrives | power | circ | renew | drop | closeJets => exact joined

theorem stands_queueKept (h : WaterStands c d) (k : c.queueKept) : d.queueKept := by
  obtain ⟨joined, fits⟩ := queueKept_iff.mp k
  exact queueKept_iff.mpr ⟨h.joining.trans joined, stands_fits h fits⟩

theorem moves_queueKept (h : Moves false c d) (k : c.queueKept) : d.queueKept := by
  obtain ⟨joined, fits⟩ := queueKept_iff.mp k
  exact queueKept_iff.mpr ⟨moves_joined h rfl joined, moves_fits h fits⟩

/-! ## The pump records -/

theorem stoppedAtTrip_fits {sMin : Nat} {q : Pump} (h : RecordFits sMin q) : RecordFits sMin (stoppedAtTrip q) := by
  obtain ⟨down, priming, granted, fault⟩ := h
  exact ⟨fun is_down => ⟨(down is_down).1, rfl, rfl⟩, priming, granted, fault⟩

theorem stands_kept (h : WaterStands c d) (k : c.pumpsKept) : d.pumpsKept := pumpsKept_of_same k h.sMin h.pumps

theorem move_kept (h : Move b c d) (k : c.pumpsKept) : d.pumpsKept := by
  cases h with
  | water moves => exact waterMoves_kept moves k
  | still h => exact stands_kept h.toWaterStands k
  | begin e f _ moves =>
    have begun : e.pumpsKept := waterMoves_kept moves (pumpsKept_of_same k rfl rfl)
    exact pumpsKept_of_same begun rfl rfl
  | stopDrives ps pumps =>
    refine pumpsKept_iff.mpr fun p => ?_
    have record : RecordFits c.sMinInForce[p] ps[p] := by
      rw [pumps]
      exact stoppedAtTrip_fits (pumpsKept_iff.mp k p)
    exact record
  | power | circ | renew | drop | clearQueue | closeJets => exact pumpsKept_of_same k rfl rfl

theorem moves_kept (h : Moves b c d) : c.pumpsKept → d.pumpsKept :=
  h.keeps move_kept fun k => pumpsKept_of_same k rfl rfl

/-! ## The circulation record -/

theorem circKept_of_same (h : c.circKept) (circ : d.circ = c.circ) (running : d.mode.flushRunning = c.mode.flushRunning) :
    d.circKept := by
  simp only [Chip.circKept, circ, running]
  exact h

theorem circKept_of_stands (h : c.circKept) (stands : FlushStands c d) (running : d.mode.flushRunning = c.mode.flushRunning) :
    d.circKept := by
  obtain ⟨debt, mode, timer, times⟩ := h
  obtain ⟨f, circ, same⟩ := stands
  simp only [Chip.circKept, circ, running]
  refine ⟨debt, by simpa using mode, timer, fun g hg => ?_⟩
  obtain ⟨x, hx, rfl⟩ := Option.map_eq_some_iff.mp hg
  obtain ⟨record, dry⟩ := same x
  have ⟨opened, dried⟩ := times x hx
  generalize f x = y at record dry
  rw [record]
  exact ⟨opened, dry.trans dried⟩

theorem circKept_fresh {f : Flush} (h : c.circKept) (fresh : Fresh f) (circ : d.circ = { c.circ with flush := some f })
    (running : d.mode.flushRunning = true) : d.circKept := by
  obtain ⟨debt, -, timer, -⟩ := h
  simp only [Chip.circKept, circ, running]
  refine ⟨debt, rfl, timer, fun g hg => ?_⟩
  cases hg
  rw [fresh.1, fresh.2]
  exact ⟨Nat.zero_le _, Nat.zero_le _⟩

theorem stands_circKept (h : WaterStands c d) (k : c.circKept) : d.circKept := circKept_of_same k h.circ h.flushRunning

theorem move_circKept (h : Move b c d) (k : c.circKept) : d.circKept := by
  cases h with
  | water moves =>
    exact circKept_of_stands k (waterMoves_flush moves) (by rw [(waterMoves_water moves).mode])
  | still h => exact stands_circKept h.toWaterStands k
  | power m js running _ => exact circKept_of_same k rfl running
  | circ r flush debt timer =>
    obtain ⟨debts, mode, timers, times⟩ := k
    exact ⟨debt debts, by rw [flush]; exact mode, timer timers, fun g hg => times g (flush ▸ hg)⟩
  | begin e f fresh moves =>
    have begun : Chip.circKept { c with circ := { c.circ with flush := some f }, mode := { c.mode with flushRunning := true } } :=
      circKept_fresh k fresh rfl rfl
    have stands := waterMoves_flush moves
    exact circKept_of_stands (d := { e with mode := { e.mode with flushRunning := true } }) begun stands rfl
  | renew f fresh runs => exact circKept_fresh k fresh rfl (k.2.1.trans runs)
  | drop =>
    obtain ⟨debt, -, timer, -⟩ := k
    exact ⟨debt, rfl, timer, nofun⟩
  | clearQueue | stopDrives | closeJets => exact circKept_of_same k rfl rfl

theorem moves_circKept (h : Moves b c d) : c.circKept → d.circKept :=
  h.keeps move_circKept fun k => circKept_of_same k rfl rfl

/-! ## Notices -/

theorem waterMoves_noticed {J : JetId → Prop} {I : PumpId → Prop} (h : WaterMoves J I b c d) : Noted everyNotice c d :=
  (waterMoves_noted h).mono fun n _ => mem_everyNotice n

theorem move_noted (h : Move b c d) : Noted everyNotice c d := by
  cases h with
  | water moves => exact waterMoves_noticed moves
  | still h => exact h.links
  | begin e f _ moves =>
    have noted := waterMoves_noticed moves
    exact noted
  | power | circ | renew | drop | clearQueue | stopDrives | closeJets => exact .of_links rfl

theorem moves_noted (h : Moves b c d) : Noted everyNotice c d := h.rel .refl .trans move_noted fun _ => .of_links rfl

end Sys2Proof.Proofs.FountainMoves


/-! PROOF. The effects of a command on the water, and that every one keeps the jets, the start queue, the pump records and the
circulation record in shape (O51, O54, O55). -/

namespace Sys2Proof.Proofs.FountainMoves

open Sys2Proof Sys2Proof.Machine Sys2Proof.Proofs.Water Sys2Proof.Proofs.StepEffects Sys2Proof.Proofs.RequestEffects

variable {may : Special → Prop} {b : Bool} {c d : Chip}

/-! ## The effects, seen from the water -/

theorem WaterStands.refl (c : Chip) : WaterStands c c := ⟨rfl, rfl, rfl, rfl, rfl, rfl, rfl, fun _ _ => rfl, rfl, rfl⟩

/-- What the three resets leave before an asserted emergency stop acts. -/
inductive ResetValues (c : Chip) : Chip → Prop
  | powerOn (lines : Lines) : ResetValues c (poweredChip lines (strapLinks lines.straps))
  | lineReset (straps : Vector StrapPins 3) : ResetValues c (c.lineResetValues straps)
  | restart : ResetValues c c.restartValues

theorem senseStop_moves (c : Chip) : Moves b c c.senseStop := .ite (tripCause_moves c _) (.refl c)

theorem changeService_moves {J : JetId → Prop} {I : PumpId → Prop} (was : Vector PumpLimit 12) (p : PumpId) (c : Chip) :
    WaterMoves J I true c (c.changeService was p) := by
  unfold Chip.changeService
  split
  · exact .trans (.move (.dequeue c p))
      (.move (.enter _ p .outOfService none ⟨nofun, nofun⟩ nofun nofun (.inr (.inr (.inl (dequeue_unqueued c p))))))
  · exact enterStopped_moves c p
  all_goals exact .refl c

/-- A jet that is not CLOSED keeps its pump through the write of a section. -/
theorem limitConflict_pump {es : Vector JetLimit 48} (free : c.limitConflict (.jets es) = false) {j : JetId}
    (wet : (c.jets[j]).state ≠ .closed) : (es[j]).pump = (c.limits.jets[j]).pump := by
  have all := List.any_eq_false.mp free j (List.mem_finRange j)
  simp only [Bool.and_eq_true, decide_eq_true_eq, Bool.or_eq_true, not_and, not_or, not_not] at all
  exact (all wet).1

theorem writeSection_moves {x : LimitSection} (free : c.limitConflict x = false) :
    ∃ e, WaterStands c e ∧ Moves false e (c.writeSection x) := by
  have rewritten (k : Limits) (s : Sensing) (pump : ∀ j : JetId, (c.jets[j]).state ≠ .closed → (k.jets[j]).pump = c.pumpOf j) :
      ∃ e, WaterStands c e ∧ Moves false e (Chip.endEvent { c with limits := k, sense := s }) :=
    ⟨{ c with limits := k, sense := s }, ⟨rfl, rfl, rfl, rfl, rfl, rfl, rfl, pump, rfl, rfl⟩, .water (endEvent_moves (.refl _))⟩
  cases x with
  | jets es => exact rewritten { c.limits with jets := es } c.sense fun j wet => limitConflict_pump free wet
  | pumps es =>
    refine ⟨{ c with limits := { c.limits with pumps := es } }, ⟨rfl, rfl, rfl, rfl, rfl, rfl, rfl, fun _ _ => rfl, rfl, rfl⟩, ?_⟩
    exact .endEvent (.water (.forEach fun p _ e => changeService_moves c.limits.pumps p e))
  | site e => exact rewritten { c.limits with site := e } c.sense fun _ _ => rfl
  | wind es =>
    exact rewritten { c.limits with wind := es } { c.sense with factors := windFactors es c.sense.vAvg } fun _ _ => rfl
  | lums es => exact rewritten { c.limits with lums := es } c.sense fun _ _ => rfl

/-- What an effect is, seen from the water. -/
inductive WaterEffect (c d : Chip) : Prop
  | moves (e f : Chip) (before : WaterStands c e) (moves : Moves false e f) (after : WaterStands f d)
  | advance (k : Nat) (passed : d = c.advance k)
  | hydraulics (updated : d = { c.hydraulics with hydTimer := 0 })
  | reset (e : Chip) (values : ResetValues c e) (moves : Moves false e d)

theorem WaterEffect.stands (h : WaterStands c d) : WaterEffect c d := .moves c c (.refl c) (.refl c) h

theorem emptied_stands (c : Chip) (f : Link → Link) : WaterStands c (Chip.updLinks { c with resetHeld := true } f) :=
  ⟨rfl, rfl, rfl, rfl, rfl, rfl, rfl, fun _ _ => rfl, rfl, rfl⟩

theorem gainStep_stands (c : Chip) : WaterStands c c.gainStep := by
  unfold Chip.gainStep
  split
  · exact ⟨rfl, rfl, rfl, rfl, rfl, rfl, rfl, fun _ _ => rfl, rfl, rfl⟩
  · exact .refl c

theorem effect_water (h : Effect may c d) : WaterEffect c d := by
  cases h with
  | fountain effect => exact .moves c d (.refl c) (fountainEffect_moves effect) (.refl d)
  | writeSection x _ _ free _ =>
    obtain ⟨e, stands, moves⟩ := writeSection_moves free
    exact .moves e _ stands moves (.refl _)
  | advance k => exact .advance k rfl
  | hydraulics => exact .hydraulics rfl
  | assertReset =>
    exact .moves c c.dropPower (.refl c) (dropPower_moves c) (emptied_stands _ _)
  | powerOn lines => exact .reset _ (.powerOn lines) (senseStop_moves _)
  | lineReset straps => exact .reset _ (.lineReset straps) (senseStop_moves _)
  | restart => exact .reset _ .restart (senseStop_moves _)
  | gainStep => exact .stands (gainStep_stands c)
  | reply | owe | receive | sent | told | gain | countPeriod | page | validated | protect | lines | stopLine | pulse | closeGate
  | switch | level | dusk => exact .stands ⟨rfl, rfl, rfl, rfl, rfl, rfl, rfl, fun _ _ => rfl, rfl, rfl⟩

/-! ## The jets -/

theorem advance_follow (h : c.jetsFollow) (k : Nat) : (c.advance k).jetsFollow := jetsFollow_of_same h rfl rfl (fun _ => rfl) rfl

theorem hydraulics_follow (h : c.jetsFollow) : c.hydraulics.jetsFollow := by
  refine jetsFollow_of_fits (c := c) (fun j => ?_) rfl rfl fun p => ?_
  · obtain ⟨state, cause, -⟩ := jetsFollow_iff.mp h j
    have jet : c.hydraulics.jets[j] = { c.jets[j] with height := c.effectiveHeight j } := Vector.getElem_ofFn _
    rw [jet]
    exact ⟨state, cause, fun shut => if_neg shut⟩
  · have pump : c.hydraulics.pumps[p] = { c.pumps[p] with target := c.targetOf p, setpoint := c.setpointOf p (c.targetOf p) } :=
      Vector.getElem_ofFn _
    rw [stateOf, pump, stateOf]

theorem resetValues_jets (h : ResetValues c d) (j : JetId) : d.jets[j] = closedJet := by
  cases h <;> exact Vector.getElem_replicate _

theorem resetValues_follow (h : ResetValues c d) : d.jetsFollow := by
  refine jetsFollow_iff.mpr fun j => ?_
  rw [resetValues_jets h]
  exact ⟨rfl, rfl, fun _ => rfl⟩

theorem effect_follow (h : Effect may c d) (k : c.jetsFollow) : d.jetsFollow := by
  cases effect_water h with
  | moves e f before moves after => exact stands_follow after (moves_follow moves (stands_follow before k))
  | advance n passed => exact passed ▸ advance_follow k n
  | hydraulics updated =>
    rw [updated]
    exact jetsFollow_of_same (hydraulics_follow k) rfl rfl (fun _ => rfl) rfl
  | reset e values moves => exact moves_follow moves (resetValues_follow values)

/-! ## The start queue -/

theorem resetValues_queue (h : ResetValues c d) : d.queue = [] ∧ d.joining = [] := by
  cases h <;> exact ⟨rfl, rfl⟩

theorem resetValues_queueKept (h : ResetValues c d) (k : c.queueKept) : d.queueKept := by
  obtain ⟨queue, joining⟩ := resetValues_queue h
  refine ⟨joining, by simp [queue], by simp [queue], ?_⟩
  cases h with
  | restart => exact k.2.2.2
  | powerOn | lineReset => exact Nat.zero_le _

theorem effect_queueKept (h : Effect may c d) (k : c.queueKept) : d.queueKept := by
  cases effect_water h with
  | moves e f before moves after => exact stands_queueKept after (moves_queueKept moves (stands_queueKept before k))
  | advance n passed => exact passed ▸ k
  | hydraulics updated =>
    obtain ⟨joined, once, waits, history⟩ := k
    subst updated
    refine ⟨joined, once, fun e he => ?_, history⟩
    have pump : c.hydraulics.pumps[e.pump] =
        { c.pumps[e.pump] with target := c.targetOf e.pump, setpoint := c.setpointOf e.pump (c.targetOf e.pump) } :=
      Vector.getElem_ofFn _
    show (c.hydraulics.pumps[e.pump]).state = .stopped ∨ (c.hydraulics.pumps[e.pump]).state = .resting
    rw [pump]
    exact waits e he
  | reset e values moves => exact moves_queueKept moves (resetValues_queueKept values k)

/-! ## The pump records -/

theorem setpointOf_down {p : PumpId} (h : (c.pumps[p]).state.up = false) (target : Nat) : c.setpointOf p target = 0 := by
  unfold Chip.setpointOf
  generalize (c.pumps[p]).state = st at h
  cases st <;> first | rfl | cases h

theorem setpointOf_priming {p : PumpId} (h : (c.pumps[p]).state = .priming) (target : Nat) :
    c.setpointOf p target = (c.limits.pumps[p]).sMin := by
  simp only [Chip.setpointOf, h]

theorem hydraulics_kept (h : c.pumpsKept) : c.hydraulics.pumpsKept := by
  refine pumpsKept_iff.mpr fun p => ?_
  obtain ⟨down, priming, granted, fault⟩ := pumpsKept_iff.mp h p
  have pump : c.hydraulics.pumps[p] = { c.pumps[p] with target := c.targetOf p, setpoint := c.setpointOf p (c.targetOf p) } :=
    Vector.getElem_ofFn _
  have sMin : c.hydraulics.sMinInForce[p] = (c.limits.pumps[p]).sMin := Vector.getElem_ofFn _
  rw [pump, sMin]
  exact ⟨fun is_down => ⟨setpointOf_down is_down _, (down is_down).2⟩, fun is_priming => setpointOf_priming is_priming _, granted, fault⟩

theorem pumpAfterRestart_fits {sMin s : Nat} {p : PumpId} (h : RecordFits s c.pumps[p]) : RecordFits sMin (c.pumpAfterRestart p) := by
  obtain ⟨down, priming, granted, fault⟩ := h
  unfold Chip.pumpAfterRestart
  extract_lets q r
  have downs : r.state.up = false ∧ (r.faultCause.isSome ↔ r.state = .faulted) := by
    by_cases up : q.state.up = true
    · rw [show r = _ from if_pos up]
      refine ⟨rfl, fun some => ?_, nofun⟩
      have faulted : (c.pumps[p]).state = .faulted := fault.mp some
      rw [show q.state = _ from faulted] at up
      cases up
    · rw [show r = q from if_neg up]
      exact ⟨Bool.eq_false_iff.mpr up, fault⟩
  generalize r = x at downs
  exact ⟨fun _ => ⟨rfl, rfl, rfl⟩, fun is_priming => absurd downs.1 (by rw [show x.state = _ from is_priming]; exact nofun),
    fun up => absurd (downs.1.symm.trans up) nofun, downs.2⟩

theorem resetValues_kept (h : ResetValues c d) (k : c.pumpsKept) : d.pumpsKept := by
  refine pumpsKept_iff.mpr fun p => ?_
  cases h with
  | powerOn lines =>
    have pump : (poweredChip lines (strapLinks lines.straps)).pumps[p] = resetPump := Vector.getElem_replicate _
    rw [pump]
    exact ⟨fun _ => ⟨rfl, rfl, rfl⟩, nofun, nofun, nofun, nofun⟩
  | lineReset straps =>
    have pump : (c.lineResetValues straps).pumps[p] = { resetPump with stateEntry := c.now } := Vector.getElem_replicate _
    rw [pump]
    exact ⟨fun _ => ⟨rfl, rfl, rfl⟩, nofun, nofun, nofun, nofun⟩
  | restart =>
    have pump : c.restartValues.pumps[p] = c.pumpAfterRestart p := Vector.getElem_ofFn _
    rw [pump]
    exact pumpAfterRestart_fits (pumpsKept_iff.mp k p)

theorem effect_kept (h : Effect may c d) (k : c.pumpsKept) : d.pumpsKept := by
  cases effect_water h with
  | moves e f before moves after => exact stands_kept after (moves_kept moves (stands_kept before k))
  | advance n passed =>
    rw [passed]
    exact pumpsKept_of_same k rfl rfl
  | hydraulics updated =>
    rw [updated]
    exact pumpsKept_of_same (hydraulics_kept k) rfl rfl
  | reset e values moves => exact moves_kept moves (resetValues_kept values k)

/-! ## The circulation record -/

theorem grow_bounds {f : Flush} (k : Nat) (isOpen : Bool) (h : f.openTime ≤ f.duration * 1000 ∧ f.dryTime ≤ stallLimit) :
    (f.grow k isOpen).openTime ≤ (f.grow k isOpen).duration * 1000 ∧ (f.grow k isOpen).dryTime ≤ stallLimit := by
  unfold Flush.grow
  split
  · exact ⟨Nat.min_le_left _ _, h.2⟩
  · exact ⟨h.1, Nat.min_le_left _ _⟩

theorem advance_circKept (h : c.circKept) (k : Nat) : (c.advance k).circKept := by
  obtain ⟨debt, running, -, times⟩ := h
  refine ⟨debt, ?_, Nat.min_le_left _ _, fun g hg => ?_⟩
  · show c.mode.flushRunning = (c.circ.flush.map _).isSome
    rw [Option.isSome_map]
    exact running
  · obtain ⟨f, hf, rfl⟩ := Option.map_eq_some_iff.mp hg
    exact grow_bounds k _ (times f hf)

theorem resetValues_circKept (h : ResetValues c d) : d.circKept := by
  cases h with
  | powerOn | lineReset => exact ⟨Nat.zero_le _, rfl, Nat.zero_le _, nofun⟩
  | restart => exact ⟨Nat.zero_le _, rfl, Nat.zero_le _, nofun⟩

theorem effect_circKept (h : Effect may c d) (k : c.circKept) : d.circKept := by
  cases effect_water h with
  | moves e f before moves after => exact stands_circKept after (moves_circKept moves (stands_circKept before k))
  | advance n passed => exact passed ▸ advance_circKept k n
  | hydraulics updated => exact updated ▸ k
  | reset e values moves => exact moves_circKept moves (resetValues_circKept values)

end Sys2Proof.Proofs.FountainMoves


/-! PROOF. What every step keeps of the water (O51, O54). -/

namespace Sys2Proof.Proofs.FountainMoves

open Sys2Proof Sys2Proof.Machine Sys2Proof.Proofs.StepEffects

/-- Settles O51: a jet is fitted to its pump by every write of the jet, the pump's state or the power, and no other effect touches
them. -/
theorem jetsFollowTheirPumps : Obligations.JetsFollowTheirPumps := fun _ _ kept next => step_keeps effect_follow kept next

/-- Settles O54: a request joins for a waiting pump without an entry alone, entry into any other state removes the pump's entry, and
every event collects its requests. -/
theorem startQueueKeepsItsShape : Obligations.StartQueueKeepsItsShape := fun _ _ kept next => step_keeps effect_queueKept kept next

end Sys2Proof.Proofs.FountainMoves


/-! PROOF. The layouts of the link (R178, R179): what a field, a set and a row of items of equal length give back when they are read
where they were written. -/

namespace Sys2Proof.Proofs.Layouts

open Sys2Proof Sys2Proof.Machine Sys2Proof.Laws.FrameFits

/-! ## Numbers, most significant byte first -/

theorem beBytes_succ (len n : Nat) : beBytes (len + 1) n = beBytes len (n / 256) ++ [BitVec.ofNat 8 n] := by
  simp only [beBytes, List.range_succ, List.map_append, List.map_cons, List.map_nil]
  congr 1
  · refine List.map_congr_left fun i hi => ?_
    have below := List.mem_range.mp hi
    rw [Nat.div_div_eq_div_mul, ← Nat.pow_succ', show len + 1 - 1 - i = len - 1 - i + 1 by omega]
  · simp

theorem mod_byte_power (len n : Nat) : n % 256 ^ (len + 1) = n % 256 + 256 * (n / 256 % 256 ^ len) := by
  rw [Nat.pow_succ', Nat.mod_mul]

theorem beNat_beBytes (len n : Nat) : beNat (beBytes len n) = n % 256 ^ len := by
  induction len generalizing n with
  | zero => simp [beBytes, beNat, Nat.mod_one]
  | succ len ih =>
    rw [beBytes_succ, beNat, List.foldl_append]
    show beNat (beBytes len (n / 256)) * 256 + (BitVec.ofNat 8 n).toNat = n % 256 ^ (len + 1)
    rw [ih, mod_byte_power, BitVec.toNat_ofNat]
    omega

/-- A field read where it was written gives the number back. -/
theorem beAt_here {len n : Nat} (fits : n < 256 ^ len) (rest : List Byte) : beAt (beBytes len n ++ rest) 0 len = n := by
  simp only [beAt, List.drop_zero]
  rw [List.take_append_of_le_length (length_beBytes len n).ge, List.take_of_length_le (length_beBytes len n).le, beNat_beBytes, Nat.mod_eq_of_lt fits]

theorem beAt_last {len n : Nat} (fits : n < 256 ^ len) : beAt (beBytes len n) 0 len = n := by
  simpa using beAt_here fits []

/-- A field behind another one is read past it. -/
theorem beAt_behind {front : List Byte} {off : Nat} (past : front.length ≤ off) (rest : List Byte) (len : Nat) :
    beAt (front ++ rest) off len = beAt rest (off - front.length) len := by
  rw [beAt, List.drop_append, List.drop_eq_nil_of_le past, List.nil_append, beAt]

theorem drop_behind {α : Type} {front : List α} {off : Nat} (past : front.length ≤ off) (rest : List α) :
    (front ++ rest).drop off = rest.drop (off - front.length) := by
  rw [List.drop_append, List.drop_eq_nil_of_le past, List.nil_append]

/-! ## Sets, least significant byte first -/

theorem setBytes_succ (len n : Nat) : setBytes (len + 1) n = BitVec.ofNat 8 n :: setBytes len (n / 256) := by
  simp only [setBytes, List.range_succ_eq_map, List.map_cons, List.map_map]
  congr 1
  · simp
  · refine List.map_congr_left fun i _ => ?_
    simp only [Function.comp, Nat.div_div_eq_div_mul, ← Nat.pow_succ', Nat.succ_eq_add_one]

theorem leNat_setBytes (len n : Nat) : leNat (setBytes len n) = n % 256 ^ len := by
  induction len generalizing n with
  | zero => simp [setBytes, leNat, Nat.mod_one]
  | succ len ih =>
    rw [setBytes_succ]
    show (BitVec.ofNat 8 n).toNat + 256 * leNat (setBytes len (n / 256)) = n % 256 ^ (len + 1)
    rw [ih, mod_byte_power, BitVec.toNat_ofNat]

theorem setAt_here {len n : Nat} (fits : n < 256 ^ len) (rest : List Byte) : setAt (setBytes len n ++ rest) 0 len = n := by
  simp only [setAt, List.drop_zero]
  rw [List.take_append_of_le_length (length_setBytes len n).ge, List.take_of_length_le (length_setBytes len n).le, leNat_setBytes, Nat.mod_eq_of_lt fits]

theorem setAt_last {len n : Nat} (fits : n < 256 ^ len) : setAt (setBytes len n) 0 len = n := by
  simpa using setAt_here fits []

/-! ## Rows of items of equal length -/

section Rows

variable {α : Type} {f : α → List Byte} {size : Nat}

/-- The items of a row, read one by one, each where it stands. -/
theorem read_row {β : Type} (sized : ∀ x, (f x).length = size) (g : List Byte → β) (xs : List α) :
    ((List.range xs.length).map fun k => g (((xs.flatMap f).drop (size * k)).take size)) = xs.map (g ∘ f) := by
  induction xs with
  | nil => rfl
  | cons x xs ih =>
    rw [List.length_cons, List.range_succ_eq_map, List.map_cons, List.map_cons, List.map_map, List.flatMap_cons, ← ih]
    congr 1
    · simp only [Nat.mul_zero, List.drop_zero, Function.comp]
      rw [List.take_append_of_le_length (sized x).ge, List.take_of_length_le (sized x).le]
    · refine List.map_congr_left fun k _ => ?_
      simp only [Function.comp, Nat.succ_eq_add_one]
      rw [drop_behind (by rw [sized, Nat.mul_add]; omega), sized, Nat.mul_add, Nat.mul_one, Nat.add_sub_cancel]

/-- A row of items in range decodes to them. -/
theorem itemsOfBytes_row {n : Nat} {item : List Byte → Option α} (sized : ∀ x, (f x).length = size) (v : Vector α n)
    (reads : ∀ x ∈ v.toList, item (f x) = some x) : itemsOfBytes n size item (v.toList.flatMap f) = some v := by
  have items : ((List.range n).filterMap fun k => item (((v.toList.flatMap f).drop (size * k)).take size)) = v.toList := by
    have row := read_row sized item v.toList
    rw [Vector.length_toList] at row
    calc ((List.range n).filterMap fun k => item (((v.toList.flatMap f).drop (size * k)).take size))
        = ((List.range n).map fun k => item (((v.toList.flatMap f).drop (size * k)).take size)).filterMap id := by
          rw [List.filterMap_map]; rfl
      _ = v.toList.filterMap (item ∘ f) := by rw [row, List.filterMap_map]; rfl
      _ = v.toList.filterMap some := List.filterMap_congr reads
      _ = v.toList := List.filterMap_some
  unfold itemsOfBytes
  simp only [items]
  rw [dif_pos ⟨by rw [length_flatMap f size sized, Vector.length_toList], Vector.length_toList⟩]
  exact congrArg some (Vector.toArray_inj.mp v.toArray_toList)

/-- Every item of a row that decodes is the reading of some bytes. -/
theorem item_of_itemsOfBytes {n : Nat} {item : List Byte → Option α} {bytes : List Byte} {v : Vector α n}
    (decodes : itemsOfBytes n size item bytes = some v) (k : Fin n) : ∃ b, item b = some v[k] := by
  unfold itemsOfBytes at decodes
  dsimp only at decodes
  split at decodes
  next all =>
    have read : v[k] ∈ v.toList := Vector.mem_toList_iff.mpr (Vector.getElem_mem k.isLt)
    rw [← Option.some.inj decodes] at read
    obtain ⟨i, -, reads⟩ := List.mem_filterMap.mp read
    rw [Option.some.inj decodes] at reads
    exact ⟨_, reads⟩
  next => cases decodes

end Rows

end Sys2Proof.Proofs.Layouts


/-! PROOF. The sections of the limit table: an entry in range is read back from its bytes, and an entry read is in range (O42). -/

namespace Sys2Proof.Proofs.Layouts

open Sys2Proof Sys2Proof.Machine Sys2Proof.Laws.FrameFits

/-- A field behind a number is read past it. -/
theorem beAt_behind_number {len' off : Nat} (past : len' ≤ off) (n : Nat) (rest : List Byte) (len : Nat) :
    beAt (beBytes len' n ++ rest) off len = beAt rest (off - len') len := by
  rw [beAt_behind (by rw [length_beBytes]; exact past), length_beBytes]

/-- A field behind a set is read past it. -/
theorem beAt_behind_set {len' off : Nat} (past : len' ≤ off) (n : Nat) (rest : List Byte) (len : Nat) :
    beAt (setBytes len' n ++ rest) off len = beAt rest (off - len') len := by
  rw [beAt_behind (by rw [length_setBytes]; exact past), length_setBytes]

/-! ## The entries (R175, R179) -/

/-- The bytes of a jet's entries. -/
def jetBytes (k : JetLimit) : List Byte :=
  beBytes 2 k.height ++ beBytes 1 k.pump.val ++ beBytes 1 k.zone.val ++ beBytes 1 k.wind.val

/-- The bytes of a pump's entries. -/
def pumpBytes (k : PumpLimit) : List Byte :=
  beBytes 1 (if k.inService then 1 else 0) ++ beBytes 2 k.sMin ++ beBytes 2 k.sMax ++ beBytes 2 k.primeMin ++
    beBytes 2 k.primeMax ++ beBytes 2 k.runMin ++ beBytes 2 k.rest ++ beBytes 2 k.cycle ++ beBytes 2 k.idle ++
    beBytes 1 k.rUp ++ beBytes 1 k.rDown

/-- The bytes of the site entries. -/
def siteBytes (k : SiteLimit) : List Byte :=
  beBytes 1 k.windowGrants ++ beBytes 2 k.window ++ beBytes 2 k.space ++ beBytes 1 k.settle ++
    beBytes 1 k.dormancy ++ beBytes 2 k.levelFactor ++ beBytes 1 k.windScale ++ beBytes 2 k.gust ++ beBytes 2 k.period ++
    beBytes 2 k.flushHeight ++ beBytes 2 k.flushDuration ++ beBytes 4 k.cap

/-- The bytes of a wind class's entries. -/
def windBytes (k : WindLimit) : List Byte := beBytes 2 k.calm ++ beBytes 2 k.gale ++ beBytes 2 k.wMin

/-- The bytes of a luminaire's entries. -/
def lumBytes (k : LumLimit) : List Byte :=
  beBytes 1 (match k.jet with | some j => j.val | none => 255) ++ beBytes 1 (match k.coupling with | .none => 0 | .gate => 1)

theorem jetItem_bytes {k : JetLimit} (range : k.height ≤ 1000) : jetItem (jetBytes k) = some k := by
  have height : beAt (jetBytes k) 0 2 = k.height := by
    simp (disch := omega) only [jetBytes, List.append_assoc, beAt_here]
  have pump : beAt (jetBytes k) 2 1 = k.pump.val := by
    simp (disch := omega) only [jetBytes, List.append_assoc, beAt_behind_number, Nat.sub_self, beAt_here]
  have zone : beAt (jetBytes k) 3 1 = k.zone.val := by
    simp (disch := omega) only [jetBytes, List.append_assoc, beAt_behind_number, Nat.reduceSub, beAt_here]
  have wind : beAt (jetBytes k) 4 1 = k.wind.val := by
    simp (disch := omega) only [jetBytes, List.append_assoc, beAt_behind_number, Nat.reduceSub, beAt_last]
  simp only [jetItem, height, pump, zone, wind, range, Fin.is_lt, and_self, dite_true, Fin.eta]

theorem pumpItem_bytes {k : PumpLimit} (range : k.inRange) : pumpItem (pumpBytes k) = some k := by
  obtain ⟨minMax, max, primeLow, primeOrder, primeMin, primeMax, run, runHigh, rest, restHigh, cycle, cycleHigh, idle, up, upHigh,
    down, downHigh⟩ := range
  have service : (if k.inService then 1 else 0) ≤ 1 := by split <;> omega
  have is_service : ((if k.inService then 1 else 0) == 1) = k.inService := by cases k.inService <;> rfl
  simp (disch := omega) only [pumpItem, pumpBytes, List.append_assoc, beAt_behind_number, Nat.reduceSub, beAt_here, beAt_last,
    is_service, service, true_and]
  rw [if_pos (by omega)]

theorem siteItem_bytes {k : SiteLimit} (range : k.inRange) : siteItem (siteBytes k) = some k := by
  obtain ⟨grants, grantsHigh, window, windowHigh, space, settle, dormancy, level, scale, scaleHigh, gust, gustHigh, period,
    periodHigh, height, heightHigh, duration, durationHigh, cap⟩ := range
  simp (disch := omega) only [siteItem, siteBytes, List.append_assoc, beAt_behind_number, Nat.reduceSub, beAt_here, beAt_last]
  rw [if_pos (by omega)]

theorem windItem_bytes {k : WindLimit} (range : k.inRange) : windItem (windBytes k) = some k := by
  obtain ⟨calm, gale, low, high⟩ := range
  simp (disch := omega) only [windItem, windBytes, List.append_assoc, beAt_behind_number, Nat.reduceSub, beAt_here, beAt_last]
  rw [if_pos (by omega)]

theorem lumItem_bytes (k : LumLimit) : lumItem (lumBytes k) = some k := by
  obtain ⟨jet, coupling⟩ := k
  have jet_fits : (match jet with | some j => j.val | none => 255) < 256 ^ 1 := by
    cases jet with
    | none => decide
    | some j => exact j.isLt.trans (by decide)
  have coupling_fits : (match coupling with | .none => 0 | .gate => 1) < 256 ^ 1 := by cases coupling <;> decide
  have jet_read : beAt (lumBytes ⟨jet, coupling⟩) 0 1 = _ := beAt_here jet_fits _
  have coupling_read : beAt (lumBytes ⟨jet, coupling⟩) 1 1 = _ := (beAt_behind_number le_rfl _ _ _).trans (beAt_last coupling_fits)
  simp only [lumItem, jet_read, coupling_read]
  cases coupling <;> cases jet with
  | none => rfl
  | some j => simp

/-! ## What decodes is in range -/

theorem jetItem_range {b : List Byte} {k : JetLimit} (h : jetItem b = some k) : k.height ≤ 1000 := by
  unfold jetItem at h
  dsimp only at h
  split at h
  next range => cases h; exact range.1
  next => cases h

theorem pumpItem_range {b : List Byte} {k : PumpLimit} (h : pumpItem b = some k) : k.inRange := by
  unfold pumpItem at h
  dsimp only at h
  split at h
  next range => cases h; simp only [PumpLimit.inRange]; omega
  next => cases h

theorem siteItem_range {b : List Byte} {k : SiteLimit} (h : siteItem b = some k) : k.inRange := by
  unfold siteItem at h
  dsimp only at h
  split at h
  next range => cases h; exact range
  next => cases h

theorem windItem_range {b : List Byte} {k : WindLimit} (h : windItem b = some k) : k.inRange := by
  unfold windItem at h
  dsimp only at h
  split at h
  next range => cases h; exact range
  next => cases h

/-- The number of a section, and that its entries lie in the ranges of R175. -/
def SectionFits (n : Nat) : LimitSection → Prop
  | .jets v => n = 0 ∧ ∀ j : JetId, (v[j]).height ≤ 1000
  | .pumps v => n = 1 ∧ ∀ p : PumpId, (v[p]).inRange
  | .site k => n = 2 ∧ k.inRange
  | .wind v => n = 3 ∧ ∀ w : Fin 4, (v[w]).inRange
  | .lums _ => n = 4

/-- A section decodes under its number alone, with its entries in range. -/
theorem sectionOfBytes_fits {n : Nat} {bytes : List Byte} {x : LimitSection} (h : sectionOfBytes n bytes = some x) : SectionFits n x := by
  unfold sectionOfBytes at h
  split at h
  · obtain ⟨v, items, rfl⟩ := Option.map_eq_some_iff.mp h
    exact ⟨rfl, fun j => (item_of_itemsOfBytes items j).elim fun _ => jetItem_range⟩
  · obtain ⟨v, items, rfl⟩ := Option.map_eq_some_iff.mp h
    exact ⟨rfl, fun j => (item_of_itemsOfBytes items j).elim fun _ => pumpItem_range⟩
  · split at h
    · obtain ⟨k, item, rfl⟩ := Option.map_eq_some_iff.mp h
      exact ⟨rfl, siteItem_range item⟩
    · cases h
  · obtain ⟨v, items, rfl⟩ := Option.map_eq_some_iff.mp h
    exact ⟨rfl, fun j => (item_of_itemsOfBytes items j).elim fun _ => windItem_range⟩
  · obtain ⟨v, items, rfl⟩ := Option.map_eq_some_iff.mp h
    exact rfl
  · cases h

theorem getElem_of_mem_toList {α : Type} {n : Nat} {P : α → Prop} {v : Vector α n} (h : ∀ k : Fin n, P v[k]) : ∀ x ∈ v.toList, P x := by
  intro x hx
  obtain ⟨k, hk, rfl⟩ := List.getElem_of_mem hx
  exact h ⟨k, by simpa using hk⟩

theorem jets_decode {v : Vector JetLimit 48} (range : ∀ j : JetId, (v[j]).height ≤ 1000) :
    sectionOfBytes 0 (v.toList.flatMap jetBytes) = some (.jets v) := by
  rw [sectionOfBytes, itemsOfBytes_row (fun k => by simp [jetBytes, length_beBytes]) v fun k hk =>
    jetItem_bytes (getElem_of_mem_toList (P := fun k => k.height ≤ 1000) range k hk)]
  rfl

theorem pumps_decode {v : Vector PumpLimit 12} (range : ∀ p : PumpId, (v[p]).inRange) :
    sectionOfBytes 1 (v.toList.flatMap pumpBytes) = some (.pumps v) := by
  rw [sectionOfBytes, itemsOfBytes_row (fun k => by simp [pumpBytes, length_beBytes]) v fun k hk => pumpItem_bytes (getElem_of_mem_toList range k hk)]
  rfl

theorem site_decodes {k : SiteLimit} (range : k.inRange) : sectionOfBytes 2 (siteBytes k) = some (.site k) := by
  rw [sectionOfBytes, if_pos (by simp [siteBytes, length_beBytes]), siteItem_bytes range]
  rfl

theorem wind_decodes {v : Vector WindLimit 4} (range : ∀ w : Fin 4, (v[w]).inRange) :
    sectionOfBytes 3 (v.toList.flatMap windBytes) = some (.wind v) := by
  rw [sectionOfBytes, itemsOfBytes_row (fun k => by simp [windBytes, length_beBytes]) v fun k hk => windItem_bytes (getElem_of_mem_toList range k hk)]
  rfl

theorem lums_decode (v : Vector LumLimit 32) : sectionOfBytes 4 (v.toList.flatMap lumBytes) = some (.lums v) := by
  rw [sectionOfBytes, itemsOfBytes_row (fun k => by simp [lumBytes, length_beBytes]) v fun k _ => lumItem_bytes k]
  rfl

/-- Settles O42: each entry is read back field by field from where its bytes stand, and an entry is decoded by the test of its
ranges. -/
theorem limitSectionsDecode : Obligations.LimitSectionsDecode :=
  ⟨fun _ => jets_decode, fun _ => pumps_decode, fun _ => site_decodes, fun _ => wind_decodes, lums_decode,
    fun _ _ _ => sectionOfBytes_fits, fun _ _ _ => sectionOfBytes_fits, fun _ _ _ => sectionOfBytes_fits,
    fun _ _ _ => sectionOfBytes_fits⟩

end Sys2Proof.Proofs.Layouts


/-! PROOF. Every request's frame, read by R179, gives the rule that the request runs (O5). -/

namespace Sys2Proof.Proofs.Layouts

open Sys2Proof Sys2Proof.Machine Sys2Proof.Laws.FrameFits

/-- The frame of the command, read back, gives the rule that the command runs. -/
def Carries (i : Instr) (l : LinkId) (kind : Nat) (payload : List Byte) : Prop :=
  ∀ s, exec i s = s.act (Chip.request l kind (ruleOf l kind payload))

theorem Carries.of_rule {i : Instr} {l : LinkId} {kind : Nat} {payload : List Byte} {rule : Rule}
    (run : ∀ s, exec i s = s.act (Chip.request l kind rule)) (reads : ruleOf l kind payload = rule) : Carries i l kind payload := by
  rw [Carries, reads]
  exact run

theorem onPage_number (page : Nat) (rest : List Byte) (rule : Nat → Rule) (fits : page < 256) :
    onPage (beBytes 1 page ++ rest) rule = rule page := by
  rw [onPage, if_neg (by simp [beBytes]), beAt_here (by omega)]

theorem onPage_last (page : Nat) (rule : Nat → Rule) (fits : page < 256) : onPage (beBytes 1 page) rule = rule page := by
  simpa using onPage_number page [] rule fits

theorem stepOfBytes_setBytes (raw : RawStep) : stepOfBytes (setBytes 16 raw.toNat) = raw := by
  have fits : raw.toNat < 256 ^ 16 := by simpa using raw.isLt
  rw [stepOfBytes, leNat_setBytes, Nat.mod_eq_of_lt fits, BitVec.ofNat_toNat, BitVec.setWidth_eq]

/-- The steps of a run are read back from their bytes. -/
theorem stepsOfBytes_row (steps : List RawStep) :
    stepsOfBytes steps.length (steps.flatMap fun raw => setBytes 16 raw.toNat) = steps := by
  rw [stepsOfBytes, read_row (fun raw => length_setBytes 16 _) stepOfBytes]
  exact (List.map_congr_left fun raw _ => stepOfBytes_setBytes raw).trans (List.map_id _)

/-- The frame of four bytes that an audio frame's place holds. -/
def frameOfBytes (b : List Byte) : AudioFrame := ⟨BitVec.ofNat 16 (beAt b 0 2), BitVec.ofNat 16 (beAt b 2 2)⟩

theorem frameOfBytes_bytesOfFrame (f : AudioFrame) : frameOfBytes (bytesOfFrame f) = f := by
  have left : f.left.toNat < 256 ^ 2 := by simpa using f.left.isLt
  have right : f.right.toNat < 256 ^ 2 := by simpa using f.right.isLt
  rw [frameOfBytes, bytesOfFrame, beAt_here left, beAt_behind_number le_rfl, Nat.sub_self, beAt_last right]
  simp

theorem beAt_in_place (bytes : List Byte) (k off : Nat) (fits : off + 2 ≤ 4) :
    beAt bytes (4 * k + off) 2 = beAt ((bytes.drop (4 * k)).take 4) off 2 := by
  rw [beAt, beAt, List.drop_take, List.take_take, List.drop_drop, Nat.min_eq_left (by omega)]

/-- The frames of a run are read back from their bytes. -/
theorem framesOfBytes_row (frames : List AudioFrame) : framesOfBytes frames.length (frames.flatMap bytesOfFrame) = frames := by
  have sized (f : AudioFrame) : (bytesOfFrame f).length = 4 := by simp [bytesOfFrame, length_beBytes]
  calc framesOfBytes frames.length (frames.flatMap bytesOfFrame)
      = (List.range frames.length).map fun k => frameOfBytes (((frames.flatMap bytesOfFrame).drop (4 * k)).take 4) := by
        refine List.map_congr_left fun k _ => ?_
        rw [frameOfBytes, ← beAt_in_place _ k 0 (by omega), ← beAt_in_place _ k 2 (by omega)]
        rfl
    _ = frames.map (frameOfBytes ∘ bytesOfFrame) := read_row sized frameOfBytes frames
    _ = frames := (List.map_congr_left fun f _ => frameOfBytes_bytesOfFrame f).trans (List.map_id _)

/-- Where the fields are out of range, what the page request would do does not matter. -/
theorem pageStages_invalid (page : Nat) (allowed : PageState → Bool) (act act' : PageId → Rule) :
    pageStages page allowed false act = pageStages page allowed false act' := by
  funext c
  unfold pageStages
  split
  · split <;> rfl
  · rfl

theorem ruleStepWrite_mismatch {page start count : Nat} {steps steps' : List RawStep} (h : steps.length ≠ count) :
    ruleStepWrite page start count steps' false = ruleStepWrite page start count steps true := by
  simp only [ruleStepWrite, Bool.false_and, h, decide_false, Bool.and_false]
  exact pageStages_invalid _ _ _ _

theorem ruleAudio_mismatch {position count : Nat} {frames frames' : List AudioFrame} (h : frames.length ≠ count) :
    ruleAudio position count frames' false = ruleAudio position count frames true := by
  funext c
  unfold ruleAudio
  refine if_congr Iff.rfl rfl ?_
  rw [if_pos (by simp), if_pos (by simp [h])]

variable (l : LinkId)

theorem stepWrite_carries (page start count : Nat) (steps : List RawStep) (page_fits : page < 256) (start_fits : start < 65536)
    (count_fits : count < 256) :
    Carries (.stepWrite l page start count steps) l 2
      (beBytes 1 page ++ beBytes 2 start ++ beBytes 1 count ++ steps.flatMap fun raw => setBytes 16 raw.toNat) := by
  refine .of_rule (fun _ => rfl) ?_
  have length : (steps.flatMap fun raw => setBytes 16 raw.toNat).length = 16 * steps.length :=
    length_flatMap _ 16 (fun raw => length_setBytes 16 _) steps
  simp (disch := omega) only [ruleOf, List.append_assoc, onPage_number, beAt_behind_number, Nat.reduceSub, beAt_here]
  rw [drop_behind (by simp [length_beBytes]), drop_behind (by simp [length_beBytes]), drop_behind (by simp [length_beBytes])]
  simp only [length_beBytes, List.length_append, length, Nat.reduceSub, List.drop_zero]
  by_cases same : steps.length = count
  · subst same
    rw [stepsOfBytes_row, show (1 + (2 + (1 + 16 * steps.length)) == 4 + 16 * steps.length) = true by simp; omega]
  · rw [show (1 + (2 + (1 + 16 * steps.length)) == 4 + 16 * count) = false by simp; omega, ruleStepWrite_mismatch same]

theorem audio_carries (position count : Nat) (frames : List AudioFrame) (position_fits : position < 4294967296)
    (count_fits : count < 65536) :
    Carries (.audio l position count frames) l 13 (beBytes 4 position ++ beBytes 2 count ++ frames.flatMap bytesOfFrame) := by
  refine .of_rule (fun _ => rfl) ?_
  have length : (frames.flatMap bytesOfFrame).length = 4 * frames.length :=
    length_flatMap _ 4 (fun f => by simp [bytesOfFrame, length_beBytes]) frames
  simp (disch := omega) only [ruleOf, List.append_assoc, beAt_behind_number, Nat.reduceSub, beAt_here]
  rw [drop_behind (by simp [length_beBytes]), drop_behind (by simp [length_beBytes])]
  simp only [length_beBytes, List.length_append, length, Nat.reduceSub, List.drop_zero]
  by_cases same : frames.length = count
  · subst same
    rw [framesOfBytes_row, show (4 + (2 + 4 * frames.length) == 6 + 4 * frames.length) = true by simp; omega]
  · rw [show (4 + (2 + 4 * frames.length) == 6 + 4 * count) = false by simp; omega, ruleAudio_mismatch same]

theorem set_read {w len : Nat} (x : BitVec w) (fits : 2 ^ w = 256 ^ len) (rest : List Byte) :
    BitVec.ofNat w (setAt (setBytes len x.toNat ++ rest) 0 len) = x := by
  rw [setAt_here (fits ▸ x.isLt), BitVec.ofNat_toNat, BitVec.setWidth_eq]

theorem set_read_last {w len : Nat} (x : BitVec w) (fits : 2 ^ w = 256 ^ len) :
    BitVec.ofNat w (setAt (setBytes len x.toNat) 0 len) = x := by simpa using set_read x fits []

/-- A set that a single byte holds, read back from a number. -/
theorem bits_of_toNat {w : Nat} (x : BitVec w) : BitVec.ofNat w x.toNat = x := by rw [BitVec.ofNat_toNat, BitVec.setWidth_eq]

theorem sceneEntry_getD {entry : Option Nat} (fits : below 65535 entry = true) : sceneEntry (entry.getD 65535) = entry := by
  cases entry with
  | none => rfl
  | some n => exact if_neg (by simp only [below, decide_eq_true_eq] at fits; exact fits.ne)

theorem holdScene_getD {scene : Option Nat} (fits : below 255 scene = true) : holdScene (scene.getD 255) = scene := by
  cases scene with
  | none => rfl
  | some n => exact if_neg (by simp only [below, decide_eq_true_eq] at fits; exact fits.ne)

theorem getD_lt {code : Nat} {x : Option Nat} (fits : below code x = true) : x.getD code ≤ code := by
  cases x with
  | none => exact le_rfl
  | some n => simp only [below, decide_eq_true_eq] at fits; exact fits.le

/-- The frame of every well-formed request carries it. -/
theorem frame_carries {i : Instr} {kind : Nat} {payload : List Byte} (h : requestFrame i = some (l, kind, payload))
    (fits : wellFormed i = true) : Carries i l kind payload := by
  cases i with
  | stepWrite l page start count steps =>
    cases h
    simp only [wellFormed, oneByte, twoBytes, Bool.and_eq_true, decide_eq_true_eq] at fits
    exact stepWrite_carries l page start count steps fits.1.1.1 fits.1.1.2 fits.1.2
  | audio l position count frames =>
    cases h
    simp only [wellFormed, fourBytes, twoBytes, Bool.and_eq_true, decide_eq_true_eq] at fits
    exact audio_carries l position count frames fits.1.1 fits.1.2
  | sceneWrite l page scene entry =>
    cases h
    simp only [wellFormed, oneByte, Bool.and_eq_true, decide_eq_true_eq] at fits
    obtain ⟨⟨page_fits, scene_fits⟩, entry_fits⟩ := fits
    have entry_lt := getD_lt entry_fits
    refine .of_rule (fun _ => rfl) ?_
    simp (disch := omega) only [ruleOf, List.append_assoc, onPage_number, beAt_behind_number, Nat.reduceSub, beAt_here, beAt_last,
      List.length_append, length_beBytes, Nat.reduceAdd, beq_self_eq_true, sceneEntry_getD entry_fits]
  | holdSet l scene =>
    cases h
    have scene_lt := getD_lt (code := 255) fits
    refine .of_rule (fun _ => rfl) ?_
    simp (disch := omega) only [ruleOf, beAt_last, length_beBytes, beq_self_eq_true, holdScene_getD fits]
  | limitWrite l sect entries =>
    cases h
    simp only [wellFormed, oneByte, Bool.and_eq_true, decide_eq_true_eq] at fits
    refine .of_rule (fun _ => rfl) ?_
    simp (disch := omega) only [ruleOf, beAt_here]
    rw [if_neg (by simp [length_beBytes]), drop_behind (by simp [length_beBytes]), length_beBytes]
    rfl
  | cue l page music origin =>
    cases h
    simp only [wellFormed, oneByte, fourBytes, Bool.and_eq_true, decide_eq_true_eq] at fits
    refine .of_rule (fun _ => rfl) ?_
    have flag : (if music then 1 else 0) < 256 := by split <;> decide
    have music_read : ((if music then 1 else 0) != 0) = music := by cases music <;> rfl
    simp (disch := omega) only [ruleOf, List.append_assoc, beAt_behind_number, Nat.reduceSub, beAt_here, beAt_last,
      List.length_append, length_beBytes, Nat.reduceAdd, beq_self_eq_true, music_read]
  | _ =>
    cases h
    all_goals
      simp only [wellFormed, oneByte, twoBytes, fourBytes, Bool.and_eq_true, decide_eq_true_eq] at fits
      refine .of_rule (fun _ => rfl) ?_
      simp (disch := omega) only [ruleOf, List.append_assoc, onPage_number, onPage_last, beAt_behind_number, beAt_behind_set,
        Nat.reduceSub, beAt_here, beAt_last, set_read, set_read_last, bits_of_toNat, List.length_append, length_beBytes,
        length_setBytes, Nat.reduceAdd, beq_self_eq_true, List.length_nil]

end Sys2Proof.Proofs.Layouts


/-! PROOF. LNK: the tests of a request, its reply, and the frames (O2 to O5, O59). -/

namespace Sys2Proof.Proofs.Links

open Sys2Proof Sys2Proof.Machine Sys2Proof.Laws.FrameFits Sys2Proof.Proofs.StepEffects Sys2Proof.Proofs.Layouts

variable {i : Instr} {l : LinkId} {kind : Nat} {payload : List Byte} {c d : Chip} {rule : Rule}

/-! ## The tests of a request (R172) -/

theorem request_busy (free : c.resetHeld = false) (room : (c.links[l]).replies.length < 4) (owed : (c.links[l]).owed ≠ none) :
    Chip.request l kind rule c = c.reply l kind .busy .none := by
  have is_owed : (c.links[l]).owed.isSome = true := Option.isSome_iff_ne_none.mpr owed
  rw [Chip.request, if_neg (by simp [free]), if_neg (Nat.not_le.mpr room), if_pos is_owed]

/-- A request that finds room and no reply owed. -/
theorem request_admitted (free : c.resetHeld = false) (room : (c.links[l]).replies.length < 4) (owed : (c.links[l]).owed = none) :
    Chip.request l kind rule c = if !kindKnown kind then c.reply l kind .unknown .none
      else if !permits (c.links[l]).role kind then c.reply l kind .role .none else Chip.react l kind (rule c) := by
  rw [Chip.request, if_neg (by simp [free]), if_neg (Nat.not_le.mpr room), if_neg (by rw [owed]; exact Bool.false_ne_true)]

theorem request_role (free : c.resetHeld = false) (room : (c.links[l]).replies.length < 4) (owed : (c.links[l]).owed = none)
    (known : kindKnown kind = true) (role : permits (c.links[l]).role kind = false) :
    Chip.request l kind rule c = c.reply l kind .role .none := by
  rw [request_admitted free room owed, if_neg (by simp [known]), if_pos (by rw [role]; rfl)]

theorem request_unknown (free : c.resetHeld = false) (room : (c.links[l]).replies.length < 4) (owed : (c.links[l]).owed = none)
    (unknown : kindKnown kind = false) : Chip.request l kind rule c = c.reply l kind .unknown .none := by
  rw [request_admitted free room owed, if_pos (by rw [unknown]; rfl)]

theorem kind_known (h : requestFrame i = some (l, kind, payload)) : kindKnown kind = true := by
  cases i <;> cases h <;> rfl

/-- Settles O2: the tests that `Chip.request` makes before the rule. -/
theorem linkTests : Obligations.LinkTests := by
  intro i l kind payload frame s
  obtain ⟨rule, does⟩ := request_does frame
  have run := does.run s
  refine ⟨fun held => ?_, fun free => ⟨fun full => ?_, fun room => ⟨fun owed => ?_, fun owed role => ?_⟩⟩⟩
  · rw [run, State.act, Chip.request_held held]
  · rw [run, State.act, Chip.request_full full]
  · rw [Refuses, Answers, run, State.act, request_busy free room owed]
  · rw [Refuses, Answers, run, State.act, request_role free room owed (kind_known frame) role]

/-! ## The reply (R172) -/

@[simp] theorem reply_link (c : Chip) (l : LinkId) (kind : Nat) (code : ReplyCode) (data : ReplyData) :
    (c.reply l kind code data).links[l] = { c.links[l] with replies := (c.links[l]).replies ++ [⟨kind, code, data⟩] } := by
  simp [Chip.reply]

/-- What a request that LNK does not discard leaves: one reply of its kind, with nothing else changed where it refuses; or a
PAGE_CLOSE whose reply is owed. -/
inductive Replied (l : LinkId) (kind : Nat) (c : Chip) : Chip → Prop
  | answered (d : Chip) (code : ReplyCode) (data : ReplyData) (stand : RepliesStand c d) (refusal : code.taken = false → d = c) :
      Replied l kind c (d.reply l kind code data)
  | owed (d : Chip) (stand : RepliesStand c d) (close : kind = kindPageClose) (free : (c.links[l]).owed = none) :
      Replied l kind c (d.updLink l fun k => { k with owed := some kind })

theorem Replied.refused (code : ReplyCode) : Replied l kind c (c.reply l kind code .none) := .answered c code .none (.refl c) fun _ => rfl

theorem request_replied {may : Special → Prop} (does : RuleEffects may kind rule) (free : c.resetHeld = false)
    (room : (c.links[l]).replies.length < 4) : Replied l kind c (Chip.request l kind rule c) := by
  by_cases owed : (c.links[l]).owed = none
  · rw [request_admitted free room owed]
    split
    · exact .refused _
    · split
      · exact .refused _
      · obtain ⟨-, stand, reacts⟩ := does c
        generalize rule c = x at stand reacts
        obtain ⟨d, reaction⟩ := x
        rcases reacts with ⟨code, data, rfl, refusal⟩ | ⟨close, rfl⟩
        · exact .answered d code data stand refusal
        · exact .owed d stand close owed
  · rw [request_busy free room owed]
    exact .refused _

/-- Settles O3: what a request's rule does and answers, with LNK's own refusals. -/
theorem requestsAndTheirReplies : Obligations.RequestsAndTheirReplies := by
  intro i l kind payload frame not_restart s t free room next
  obtain ⟨rule, does⟩ := request_does frame
  have replied := request_replied (does.does not_restart) free room (l := l)
  rw [does.run, State.act_eq] at next
  cases next
  dsimp only
  generalize Chip.request l kind rule s.chip = e at replied
  cases replied with
  | answered d code data stand refusal =>
    refine .inl ⟨⟨kind, code, data⟩, ?_, rfl, fun refused => ?_⟩
    · rw [reply_link, (stand l).1]
    · rw [refusal refused]
  | owed d stand close _ =>
    refine .inr ⟨close, ?_, ?_⟩
    · simp
    · rw [← (stand l).1]
      simp

/-! ## Frames (R171) -/

theorem kind_toNat (known : kindKnown kind = true) : (BitVec.ofNat 8 kind).toNat = kind := by
  simp only [kindKnown, Bool.and_eq_true, decide_eq_true_eq] at known
  simp only [BitVec.toNat_ofNat]
  omega

theorem payload_fits (h : requestFrame i = some (l, kind, payload)) (fits : wellFormed i = true) : payload.length ≤ largestPayload := by
  cases i with
  | stepWrite l page start count steps => exact (stepWrite l page start count steps _ _ _ h).2 fits
  | audio l position count frames => exact (audio l position count frames _ _ _ h).2 fits
  | limitWrite l sect entries => exact (limitWrite l sect entries _ _ _ h).2 fits
  | _ =>
    cases h
    all_goals simp [length_beBytes, length_setBytes, largestPayload]

/-- A frame that has come whole, with its CRC, is its request on the link that is in HUNT again. -/
theorem frameEnd_whole {b : Byte} (ready : c.assembling l = true) (fits : payload.length ≤ largestPayload) :
    c.frameEnd l b payload (frameCrc b payload) =
      Chip.request l b.toNat (ruleOf l b.toNat payload) (c.setReceive l .hunt false) := by
  rw [Chip.frameEnd, if_neg (by simp [ready]), if_neg (Nat.not_lt.mpr fits)]
  exact if_pos rfl

theorem frameEnd_damaged {b : Byte} {crc : BitVec 16} (ready : c.assembling l = true) (fits : payload.length ≤ largestPayload)
    (damaged : crc ≠ frameCrc b payload) :
    c.frameEnd l b payload crc = (c.setReceive l .hunt false).badFrame l b.toNat := by
  rw [Chip.frameEnd, if_neg (by simp [ready]), if_neg (Nat.not_lt.mpr fits)]
  exact if_neg damaged

/-- Settles O5: the frame is whole and fits, and its payload read back gives the rule of the request. -/
theorem framesCarryRequests : Obligations.FramesCarryRequests := by
  intro i l kind payload frame fits s free ready
  have run : exec (.frameReceived l (BitVec.ofNat 8 kind) payload (frameCrc (BitVec.ofNat 8 kind) payload)) s =
      s.act (Chip.event (Chip.frameEnd l (BitVec.ofNat 8 kind) payload (frameCrc (BitVec.ofNat 8 kind) payload))) := rfl
  rw [run, frame_carries l frame fits, State.act, State.act, Chip.event_free free, frameEnd_whole ready (payload_fits frame fits),
    kind_toNat (kind_known frame)]

theorem badFrame_room (room : (c.links[l]).replies.length < 4) : c.badFrame l kind = c.reply l kind .badFrame .none :=
  if_neg (Nat.not_le.mpr room)

theorem badFrame_full (full : 4 ≤ (c.links[l]).replies.length) : c.badFrame l kind = c := if_pos full

@[simp] theorem setReceive_link (c : Chip) (l : LinkId) (state : Receive) (discarding : Bool) :
    (c.setReceive l state discarding).links[l] = { c.links[l] with receive := state, discarding := discarding } := by
  simp [Chip.setReceive]

/-- An event of a link that changes the part to `d`. -/
theorem event_next {s : State} {f : Chip → Chip} (run : exec i s = s.act (Chip.event f)) (free : s.chip.resetHeld = false)
    (gives : f s.chip = d) : exec i s = .next { s with chip := d } := by
  rw [run, State.act, Chip.event_free free, gives]

theorem startByte_hunt (h : (c.links[l]).receive = .hunt) : c.startByte l = c.setReceive l .receiving false := by
  simp only [Chip.startByte, h]

theorem startByte_receiving (h : (c.links[l]).receive = .receiving) : c.startByte l = c := by
  simp only [Chip.startByte, h]

theorem lengthFault_assembling {b : Byte} {length : Nat} (ready : c.assembling l = true) (long : 1040 < length) :
    c.lengthFault l b length = (c.badFrame l b.toNat).setReceive l .receiving true :=
  if_pos (by rw [ready, Bool.true_and, decide_eq_true_eq]; exact long)

theorem gap_assembling {b : Option Byte} (ready : c.assembling l = true) :
    c.gap l b = (c.badFrame l (match b with | some k => k.toNat | none => 0)).setReceive l .hunt false :=
  (if_pos ready).trans (by cases b <;> rfl)

theorem kind_unknown {kind : Nat} (h : kind = 0 ∨ 45 ≤ kind) : kindKnown kind = false := by
  simp only [kindKnown, Bool.and_eq_false_iff, decide_eq_false_iff_not]
  omega

/-- Settles O4: each event of a link by its own branch. -/
theorem framesAreAssembled : Obligations.FramesAreAssembled := by
  refine ⟨fun s l free => ⟨fun hunt => ?_, fun receiving => ?_, fun ready room => ⟨fun kind length long => ?_, fun kind => ?_⟩,
    fun ready full => ⟨fun kind length long => ?_, fun kind => ?_⟩, fun discarding => ?_, fun r rest oldest => ?_⟩,
    fun s l kind payload crc free ready fits room => ⟨fun damaged => ?_, fun whole owed unknown => ?_⟩⟩
  · exact event_next rfl free (startByte_hunt hunt)
  · exact event_next rfl free (startByte_receiving receiving)
  · exact event_next rfl free (by rw [lengthFault_assembling ready long, badFrame_room room])
  · exact event_next rfl free (by cases kind <;> rw [gap_assembling ready, badFrame_room room])
  · exact event_next rfl free (by rw [lengthFault_assembling ready long, badFrame_full full])
  · exact event_next rfl free (by rw [gap_assembling ready, badFrame_full full])
  · exact event_next rfl free (if_pos discarding)
  · exact event_next rfl free (by simp only [Chip.replySent, oldest])
  · refine event_next rfl free ?_
    have room : (((s.chip.setReceive l .hunt false).links[l]).replies).length < 4 := by rw [setReceive_link]; exact room
    rw [frameEnd_damaged ready fits damaged, badFrame_room room]
  · refine event_next rfl free ?_
    have room : (((s.chip.setReceive l .hunt false).links[l]).replies).length < 4 := by rw [setReceive_link]; exact room
    have owed : ((s.chip.setReceive l .hunt false).links[l]).owed = none := by rw [setReceive_link]; exact owed
    rw [whole, frameEnd_whole ready fits]
    exact request_unknown free room owed (kind_unknown unknown)

/-! ## Frames that carry requests (R171, R172) -/

theorem senseStop_fountain (c : Chip) : c.FountainOnly c.senseStop := .ite (Chip.tripCause_fountain c _) (.refl c)

/-- After a RESTART a link is in HUNT, with no reply waiting and none owed. -/
theorem restart_link (c : Chip) (l : LinkId) :
    ((c.restart).links[l]).receive = .hunt ∧ ((c.restart).links[l]).owed = none ∧ ((c.restart).links[l]).replies = [] := by
  have values : (c.restartValues).links[l] = (c.links[l]).afterRestart := Vector.getElem_ofFn _
  have stop : (c.restart).links[l] = { (c.links[l]).afterRestart with notices := ((c.restart).links[l]).notices } := by
    rw [← values]
    exact (senseStop_fountain c.restartValues).2 l
  rw [stop]
  exact ⟨rfl, rfl, rfl⟩

theorem restart_payload (h : requestFrame i = some (l, 21, payload)) : payload = [] := by
  cases i <;> cases h
  rfl

theorem setReceive_hears {state : Receive} {discarding : Bool} (heard : c.hears l kind) :
    (c.setReceive l state discarding).hears l kind := by
  obtain ⟨free, room, owed, role⟩ := heard
  refine ⟨free, ?_, ?_, ?_⟩
  all_goals
    rw [setReceive_link]
    assumption

theorem frame_next {b : Byte} {s : State} (free : s.chip.resetHeld = false) (ready : s.chip.assembling l = true)
    (fits : payload.length ≤ largestPayload) : exec (.frameReceived l b payload (frameCrc b payload)) s = .next { s with
      chip := Chip.request l b.toNat (ruleOf l b.toNat payload) (s.chip.setReceive l .hunt false) } :=
  event_next rfl free (frameEnd_whole ready fits)

/-- What a link finds after a whole frame on it, other than RESTART. -/
theorem request_link {may : Special → Prop} (does : RuleEffects may kind rule) (heard : c.hears l kind) {e : Chip}
    (result : Chip.request l kind rule (c.setReceive l .hunt false) = e) :
    (e.links[l]).receive = .hunt ∧
      (((e.links[l]).owed = none ∧ ∃ r : Reply, (e.links[l]).replies = (c.links[l]).replies ++ [r] ∧ r.kind = kind) ∨
        (kind = kindPageClose ∧ (e.links[l]).owed = some kind ∧ (e.links[l]).replies = (c.links[l]).replies)) := by
  obtain ⟨free, room, owed, -⟩ := setReceive_hears (state := .hunt) (discarding := false) heard
  have replied := request_replied does free room (l := l)
  rw [result] at replied
  have heard_link := setReceive_link c l .hunt false
  cases replied with
  | answered d code data stand refusal =>
    obtain ⟨replies, owes, receive⟩ := stand l
    rw [reply_link]
    refine ⟨receive.trans (by rw [heard_link]), .inl ⟨owes.trans owed, ⟨kind, code, data⟩, ?_, rfl⟩⟩
    rw [replies, heard_link]
  | owed d stand close _ =>
    obtain ⟨replies, owes, receive⟩ := stand l
    have link : (d.updLink l fun k => { k with owed := some kind }).links[l] = { d.links[l] with owed := some kind } := by simp
    rw [link]
    exact ⟨receive.trans (by rw [heard_link]), .inr ⟨close, rfl, replies.trans (by rw [heard_link])⟩⟩

theorem gain_read (high low : Byte) : beAt [high, low] 0 2 = high.toNat * 256 + low.toNat := by
  simp [beAt, beNat]

/-- Settles O59: a whole frame is its request, and what the request's rule does and answers is said once for all rules. -/
theorem receivedFramesReachTheirRules : Obligations.ReceivedFramesReachTheirRules := by
  refine ⟨fun i l kind payload frame fits s heard ready => ?_, fun s l high low heard ready => ?_⟩
  · have known := kind_known frame
    have next := frame_next (b := BitVec.ofNat 8 kind) heard.1 ready (payload_fits frame fits)
    rw [kind_toNat known] at next
    refine ⟨_, next, rfl, ?_⟩
    by_cases restart : kind = 21
    · subst restart
      obtain rfl := restart_payload frame
      have made : Chip.request l 21 (ruleOf l 21 []) (s.chip.setReceive l .hunt false) =
          ((s.chip.setReceive l .hunt false).reply l kindRestart .ok .none).restart :=
        Chip.request_heard rfl (setReceive_hears heard)
      dsimp only
      rw [made]
      obtain ⟨receive, owed, replies⟩ := restart_link ((s.chip.setReceive l .hunt false).reply l kindRestart .ok .none) l
      exact ⟨receive, fun _ other => absurd rfl other, nofun, fun _ => ⟨owed, replies⟩⟩
    · obtain ⟨receive, answer⟩ := request_link (ruleOf_effects (may := fun _ => True) l payload restart fun _ _ => trivial) heard rfl
      refine ⟨receive, fun other _ => ?_, fun close => ?_, fun is_restart => absurd is_restart restart⟩
      · exact answer.resolve_right fun close => other close.1
      · subst close
        exact answer.symm.imp_left fun owes => owes.2
  · refine ⟨_, rfl, ?_⟩
    rw [frame_next heard.1 ready (by simp [largestPayload])]
    have made : Chip.request l 15 (ruleOf l 15 [high, low]) (s.chip.setReceive l .hunt false) =
        Chip.reply { s.chip.setReceive l .hunt false with
          gain := { s.chip.gain with master := min 256 (beAt [high, low] 0 2) } } l 15 .ok .none :=
      Chip.request_heard rfl (setReceive_hears heard)
    rw [gain_read] at made
    exact congrArg (fun e => Host.Outcome.next { s with chip := e }) made

end Sys2Proof.Proofs.Links


/-! PROOF. What every effect keeps of the sensing record, the limit table and the links (O55, O56, O58). -/

namespace Sys2Proof.Proofs.RecordsKept

open Sys2Proof Sys2Proof.Machine Sys2Proof.Proofs.Water Sys2Proof.Proofs.StepEffects Sys2Proof.Proofs.FountainMoves
  Sys2Proof.Proofs.Layouts Sys2Proof.Proofs.Links Sys2Proof.Proofs.RequestEffects

variable {may : Special → Prop} {c d : Chip}

/-! ## The sensing record -/

/-- The sensing record agrees with itself, with the wind class limits `wind`. -/
structure SensingFits (wind : Vector WindLimit 4) (n : Sensing) : Prop where
  pulses : n.pulses ≤ 65535
  full : n.ring.length = 0 ∨ n.ring.length = 8
  samples : ∀ v ∈ n.ring, v ≤ 999
  average : n.vAvg = n.ring.sum / 8
  peak : n.vPeak = n.ring.foldl max 0
  factors : n.factors = windFactors wind n.vAvg
  level : n.level = levelOfSwitches n.lowTrip.state n.lowWarn.state

theorem sensingKept_iff : c.sensingKept ↔ SensingFits c.limits.wind c.sense ∧ (c.resetHeld = false → c.sense.eStop = c.lines.eStop) :=
  ⟨fun ⟨pulses, full, samples, average, peak, factors, level, stop⟩ => ⟨⟨pulses, full, samples, average, peak, factors, level⟩, stop⟩,
    fun ⟨⟨pulses, full, samples, average, peak, factors, level⟩, stop⟩ => ⟨pulses, full, samples, average, peak, factors, level, stop⟩⟩

theorem sensingKept_of_fountain (h : c.FountainOnly d) (k : c.sensingKept) : d.sensingKept := by
  rw [sensingKept_iff] at k ⊢
  rw [h.sense, h.limits, h.resetHeld, h.lines]
  exact k

theorem ringEntry_length {ring : List Nat} (v : Nat) (h : ring.length = 0 ∨ ring.length = 8) : (ringEntry ring v).length = 8 := by
  unfold ringEntry
  split
  · rfl
  next filled =>
    have length : ring.length = 8 := h.resolve_left fun none => filled (by simpa using none)
    simp [length]

theorem mem_ringEntry {ring : List Nat} {v u : Nat} (h : u ∈ ringEntry ring v) : u = v ∨ u ∈ ring := by
  unfold ringEntry at h
  split at h
  · exact .inl (List.eq_of_mem_replicate h)
  · exact (List.mem_append.mp h).symm.imp List.mem_singleton.mp List.mem_of_mem_drop

theorem closeGate_fits {wind : Vector WindLimit 4} {n : Sensing} (h : SensingFits wind n) (scale : Nat) :
    SensingFits wind (n.closeGate scale wind) where
  pulses := Nat.zero_le _
  full := .inr (ringEntry_length _ h.full)
  samples u hu := (mem_ringEntry hu).elim (fun e => e ▸ Nat.min_le_left _ _) (h.samples u)
  average := rfl
  peak := rfl
  factors := rfl
  level := h.level

theorem setSwitch_fits {wind : Vector WindLimit 4} {n : Sensing} (h : SensingFits wind n) (which : LevelSwitch) {v : Debounced}
    (state : v.state = (n.switch which).state) : SensingFits wind (n.setSwitch which v) := by
  obtain ⟨pulses, full, samples, average, peak, factors, level⟩ := h
  cases which with
  | lowWarn =>
    have formed : levelOfSwitches n.lowTrip.state n.lowWarn.state = levelOfSwitches n.lowTrip.state v.state := by rw [state]; rfl
    exact ⟨pulses, full, samples, average, peak, factors, level.trans formed⟩
  | lowTrip =>
    have formed : levelOfSwitches n.lowTrip.state n.lowWarn.state = levelOfSwitches v.state n.lowWarn.state := by rw [state]; rfl
    exact ⟨pulses, full, samples, average, peak, factors, level.trans formed⟩

theorem levelFormed_fits {wind : Vector WindLimit 4} {n : Sensing} (h : SensingFits wind n) (which : LevelSwitch) (v : Debounced) :
    SensingFits wind { n.setSwitch which v with
      level := levelOfSwitches (n.setSwitch which v).lowTrip.state (n.setSwitch which v).lowWarn.state } := by
  obtain ⟨pulses, full, samples, average, peak, factors, -⟩ := h
  cases which <;> exact ⟨pulses, full, samples, average, peak, factors, rfl⟩

theorem setSwitch_eStop (n : Sensing) (which : LevelSwitch) (v : Debounced) : (n.setSwitch which v).eStop = n.eStop := by
  cases which <;> rfl

/-- Without wind every factor is 1000 (R149). -/
theorem windFactors_calm (wind : Vector WindLimit 4) : windFactors wind 0 = Vector.replicate 4 1000 := by
  ext k hk
  simp [windFactors, windFactor]

theorem resetSensing_fits (wind : Vector WindLimit 4) (now : Nat) (eStop : Bool) : SensingFits wind (resetSensing now eStop) where
  pulses := Nat.zero_le _
  full := .inl rfl
  samples := nofun
  average := (Nat.zero_div 8).symm
  peak := rfl
  factors := (windFactors_calm wind).symm
  level := rfl

theorem writeSection_sensing (h : c.sensingKept) (x : LimitSection) : (c.writeSection x).sensingKept := by
  have ended {d : Chip} (k : d.sensingKept) : d.endEvent.sensingKept := sensingKept_of_fountain (Chip.endEvent_water d).fountain k
  obtain ⟨fits, stop⟩ := sensingKept_iff.mp h
  cases x with
  | pumps es =>
    have written : Chip.sensingKept { c with limits := { c.limits with pumps := es } } := sensingKept_iff.mpr ⟨fits, stop⟩
    exact ended (sensingKept_of_fountain (Chip.WaterOnly.forEach fun p d => changeService_water d _ p).fountain written)
  | wind es =>
    obtain ⟨pulses, full, samples, average, peak, -, level⟩ := fits
    exact ended (sensingKept_iff.mpr ⟨⟨pulses, full, samples, average, peak, rfl, level⟩, stop⟩)
  | jets es => exact ended (sensingKept_iff.mpr ⟨fits, stop⟩)
  | site e => exact ended (sensingKept_iff.mpr ⟨fits, stop⟩)
  | lums es => exact ended (sensingKept_iff.mpr ⟨fits, stop⟩)

theorem resetValues_sensing (h : ResetValues c d) : d.sensingKept := by
  cases h <;> exact sensingKept_iff.mpr ⟨resetSensing_fits _ _ _, fun _ => rfl⟩

theorem reset_sensing (h : ResetValues c d) : d.senseStop.sensingKept :=
  sensingKept_of_fountain (senseStop_fountain d) (resetValues_sensing h)

theorem emptied_sensing (h : c.sensingKept) (f : Link → Link) : (Chip.updLinks { c with resetHeld := true } f).sensingKept :=
  sensingKept_iff.mpr ⟨(sensingKept_iff.mp h).1, nofun⟩

theorem effect_sensing (h : Effect may c d) (k : c.sensingKept) : d.sensingKept := by
  obtain ⟨fits, stop⟩ := sensingKept_iff.mp k
  cases h with
  | fountain effect => exact sensingKept_of_fountain (fountainEffect_fountain effect) k
  | writeSection x => exact writeSection_sensing k x
  | advance n =>
    obtain ⟨pulses, full, samples, average, peak, factors, level⟩ := fits
    exact sensingKept_iff.mpr ⟨⟨pulses, full, samples, average, peak, factors, level⟩, stop⟩
  | pulse =>
    obtain ⟨-, full, samples, average, peak, factors, level⟩ := fits
    exact sensingKept_iff.mpr ⟨⟨Nat.min_le_left _ _, full, samples, average, peak, factors, level⟩, stop⟩
  | closeGate => exact sensingKept_iff.mpr ⟨closeGate_fits fits _, stop⟩
  | switch which v state =>
    exact sensingKept_iff.mpr ⟨setSwitch_fits fits which state, fun free => (setSwitch_eStop _ _ _).trans (stop free)⟩
  | level which v =>
    exact sensingKept_iff.mpr ⟨levelFormed_fits fits which v, fun free => (setSwitch_eStop _ _ _).trans (stop free)⟩
  | dusk v =>
    obtain ⟨pulses, full, samples, average, peak, factors, level⟩ := fits
    exact sensingKept_iff.mpr ⟨⟨pulses, full, samples, average, peak, factors, level⟩, stop⟩
  | lines n eStop => exact sensingKept_iff.mpr ⟨fits, fun free => (stop free).trans eStop.symm⟩
  | stopLine level sensed follows =>
    obtain ⟨pulses, full, samples, average, peak, factors, level⟩ := fits
    exact sensingKept_iff.mpr ⟨⟨pulses, full, samples, average, peak, factors, level⟩, follows⟩
  | assertReset => exact emptied_sensing (sensingKept_of_fountain (Chip.dropPower_fountain c) k) _
  | powerOn lines => exact reset_sensing (c := c) (.powerOn lines)
  | lineReset straps => exact reset_sensing (.lineReset straps)
  | restart => exact reset_sensing .restart
  | gainStep =>
    unfold Chip.gainStep
    split <;> exact k
  | reply | owe | receive | sent | told | gain | countPeriod | page | validated | protect | hydraulics => exact k

/-- Settles O55: the pump records and the circulation record through the chains of moves, the sensing record through the effects. -/
theorem recordsStayConsistent : Obligations.RecordsStayConsistent :=
  ⟨fun _ _ kept next => step_keeps effect_kept kept next, fun _ _ kept next => step_keeps effect_circKept kept next,
    fun _ _ kept next => step_keeps effect_sensing kept next⟩

end Sys2Proof.Proofs.RecordsKept


/-! PROOF. What every effect keeps of the limit table and of the contents of the pages (O58). -/

namespace Sys2Proof.Proofs.RecordsKept

open Sys2Proof Sys2Proof.Machine Sys2Proof.Proofs.Water Sys2Proof.Proofs.StepEffects Sys2Proof.Proofs.FountainMoves
  Sys2Proof.Proofs.Layouts Sys2Proof.Proofs.Links Sys2Proof.Proofs.RequestEffects

variable {may : Special → Prop} {c d : Chip}

/-! ## The limit table -/

/-- The entries of the limit table lie in the ranges of R175. -/
structure LimitsFit (k : Limits) : Prop where
  jets : ∀ j : JetId, (k.jets[j]).height ≤ 1000
  pumps : ∀ p : PumpId, (k.pumps[p]).inRange
  site : k.site.inRange
  wind : ∀ w : Fin 4, (k.wind[w]).inRange

/-- A site code in 1..65535 stands unless the level is OPEN (R176). -/
def CodeFits (p : Protection) (code : Option Nat) : Prop := (p = .opened ↔ code = none) ∧ ∀ k ∈ code, 1 ≤ k ∧ k ≤ 65535

theorem tableKept_iff : c.tableKept ↔ LimitsFit c.limits ∧ CodeFits c.protection c.siteCode :=
  ⟨fun ⟨jets, pumps, site, wind, level, code⟩ => ⟨⟨jets, pumps, site, wind⟩, level, code⟩,
    fun ⟨⟨jets, pumps, site, wind⟩, level, code⟩ => ⟨jets, pumps, site, wind, level, code⟩⟩

theorem tableKept_of_same (k : c.tableKept) (limits : d.limits = c.limits) (protection : d.protection = c.protection)
    (siteCode : d.siteCode = c.siteCode) : d.tableKept := by
  rw [tableKept_iff] at k ⊢
  rw [limits, protection, siteCode]
  exact k

theorem tableKept_of_fountain (h : c.FountainOnly d) (k : c.tableKept) : d.tableKept :=
  tableKept_of_same k h.limits h.protection h.siteCode

theorem defaultLimits_fit : LimitsFit defaultLimits where
  jets j := by
    have entry : (defaultLimits.jets[j]).height = 0 := by simp [defaultLimits]
    rw [entry]
    exact Nat.zero_le _
  pumps p := by
    have entry : defaultLimits.pumps[p] = ⟨false, 300, 1000, 2000, 10000, 30, 20, 120, 10, 20, 20⟩ := Vector.getElem_replicate _
    rw [entry]
    decide
  site := by decide
  wind w := by
    have entry : defaultLimits.wind[w] = ⟨999, 999, 1000⟩ := Vector.getElem_replicate _
    rw [entry]
    decide

/-- The limit table with a section written (R177). -/
def withSection (k : Limits) : LimitSection → Limits
  | .jets es => { k with jets := es }
  | .pumps es => { k with pumps := es }
  | .site e => { k with site := e }
  | .wind es => { k with wind := es }
  | .lums es => { k with lums := es }

theorem writeSection_table (c : Chip) (x : LimitSection) :
    (c.writeSection x).limits = withSection c.limits x ∧
    (c.writeSection x).protection = c.protection ∧ (c.writeSection x).siteCode = c.siteCode := by
  have ended (d : Chip) : d.endEvent.limits = d.limits ∧ d.endEvent.protection = d.protection ∧ d.endEvent.siteCode = d.siteCode :=
    have only := Chip.endEvent_water d
    ⟨only.limits, only.protection, only.siteCode⟩
  cases x with
  | pumps es =>
    have served : Chip.WaterOnly { c with limits := { c.limits with pumps := es } }
        (Chip.forEach (List.finRange 12) (Chip.changeService c.limits.pumps) { c with limits := { c.limits with pumps := es } }) :=
      Chip.WaterOnly.forEach fun p d => changeService_water d _ p
    obtain ⟨limits, protection, siteCode⟩ := ended (Chip.forEach (List.finRange 12) (Chip.changeService c.limits.pumps)
      { c with limits := { c.limits with pumps := es } })
    exact ⟨limits.trans served.limits, protection.trans served.protection, siteCode.trans served.siteCode⟩
  | jets es => exact ended _
  | site e => exact ended _
  | wind es => exact ended _
  | lums es => exact ended _

theorem writeSection_tableKept {x : LimitSection} {n : Nat} (fits : SectionFits n x) (k : c.tableKept) :
    (c.writeSection x).tableKept := by
  obtain ⟨limits, protection, siteCode⟩ := writeSection_table c x
  obtain ⟨⟨jets, pumps, site, wind⟩, code⟩ := tableKept_iff.mp k
  rw [tableKept_iff, limits, protection, siteCode]
  refine ⟨?_, code⟩
  cases x with
  | jets es => exact ⟨fits.2, pumps, site, wind⟩
  | pumps es => exact ⟨jets, fits.2, site, wind⟩
  | site e => exact ⟨jets, pumps, fits.2, wind⟩
  | wind es => exact ⟨jets, pumps, site, fits.2⟩
  | lums es => exact ⟨jets, pumps, site, wind⟩

theorem resetValues_table (h : ResetValues c d) (k : c.tableKept) : d.tableKept := by
  have unset : CodeFits .opened none := ⟨⟨fun _ => rfl, fun _ => rfl⟩, nofun⟩
  cases h with
  | restart => exact tableKept_of_same k rfl rfl rfl
  | powerOn | lineReset => exact tableKept_iff.mpr ⟨defaultLimits_fit, unset⟩

theorem reset_table (h : ResetValues c d) (k : c.tableKept) : d.senseStop.tableKept :=
  tableKept_of_fountain (senseStop_fountain d) (resetValues_table h k)

theorem emptied_table (k : c.tableKept) (f : Link → Link) : (Chip.updLinks { c with resetHeld := true } f).tableKept :=
  tableKept_of_same k rfl rfl rfl

theorem effect_table (h : Effect may c d) (k : c.tableKept) : d.tableKept := by
  cases h with
  | fountain effect => exact tableKept_of_fountain (fountainEffect_fountain effect) k
  | writeSection x _ _ _ read =>
    obtain ⟨sect, bytes, read⟩ := read
    exact writeSection_tableKept (sectionOfBytes_fits read) k
  | protect p code _ level =>
    obtain ⟨table, opened, ranges⟩ := tableKept_iff.mp k
    refine tableKept_iff.mpr ⟨table, ⟨fun is_open => absurd is_open level.2, nofun⟩, fun n is_code => ?_⟩
    cases is_code
    rcases level.1 with ⟨-, range⟩ | same
    · exact range
    · exact ranges code same
  | assertReset => exact emptied_table (tableKept_of_fountain (Chip.dropPower_fountain c) k) _
  | powerOn lines => exact reset_table (.powerOn lines) k
  | lineReset straps => exact reset_table (.lineReset straps) k
  | restart => exact reset_table .restart k
  | gainStep =>
    unfold Chip.gainStep
    split <;> exact k
  | page | reply | owe | receive | sent | told | gain | countPeriod | validated | hydraulics | advance | pulse | closeGate | switch
  | level | dusk | lines | stopLine => exact tableKept_of_same k rfl rfl rfl

/-! ## A LOCKED table (R176, R177) -/

/-- The table and its protection stand. -/
def TableStands (c d : Chip) : Prop := d.limits = c.limits ∧ d.protection = c.protection

theorem TableStands.of_fountain (h : c.FountainOnly d) : TableStands c d := ⟨h.limits, h.protection⟩

theorem restart_table (c : Chip) : TableStands c c.restart := .of_fountain (c := c.restartValues) (senseStop_fountain _)

theorem emptied_stands_table (c : Chip) (f : Link → Link) : TableStands c (Chip.updLinks { c with resetHeld := true } f) := ⟨rfl, rfl⟩

/-- Only a section written, a change of the protection and two resets touch the table. -/
theorem effect_tableStands (h : Effect may c d) : TableStands c d ∨
    (may .writeTable ∧ c.protection ≠ .locked ∧ d.protection = c.protection) ∨ (may .protect ∧ d.limits = c.limits) ∨
    may .powerOn ∨ may .lineReset := by
  cases h with
  | fountain effect => exact .inl (.of_fountain (fountainEffect_fountain effect))
  | writeSection x special guard =>
    refine .inr (.inl ⟨special, fun locked => ?_, (writeSection_table c x).2.1⟩)
    rw [Chip.tableGuard, locked] at guard
    cases guard
  | protect p code special => exact .inr (.inr (.inl ⟨special, rfl⟩))
  | assertReset =>
    have dropped := TableStands.of_fountain (Chip.dropPower_fountain c)
    have emptied := emptied_stands_table c.dropPower fun k =>
      { k with receive := .hunt, discarding := false, owed := none, replies := [], notices := [] }
    exact .inl ⟨emptied.1.trans dropped.1, emptied.2.trans dropped.2⟩
  | powerOn _ special => exact .inr (.inr (.inr (.inl special)))
  | lineReset _ special => exact .inr (.inr (.inr (.inr special)))
  | restart => exact .inl (restart_table c)
  | gainStep =>
    unfold Chip.gainStep
    split <;> exact .inl ⟨rfl, rfl⟩
  | page | reply | owe | receive | sent | told | gain | countPeriod | validated | hydraulics | advance | pulse | closeGate | switch
  | level | dusk | lines | stopLine => exact .inl ⟨rfl, rfl⟩

/-- No command both writes a section and changes the protection; and without the two resets a LOCKED table stands. -/
theorem locked_stands (h : Effects may c d) (power : ¬may .powerOn) (line : ¬may .lineReset)
    (one : may .writeTable → ¬may .protect) (locked : c.protection = .locked) : d.limits = c.limits := by
  have kept : d.limits = c.limits ∧ (¬may .protect → d.protection = .locked) := by
    refine h.keeps (P := fun e => e.limits = c.limits ∧ (¬may .protect → e.protection = .locked)) (fun {x y} effect k => ?_)
      ⟨rfl, fun _ => locked⟩
    obtain ⟨limits, still_locked⟩ := k
    rcases effect_tableStands effect with ⟨same, level⟩ | ⟨special, unlocked, -⟩ | ⟨special, same⟩ | special | special
    · exact ⟨same.trans limits, fun free => level.trans (still_locked free)⟩
    · exact absurd (still_locked (one special)) unlocked
    · exact ⟨same.trans limits, fun free => absurd special free⟩
    · exact absurd special power
    · exact absurd special line
  exact kept.1

theorem kind_of_writeTable {kind : Nat} (write : kindMakes kind .writeTable) : kind = 31 := by
  unfold kindMakes at write
  split at write <;> first | rfl | cases write

theorem kindMakes_one (kind : Nat) (write : kindMakes kind .writeTable) : ¬kindMakes kind .protect := by
  rw [kind_of_writeTable write]
  exact nofun

theorem mayMake_one (i : Instr) (write : mayMake i .writeTable) : ¬mayMake i .protect := by
  unfold mayMake at write ⊢
  split at write
  · cases write
  · cases write
  · cases write
  · cases write
  · exact kindMakes_one _ write
  · obtain ⟨l, kind, payload, frame, write⟩ := write
    rintro ⟨l', kind', payload', frame', protect⟩
    rw [frame] at frame'
    cases frame'
    exact kindMakes_one kind write protect

theorem kindMakes_no_reset {kind : Nat} {x : Special} (reset : x = .powerOn ∨ x = .lineReset) : ¬kindMakes kind x := by
  unfold kindMakes
  rcases reset with rfl | rfl <;> split <;> exact nofun

theorem mayMake_powerOn {i : Instr} (h : mayMake i .powerOn) : ∃ lines : Lines, i = .powerOnReset lines := by
  unfold mayMake at h
  split at h
  · exact ⟨_, rfl⟩
  · cases h
  · cases h
  · cases h
  · exact absurd h (kindMakes_no_reset (.inl rfl))
  · obtain ⟨_, _, _, -, makes⟩ := h
    exact absurd makes (kindMakes_no_reset (.inl rfl))

theorem mayMake_lineReset {i : Instr} (h : mayMake i .lineReset) : ∃ straps : Vector StrapPins 3, i = .lineResetRelease straps := by
  unfold mayMake at h
  split at h
  · cases h
  · exact ⟨_, rfl⟩
  · cases h
  · cases h
  · exact absurd h (kindMakes_no_reset (.inr rfl))
  · obtain ⟨_, _, _, -, makes⟩ := h
    exact absurd makes (kindMakes_no_reset (.inr rfl))

/-! ## The contents of a LIVE page (R19, R20) -/

theorem moves_pages {b : Bool} (h : Moves b c d) : PagesStand c d :=
  h.rel .refl .trans (fun move => by
    cases move with
    | water moves => exact .of_pages (waterMoves_water moves).pages
    | still h => exact h.pages
    | begin e f _ moves =>
      have same := (waterMoves_water moves).pages
      exact .of_pages same
    | power | circ | renew | drop | clearQueue | stopDrives | closeJets => exact .of_pages rfl) fun _ => .of_pages rfl

theorem afterReset_contents (pg : Page) :
    pg.afterReset.steps = pg.steps ∧ pg.afterReset.scenes = pg.scenes ∧ pg.afterReset.slots = pg.slots := by
  unfold Page.afterReset
  split <;> exact ⟨rfl, rfl, rfl⟩

theorem lineResetValues_pages (c : Chip) (straps : Vector StrapPins 3) : PagesStand c (c.lineResetValues straps) := fun k => by
  have page : (c.lineResetValues straps).pages[k] = (c.pages[k]).afterReset := Vector.getElem_ofFn _
  rw [page]
  exact afterReset_contents _

theorem restartValues_pages (c : Chip) : PagesStand c c.restartValues := lineResetValues_pages c c.lines.straps

theorem emptied_pages (c : Chip) (f : Link → Link) : PagesStand c (Chip.updLinks { c with resetHeld := true } f) := .of_pages rfl

theorem checked_contents (pg : Page) : pg.checked.steps = pg.steps ∧ pg.checked.scenes = pg.scenes ∧ pg.checked.slots = pg.slots := by
  unfold Page.checked
  split <;> exact ⟨rfl, rfl, rfl⟩

theorem validated_pages (c : Chip) (k : PageId) : PagesStand c (validated c k) := fun p => by
  have page : (validated c k).pages[p] = if p = k then (c.pages[k]).checked else c.pages[p] := by simp [validated]
  rw [page]
  split
  next same => subst same; exact checked_contents _
  next => exact ⟨rfl, rfl, rfl⟩

theorem writeSection_pages (c : Chip) (x : LimitSection) : (c.writeSection x).pages = c.pages := by
  have ended (d : Chip) : d.endEvent.pages = d.pages := (Chip.endEvent_water d).pages
  cases x with
  | pumps es => exact (ended _).trans (Chip.WaterOnly.forEach fun p d => changeService_water d _ p).pages
  | jets es => exact ended _
  | site e => exact ended _
  | wind es => exact ended _
  | lums es => exact ended _

/-- Only the page requests and a power-on reset change the contents of a page. -/
theorem effect_pages (h : Effect may c d) (store : ¬may .storePage) (power : ¬may .powerOn) : PagesStand c d := by
  cases h with
  | fountain effect => exact moves_pages (fountainEffect_moves effect)
  | page _ _ special => exact absurd special store
  | powerOn _ special => exact absurd special power
  | validated k => exact validated_pages c k
  | writeSection x => exact .of_pages (writeSection_pages c x)
  | lineReset straps => exact (lineResetValues_pages c straps).trans (moves_pages (b := false) (senseStop_moves _))
  | restart => exact PagesStand.trans (restartValues_pages c) (moves_pages (b := false) (senseStop_moves c.restartValues))
  | assertReset => exact PagesStand.trans (moves_pages (b := false) (dropPower_moves c)) (emptied_pages _ _)
  | gainStep =>
    unfold Chip.gainStep
    split <;> exact .of_pages rfl
  | protect | reply | owe | receive | sent | told | gain | countPeriod | hydraulics | advance | pulse | closeGate | switch
  | level | dusk | lines | stopLine => exact .of_pages rfl

/-- The LIVE pages stand. -/
def LiveStands (c d : Chip) : Prop := ∀ k : PageId, (c.pages[k]).state = .live → d.pages[k] = c.pages[k]

theorem LiveStands.refl (c : Chip) : LiveStands c c := fun _ _ => rfl

theorem updPage_live {k : PageId} (f : Page → Page) (other : (c.pages[k]).state ≠ .live) : LiveStands c (c.updPage k f) := fun p live => by
  simp only [Fin.getElem_fin, Chip.updPage_page]
  split
  next same => subst same; exact absurd live other
  next => rfl

theorem pageStages_live {page : Nat} {allowed : PageState → Bool} {valid : Bool} {act : PageId → Rule}
    (h : ∀ k c, allowed (c.pages[k]).state = true → LiveStands c (act k c).1) (c : Chip) :
    LiveStands c (pageStages page allowed valid act c).1 := by
  unfold pageStages
  split
  next in_range =>
    split
    · exact .refl c
    next may_act =>
      split
      · exact .refl c
      · exact h ⟨page, in_range⟩ c (by simpa using may_act)
  next => exact .refl c

theorem mayWrite_not_live {st : PageState} (h : st.mayWrite = true) : st ≠ .live := by rintro rfl; cases h

theorem request_live {l : LinkId} {kind : Nat} {rule : Rule} (h : ∀ c, LiveStands c (rule c).1) (c : Chip) :
    LiveStands c (Chip.request l kind rule c) :=
  Chip.request_keeps (P := LiveStands c) (.refl c) (fun _ => .refl c) fun _ => by
    have stands := h c
    generalize rule c = x at stands
    obtain ⟨d, reaction⟩ := x
    cases reaction <;> exact stands

theorem onPage_live {payload : List Byte} {rule : Nat → Rule} (h : ∀ page c, LiveStands c (rule page c).1) (c : Chip) :
    LiveStands c (onPage payload rule c).1 := by
  unfold onPage
  split
  · exact .refl c
  · exact h _ c

section PageRules

variable {exact : Bool} (page : Nat) (c : Chip)

theorem rulePageOpen_live : LiveStands c (rulePageOpen page exact c).1 :=
  pageStages_live (fun _ _ allowed => updPage_live _ (mayOpen_not_live allowed)) c

theorem ruleStepWrite_live (start count : Nat) (steps : List RawStep) : LiveStands c (ruleStepWrite page start count steps exact c).1 :=
  pageStages_live (fun _ _ allowed => updPage_live _ (mayWrite_not_live allowed)) c

theorem ruleSceneWrite_live (scene : Nat) (entry : Option Nat) : LiveStands c (ruleSceneWrite page scene entry exact c).1 :=
  pageStages_live (fun _ _ allowed => updPage_live _ (mayWrite_not_live allowed)) c

theorem ruleSlotWrite_live (slot : Nat) (value : Slot) : LiveStands c (ruleSlotWrite page slot value exact c).1 :=
  pageStages_live (fun _ _ allowed => updPage_live _ (mayWrite_not_live allowed)) c

theorem rulePageClose_live : LiveStands c (rulePageClose page exact c).1 :=
  pageStages_live (fun _ _ allowed => updPage_live _ (mayWrite_not_live allowed)) c

theorem rulePageFree_live : LiveStands c (rulePageFree page exact c).1 :=
  pageStages_live (fun _ _ allowed => updPage_live _ (mayFree_not_live allowed)) c

end PageRules

theorem ruleOf_live {kind : Nat} (store : kindMakes kind .storePage) (l : LinkId) (payload : List Byte) (c : Chip) :
    LiveStands c (ruleOf l kind payload c).1 := by
  have page_kind : 1 ≤ kind ∧ kind ≤ 6 := by
    unfold kindMakes at store
    split at store <;> first | omega | cases store
  obtain ⟨low, high⟩ := page_kind
  interval_cases kind
  · exact onPage_live (fun page => rulePageOpen_live page) c
  · exact onPage_live (fun page c => ruleStepWrite_live page c _ _ _) c
  · exact onPage_live (fun page c => ruleSceneWrite_live page c _ _) c
  · exact onPage_live (fun page c => ruleSlotWrite_live page c _ _) c
  · exact onPage_live (fun page => rulePageClose_live page) c
  · exact onPage_live (fun page => rulePageFree_live page) c

theorem frameEnd_live {kind : Byte} (store : kindMakes kind.toNat .storePage) (l : LinkId) (payload : List Byte) (crc : BitVec 16)
    (c : Chip) : LiveStands c (c.frameEnd l kind payload crc) := by
  have bad (d : Chip) : (d.badFrame l kind.toNat).pages = d.pages := by
    rcases Chip.badFrame_cases (c := d) l kind.toNat with e | ⟨-, e⟩
    · rw [e]
    · rw [e, Chip.reply_pages]
  unfold Chip.frameEnd
  split
  · exact .refl c
  · split
    · exact fun k _ => by rw [Chip.overLength, Chip.setReceive, Chip.updLink_pages, bad]
    · dsimp only
      split
      · exact request_live (ruleOf_live store l payload) (c.setReceive l .hunt false)
      · exact fun k _ => by rw [bad, Chip.setReceive, Chip.updLink_pages]

/-- A command that may write pages leaves the LIVE ones. -/
theorem storing_live {i : Instr} {s t : State} (store : mayMake i .storePage) (next : exec i s = .next t) :
    LiveStands s.chip t.chip := by
  have of_request {l : LinkId} {kind : Nat} {rule : Rule} (run : exec i s = s.act (Chip.request l kind rule))
      (h : ∀ c, LiveStands c (rule c).1) : LiveStands s.chip t.chip := by
    rw [run, State.act_eq] at next
    cases next
    exact request_live h s.chip
  cases i with
  | pageOpen l page => exact of_request rfl (rulePageOpen_live page)
  | stepWrite l page start count steps => exact of_request rfl fun c => ruleStepWrite_live page c start count steps
  | sceneWrite l page scene entry => exact of_request rfl fun c => ruleSceneWrite_live page c scene entry
  | slotWrite l page slot source sense threshold => exact of_request rfl fun c => ruleSlotWrite_live page c slot _
  | pageClose l page => exact of_request rfl (rulePageClose_live page)
  | pageFree l page => exact of_request rfl (rulePageFree_live page)
  | frameReceived l kind payload crc =>
    cases next
    exact Chip.event_keeps (P := LiveStands s.chip) (.refl _) fun _ => frameEnd_live store l payload crc s.chip
  | powerOnReset | lineResetRelease | audioFramePeriod | showClockTick => cases store
  | _ =>
    obtain ⟨_, _, _, frame, makes⟩ := store
    cases frame
    all_goals cases makes

/-- Settles O58: the table through the effects; a LOCKED table, since no command both writes a section and changes the protection; and
the contents of a LIVE page, since the page requests leave a LIVE page and no other effect writes a page's contents. -/
theorem tableAndLivePageStand : Obligations.TableAndLivePageStand := by
  refine ⟨fun _ _ kept next => step_keeps effect_table kept next, fun i s t next locked changed => ?_,
    fun i s t k next live changed => ?_⟩
  · by_contra other
    obtain ⟨power, line⟩ := not_or.mp other
    exact changed (locked_stands (exec_effects next) (fun h => power (mayMake_powerOn h)) (fun h => line (mayMake_lineReset h))
      (mayMake_one i) locked)
  · by_contra power
    by_cases store : mayMake i .storePage
    · rw [storing_live store next k live] at changed
      simp at changed
    · have stands : PagesStand s.chip t.chip :=
        (exec_effects next).keeps (P := PagesStand s.chip)
          (fun effect h => h.trans (effect_pages effect store fun h => power (mayMake_powerOn h))) (.refl _)
      obtain ⟨steps, scenes, slots⟩ := stands k
      rw [steps, scenes, slots] at changed
      simp at changed

end Sys2Proof.Proofs.RecordsKept


/-! PROOF. How a request that is heard comes out (R172), and the requests whose rule is read off: the pages' writes, the table's
protection, STATUS and the reads, AUDIO_END and the gains (O6 to O8, O22, O37, O38), with a step's own cases (O1). -/

namespace Sys2Proof.Proofs.Requests

open Sys2Proof Sys2Proof.Machine Sys2Proof.Proofs.StepEffects Sys2Proof.Proofs.Links

variable {i : Instr} {s : State} {l : LinkId} {kind : Nat} {c d : Chip} {rule : Rule}

/-! ## A heard request -/

/-- The command runs its rule on the part, and the reaction is carried out on its link. -/
def Reacts (i : Instr) (s : State) (l : LinkId) (kind : Nat) (rule : Rule) : Prop :=
  exec i s = .next { s with chip := Chip.react l kind (rule s.chip) }

theorem reacts_of_hears (run : exec i s = s.act (Chip.request l kind rule)) (known : kindKnown kind = true)
    (heard : s.chip.hears l kind) : Reacts i s l kind rule := by
  obtain ⟨free, room, owed, role⟩ := heard
  rw [Reacts, run, State.act, request_admitted free room owed, if_neg (by simp [known]),
    if_neg (by rw [role]; exact Bool.false_ne_true)]

theorem Reacts.answers {code : ReplyCode} {data : ReplyData} (h : Reacts i s l kind rule)
    (ruled : rule s.chip = (d, .answer code data)) : Answers i s l kind d code data := by
  rw [Answers, h, ruled]; rfl

theorem Reacts.refuses {code : ReplyCode} (h : Reacts i s l kind rule) (ruled : rule s.chip = s.chip.refuse code) :
    Refuses i s l kind code := h.answers ruled

/-- A link that heard notices, and then a reply. -/
theorem noticed_reply {raised may : List Notice} {r : Reply} (h : c.noticed d raised may) :
    c.answered (d.reply l r.kind r.code r.data) l r raised may := by
  intro m
  obtain ⟨same, kept, heard, only⟩ := h m
  have link : (d.reply l r.kind r.code r.data).links[m] =
      if m = l then { d.links[l] with replies := (d.links[l]).replies ++ [r] } else d.links[m] :=
    Chip.updLink_link d l m _
  by_cases e : m = l
  · subst e
    rw [if_pos rfl] at link
    simp only [Link.heard, if_true, link]
    refine ⟨?_, kept, heard, only⟩
    rw [same, List.append_nil]
  · rw [if_neg e] at link
    simp only [Link.heard, if_neg e, link]
    exact ⟨same, kept, heard, only⟩

theorem Reacts.takes {raised may : List Notice} {after : Chip → Prop} (h : Reacts i s l kind rule)
    (ruled : rule s.chip = d.taken) (noticed : s.chip.noticed d raised may) (is_so : after (d.reply l kind .ok .none)) :
    Takes i s l kind raised may after :=
  ⟨_, h.answers ruled, noticed_reply (r := ⟨kind, .ok, .none⟩) noticed, is_so⟩

/-- Nothing has been noticed where the links stand. -/
theorem noticed_of_links (h : d.links = c.links) : c.noticed d [] [] := by
  intro m
  rw [h]
  exact ⟨by rw [List.append_nil], fun _ n => n, nofun, fun _ n => .inl n⟩

/-! ## The page requests (R2, R8 to R13) -/

theorem pageStages_number {page : Nat} {allowed : PageState → Bool} {valid : Bool} {act : PageId → Rule} (h : 4 ≤ page) :
    pageStages page allowed valid act c = c.refuse .badArg := dif_neg (Nat.not_lt.mpr h)

theorem pageStages_state {page : Nat} {allowed : PageState → Bool} {valid : Bool} {act : PageId → Rule} (h : page < 4)
    (no : allowed (c.pages[page]).state = false) : pageStages page allowed valid act c = c.refuse .state := by
  rw [pageStages, dif_pos h, if_pos (by rw [no]; rfl)]

theorem pageStages_fields {page : Nat} {allowed : PageState → Bool} {act : PageId → Rule} (h : page < 4)
    (yes : allowed (c.pages[page]).state = true) : pageStages page allowed false act c = c.refuse .badArg := by
  rw [pageStages, dif_pos h, if_neg (by simp [yes])]; rfl

theorem pageStages_act {k : PageId} {allowed : PageState → Bool} {valid : Bool} {act : PageId → Rule}
    (yes : allowed (c.pages[k]).state = true) (fields : valid = true) : pageStages k allowed valid act c = act k c := by
  rw [pageStages, dif_pos k.isLt, if_neg, if_neg (by simp [fields])]
  simpa using yes

/-- Only PROGRAM may make the page requests (R172). -/
theorem permits_page {role : Role} (low : 1 ≤ kind) (high : kind ≤ 6) : permits role kind = true ↔ role = .program := by
  cases role
  · exact iff_of_true (by simp [permits]; omega) rfl
  · exact iff_of_false (by simp [permits]; omega) nofun
  · exact iff_of_false (by simp [permits]; omega) nofun

theorem pageTests_of {page : Nat} {allowed : PageState → Bool} {valid : Bool} {act : PageId → Rule}
    (run : ∀ s, exec i s = s.act (Chip.request l kind (pageStages page allowed valid act))) (low : 1 ≤ kind) (high : kind ≤ 6) :
    PageTests i l kind page allowed valid := by
  intro s free room owed
  have known : kindKnown kind = true := by simp [kindKnown]; omega
  refine ⟨fun other => ?_, fun program => ?_⟩
  · have role : permits (s.chip.links[l]).role kind = false := by
      rw [Bool.eq_false_iff, Ne, permits_page low high]; exact other
    rw [Refuses, Answers, run, State.act, request_role free room owed known role]
  · have heard := reacts_of_hears (run s) known ⟨free, room, owed, (permits_page low high).mpr program⟩
    refine ⟨fun number => heard.refuses (pageStages_number number), fun number =>
      ⟨fun no => heard.refuses (pageStages_state number no), fun yes fields => ?_⟩⟩
    subst fields
    exact heard.refuses (pageStages_fields number yes)

/-- Settles O6: the three stages of `pageStages`, for each of the six requests. -/
theorem pageRequestTests : Obligations.PageRequestTests := by
  intro l page
  refine ⟨pageTests_of (fun _ => rfl) (by decide) (by decide), fun start count steps => ?_, fun scene entry => ?_,
    fun slot source sense threshold => ?_, pageTests_of (fun _ => rfl) (by decide) (by decide),
    pageTests_of (fun _ => rfl) (by decide) (by decide)⟩
  · exact pageTests_of (fun _ => rfl) (by decide) (by decide)
  · exact pageTests_of (fun _ => rfl) (by decide) (by decide)
  · exact pageTests_of (fun _ => rfl) (by decide) (by decide)

theorem stepRange_iff (start count : Nat) : stepRange start count = true ↔
    1 ≤ count ∧ count ≤ 64 ∧ start ≤ 1023 ∧ start + count - 1 ≤ 1023 := by
  simp [stepRange, and_assoc]

theorem mayOpen_iff (x : PageState) : x.mayOpen = true ↔ x = .free ∨ x = .ready ∨ x = .invalid := by
  cases x <;> simp [PageState.mayOpen]

theorem mayWrite_iff (x : PageState) : x.mayWrite = true ↔ x = .loading := by
  cases x <;> simp [PageState.mayWrite]

theorem mayFree_iff (x : PageState) : x.mayFree = true ↔ x ≠ .live ∧ x ≠ .checking := by
  cases x <;> simp [PageState.mayFree]

end Sys2Proof.Proofs.Requests


/-! PROOF. The page requests, the table's protection, STATUS and the reads, and the gains (O7, O8, O22, O37, O38), with the cases
of a step (O1). -/

namespace Sys2Proof.Proofs.Requests

open Sys2Proof Sys2Proof.Machine Sys2Proof.Proofs.StepEffects Sys2Proof.Proofs.Links

variable {i : Instr} {s : State} {l : LinkId} {kind : Nat} {c d : Chip} {rule : Rule}

/-! ## What the page requests write (R8 to R13) -/

theorem pageOpen_writes (k : PageId) (heard : s.chip.hears l 1) :
    ((s.chip.pages[k]).state = .free ∨ (s.chip.pages[k]).state = .ready ∨ (s.chip.pages[k]).state = .invalid →
      Answers (.pageOpen l k) s l 1 { s.chip with pages := s.chip.pages.set k { clearedPage with state := .loading } } .ok .none) ∧
    ((s.chip.pages[k]).state = .live ∨ (s.chip.pages[k]).state = .loading ∨ (s.chip.pages[k]).state = .checking →
      Refuses (.pageOpen l k) s l 1 .state) := by
  have reacts : Reacts (.pageOpen l k) s l 1 (rulePageOpen k true) := reacts_of_hears rfl rfl heard
  refine ⟨fun allowed => reacts.answers (pageStages_act ((mayOpen_iff _).mpr allowed) rfl), fun other => reacts.refuses ?_⟩
  refine pageStages_state k.isLt ?_
  rcases other with h | h | h <;> exact (congrArg PageState.mayOpen h).trans rfl

theorem pageFree_writes (k : PageId) (heard : s.chip.hears l 6) :
    ((s.chip.pages[k]).state ≠ .live → (s.chip.pages[k]).state ≠ .checking →
      Answers (.pageFree l k) s l 6
        { s.chip with pages := s.chip.pages.set k { s.chip.pages[k] with state := .free, fault := none } } .ok .none) ∧
    ((s.chip.pages[k]).state = .live ∨ (s.chip.pages[k]).state = .checking → Refuses (.pageFree l k) s l 6 .state) := by
  have reacts : Reacts (.pageFree l k) s l 6 (rulePageFree k true) := reacts_of_hears rfl rfl heard
  refine ⟨fun live checking => reacts.answers (pageStages_act ((mayFree_iff _).mpr ⟨live, checking⟩) rfl), fun other =>
    reacts.refuses (pageStages_state k.isLt ?_)⟩
  rcases other with h | h <;> exact (congrArg PageState.mayFree h).trans rfl

/-- A write to a page that is not LOADING is refused. -/
theorem refuses_unless_loading {k : PageId} {valid : Bool} {act : PageId → Rule}
    (reacts : Reacts i s l kind (pageStages k PageState.mayWrite valid act)) (h : (s.chip.pages[k]).state ≠ .loading) :
    Refuses i s l kind .state :=
  reacts.refuses (pageStages_state k.isLt (Bool.eq_false_iff.mpr fun e => h ((mayWrite_iff _).mp e)))

/-- A write to a LOADING page with a field out of range is refused. -/
theorem refuses_out_of_range {k : PageId} {valid : Bool} {act : PageId → Rule}
    (reacts : Reacts i s l kind (pageStages k PageState.mayWrite valid act)) (h : (s.chip.pages[k]).state = .loading)
    (bad : valid = false) : Refuses i s l kind .badArg := by
  subst bad
  exact reacts.refuses (pageStages_fields k.isLt ((mayWrite_iff _).mpr h))

theorem stepWrite_writes (k : PageId) (heard : s.chip.hears l 2) (start count : Nat) (steps : List RawStep) :
    ((s.chip.pages[k]).state = .loading →
      (1 ≤ count ∧ count ≤ 64 ∧ steps.length = count ∧ start ≤ 1023 ∧ start + count - 1 ≤ 1023 →
        Takes (.stepWrite l k start count steps) s l 2 [] [] fun d =>
          d = { s.chip with pages := d.pages, links := d.links } ∧
          (∀ m : PageId, d.pages[m] =
            if m = k then ({ s.chip.pages[k] with steps := (d.pages[k]).steps } : Page) else s.chip.pages[m]) ∧
          ∀ i : StepIndex, (d.pages[k]).steps[i] =
            if start ≤ i.val then (steps[i.val - start]?).getD (s.chip.pages[k]).steps[i]
            else (s.chip.pages[k]).steps[i]) ∧
      (¬(1 ≤ count ∧ count ≤ 64 ∧ steps.length = count ∧ start ≤ 1023 ∧ start + count - 1 ≤ 1023) →
        Refuses (.stepWrite l k start count steps) s l 2 .badArg)) ∧
    ((s.chip.pages[k]).state ≠ .loading → Refuses (.stepWrite l k start count steps) s l 2 .state) := by
  have reacts : Reacts (.stepWrite l k start count steps) s l 2 (ruleStepWrite k start count steps true) :=
    reacts_of_hears rfl rfl heard
  have valid : (true && stepRange start count && decide (steps.length = count)) = true ↔
      1 ≤ count ∧ count ≤ 64 ∧ steps.length = count ∧ start ≤ 1023 ∧ start + count - 1 ≤ 1023 := by
    rw [Bool.true_and, Bool.and_eq_true, stepRange_iff, decide_eq_true_iff]; tauto
  refine ⟨fun loading => ⟨fun fits => ?_, fun bad => ?_⟩, refuses_unless_loading reacts⟩
  · refine reacts.takes (pageStages_act ((mayWrite_iff _).mpr loading) (valid.mpr fits)) (noticed_of_links rfl)
      ⟨rfl, fun m => ?_, fun i => ?_⟩
    · have page := Chip.updPage_page s.chip k m fun pg => pg.storeSteps start steps
      have own := Chip.updPage_page s.chip k k fun pg => pg.storeSteps start steps
      rw [if_pos rfl] at own
      show (s.chip.updPage k fun pg => pg.storeSteps start steps).pages[m.val] =
        if m = k then { s.chip.pages[k] with
          steps := ((s.chip.updPage k fun pg => pg.storeSteps start steps).pages[k.val]).steps } else s.chip.pages[m]
      rw [page, own]
      rfl
    · have own := Chip.updPage_page s.chip k k fun pg => pg.storeSteps start steps
      rw [if_pos rfl] at own
      show ((s.chip.updPage k fun pg => pg.storeSteps start steps).pages[k.val]).steps[i] = _
      rw [own]
      exact Vector.getElem_ofFn _
  · exact refuses_out_of_range reacts loading (Bool.eq_false_iff.mpr fun e => bad (valid.mp e))

theorem sceneWrite_writes (k : PageId) (heard : s.chip.hears l 3) (scene : Nat) (entry : Option Nat) :
    ((s.chip.pages[k]).state = .loading →
      (∀ _ : scene < 16,
        Answers (.sceneWrite l k scene entry) s l 3
          { s.chip with pages :=
            s.chip.pages.set k { s.chip.pages[k] with scenes := (s.chip.pages[k]).scenes.set scene entry } } .ok .none) ∧
      (16 ≤ scene → Refuses (.sceneWrite l k scene entry) s l 3 .badArg)) ∧
    ((s.chip.pages[k]).state ≠ .loading → Refuses (.sceneWrite l k scene entry) s l 3 .state) := by
  have reacts : Reacts (.sceneWrite l k scene entry) s l 3 (ruleSceneWrite k scene entry true) := reacts_of_hears rfl rfl heard
  refine ⟨fun loading => ⟨fun fits => ?_, fun bad => ?_⟩, refuses_unless_loading reacts⟩
  · refine reacts.answers ((pageStages_act ((mayWrite_iff _).mpr loading) (by simpa using fits)).trans ?_)
    have place : (s.chip.pages[k]).scenes.setIfInBounds scene entry = (s.chip.pages[k]).scenes.set scene entry := by
      simp [Vector.set, Vector.setIfInBounds, Array.setIfInBounds, fits]
    rw [← place]; rfl
  · exact refuses_out_of_range reacts loading (by simpa using bad)

theorem slotWrite_writes (k : PageId) (heard : s.chip.hears l 4) (slot source sense threshold : Nat) :
    ((s.chip.pages[k]).state = .loading →
      (∀ _ : slot < 8,
        Answers (.slotWrite l k slot source sense threshold) s l 4
          { s.chip with
            pages := s.chip.pages.set k
              ({ s.chip.pages[k] with slots := (s.chip.pages[k]).slots.set slot ⟨source, sense, threshold⟩ } : Page) } .ok .none) ∧
      (8 ≤ slot → Refuses (.slotWrite l k slot source sense threshold) s l 4 .badArg)) ∧
    ((s.chip.pages[k]).state ≠ .loading → Refuses (.slotWrite l k slot source sense threshold) s l 4 .state) := by
  have reacts : Reacts (.slotWrite l k slot source sense threshold) s l 4 (ruleSlotWrite k slot ⟨source, sense, threshold⟩ true) :=
    reacts_of_hears rfl rfl heard
  refine ⟨fun loading => ⟨fun fits => ?_, fun bad => ?_⟩, refuses_unless_loading reacts⟩
  · refine reacts.answers ((pageStages_act ((mayWrite_iff _).mpr loading) (by simpa using fits)).trans ?_)
    have place : (s.chip.pages[k]).slots.setIfInBounds slot ⟨source, sense, threshold⟩ =
        (s.chip.pages[k]).slots.set slot ⟨source, sense, threshold⟩ := by
      simp [Vector.set, Vector.setIfInBounds, Array.setIfInBounds, fits]
    rw [← place]; rfl
  · exact refuses_out_of_range reacts loading (by simpa using bad)

/-- Settles O7: one lemma for each request. -/
theorem pageRequestsWriteThePage : Obligations.PageRequestsWriteThePage :=
  ⟨fun _ _ k => ⟨pageOpen_writes k, pageFree_writes k⟩,
    fun _ _ k => ⟨stepWrite_writes k, sceneWrite_writes k, slotWrite_writes k⟩⟩

/-! ## PAGE_CLOSE and validation (R13) -/

theorem pageClose_writes (k : PageId) (heard : s.chip.hears l 5) :
    ((s.chip.pages[k]).state = .loading →
      exec (.pageClose l k) s = .next { s with chip :=
        { s.chip with
          pages := s.chip.pages.set k { s.chip.pages[k] with state := .checking }
          links := s.chip.links.set l { s.chip.links[l] with owed := some 5 } } }) ∧
    ((s.chip.pages[k]).state ≠ .loading → Refuses (.pageClose l k) s l 5 .state) := by
  have reacts : Reacts (.pageClose l k) s l 5 (rulePageClose k true) := reacts_of_hears rfl rfl heard
  refine ⟨fun loading => ?_, refuses_unless_loading reacts⟩
  rw [reacts, rulePageClose, pageStages_act ((mayWrite_iff _).mpr loading) rfl]
  rfl

theorem checkingPage_only {k : PageId} (is : (c.pages[k]).state = .checking)
    (only : ∀ m : PageId, m ≠ k → (c.pages[m]).state ≠ .checking) : c.checkingPage = some k := by
  have some_page : c.checkingPage.isSome := by
    rw [Chip.checkingPage, List.find?_isSome]
    exact ⟨k, List.mem_finRange k, by simpa using is⟩
  obtain ⟨m, found⟩ := Option.isSome_iff_exists.mp some_page
  rw [found]
  by_contra other
  exact only m (fun e => other (by rw [e])) (checkingPage_state _ found)

theorem completeValidation_page {k : PageId} (h : c.checkingPage = some k) : c.completeValidation =
    Chip.notify ((c.updPage k fun _ => (c.pages[k]).checked).updLinks fun m => m.answerClose (c.pages[k]).checked) .pageChecked := by
  rw [Chip.completeValidation, h]

theorem checked_eq (pg : Page) : pg.checked =
    { pg with state := if pg.firstFault = none then .ready else .invalid, fault := pg.firstFault } := by
  unfold Page.checked
  split <;> rename_i h <;> simp [h]

/-- A link after a completed validation: the owed reply is produced, and PAGE_CHECKED is noticed. -/
theorem completeValidation_link {k : PageId} (h : c.checkingPage = some k) (l : LinkId) :
    c.completeValidation.links[l] = { (c.links[l]).answerClose (c.pages[k]).checked with
      notices := withNotice .pageChecked ((c.links[l]).answerClose (c.pages[k]).checked).notices } := by
  rw [completeValidation_page h, Chip.notify]
  refine (Chip.updLinks_link _ l _).trans ?_
  rw [show ((c.updPage k fun _ => (c.pages[k]).checked).updLinks fun m => m.answerClose (c.pages[k]).checked).links[l] =
    (c.links[l]).answerClose (c.pages[k]).checked from Chip.updLinks_link _ l _]

theorem validation_completes (k : PageId) (free : s.chip.resetHeld = false) (is : (s.chip.pages[k]).state = .checking)
    (only : ∀ m : PageId, m ≠ k → (s.chip.pages[m]).state ≠ .checking) :
    ∃ c : Chip, exec .validationComplete s = .next { s with chip := c } ∧
      c = { s.chip with pages := c.pages, links := c.links } ∧
      (∀ m : PageId, c.pages[m] =
        if m = k then { s.chip.pages[k] with
          state := if (s.chip.pages[k]).firstFault = none then .ready else .invalid
          fault := (s.chip.pages[k]).firstFault }
        else s.chip.pages[m]) ∧
      (∀ l : LinkId, .pageChecked ∈ (c.links[l]).notices ∧
        ((s.chip.links[l]).owed = some 5 →
          (c.links[l]).owed = none ∧
          (c.links[l]).replies = (s.chip.links[l]).replies ++ [⟨5, .ok, .checked (c.pages[k]).state (c.pages[k]).fault⟩]) ∧
        ((s.chip.links[l]).owed ≠ some 5 →
          (c.links[l]).owed = (s.chip.links[l]).owed ∧ (c.links[l]).replies = (s.chip.links[l]).replies)) := by
  have found := checkingPage_only is only
  have pages : ∀ m : PageId, s.chip.completeValidation.pages[m] =
      if m = k then (s.chip.pages[k]).checked else s.chip.pages[m] := by
    intro m
    rw [completeValidation_page found]
    exact Chip.updPage_page s.chip k m _
  have own := (pages k).trans (if_pos rfl)
  refine ⟨s.chip.completeValidation, event_next (f := Chip.completeValidation) rfl free rfl, ?_, fun m => ?_, fun l => ?_⟩
  · rw [completeValidation_page found]; rfl
  · rw [pages m, checked_eq]
  · rw [own, completeValidation_link found l]
    refine ⟨mem_withNotice _ _, fun owed => ?_, fun owed => ?_⟩
    · have answered : (s.chip.links[l]).answerClose (s.chip.pages[k]).checked = _ := if_pos owed
      rw [answered]
      exact ⟨rfl, rfl⟩
    · have stands : (s.chip.links[l]).answerClose (s.chip.pages[k]).checked = _ := if_neg owed
      rw [stands]
      exact ⟨rfl, rfl⟩

/-- Settles O8: the rule of PAGE_CLOSE, and what the completion of validation leaves. -/
theorem closingAPage : Obligations.ClosingAPage :=
  ⟨fun _ _ k heard => pageClose_writes k heard, fun _ k free is only => validation_completes k free is only⟩

end Sys2Proof.Proofs.Requests


/-! PROOF. STATUS and the reads, the table's protection, the gains and the output, the fades, and the cases of a step (O1, O22, O37,
O38, O48). -/

namespace Sys2Proof.Proofs.Requests

open Sys2Proof Sys2Proof.Machine Sys2Proof.Proofs.StepEffects Sys2Proof.Proofs.Links

variable {i : Instr} {s : State} {l : LinkId} {kind : Nat} {c d : Chip} {rule : Rule}

/-! ## COMMISSION and RELAX (R176) -/

theorem ruleCommission_code {code : Nat} (low : 1 ≤ code) (high : code ≤ 65535) : ruleCommission code true c =
    match c.protection with
    | .opened => Chip.taken { c with siteCode := some code, protection := .locked }
    | .guarded => if c.siteCode = some code then Chip.taken { c with protection := .locked } else c.refuse .codeMismatch
    | .locked => if c.siteCode = some code then c.taken else c.refuse .codeMismatch :=
  if_neg (by simp; omega)

theorem ruleCommission_opened {code : Nat} (low : 1 ≤ code) (high : code ≤ 65535) (level : c.protection = .opened) :
    ruleCommission code true c = Chip.taken { c with siteCode := some code, protection := .locked } := by
  rw [ruleCommission_code low high, level]

theorem ruleCommission_match {code : Nat} (low : 1 ≤ code) (high : code ≤ 65535) (level : c.protection ≠ .opened)
    (same : c.siteCode = some code) : ruleCommission code true c = Chip.taken { c with protection := .locked } := by
  rw [ruleCommission_code low high]
  split
  · exact absurd ‹_› level
  · exact if_pos same
  · rename_i locked
    rw [if_pos same, ← locked]

theorem ruleCommission_mismatch {code : Nat} (low : 1 ≤ code) (high : code ≤ 65535) (level : c.protection ≠ .opened)
    (other : c.siteCode ≠ some code) : ruleCommission code true c = c.refuse .codeMismatch := by
  rw [ruleCommission_code low high]
  split
  · exact absurd ‹_› level
  · exact if_neg other
  · exact if_neg other

theorem ruleRelax_code {code : Nat} (low : 1 ≤ code) (high : code ≤ 65535) : ruleRelax code true c =
    match c.protection with
    | .opened | .guarded => c.refuse .codeMismatch
    | .locked => if c.siteCode = some code then Chip.taken { c with protection := .guarded } else c.refuse .codeMismatch :=
  if_neg (by simp; omega)

theorem ruleRelax_match {code : Nat} (low : 1 ≤ code) (high : code ≤ 65535) (level : c.protection = .locked)
    (same : c.siteCode = some code) : ruleRelax code true c = Chip.taken { c with protection := .guarded } := by
  rw [ruleRelax_code low high, level]
  exact if_pos same

theorem ruleRelax_mismatch {code : Nat} (low : 1 ≤ code) (high : code ≤ 65535)
    (h : c.protection ≠ .locked ∨ c.siteCode ≠ some code) : ruleRelax code true c = c.refuse .codeMismatch := by
  rw [ruleRelax_code low high]
  split
  · rfl
  · rfl
  · rename_i locked
    exact if_neg (h.resolve_left (fun no => no locked))

/-- Settles O37: the two rules by the protection level. -/
theorem protectionLevels : Obligations.ProtectionLevels := by
  intro s l code
  refine ⟨fun heard => ?_, fun heard => ?_⟩
  · have reacts : Reacts (.commission l code) s l 32 (ruleCommission code true) := reacts_of_hears rfl rfl heard
    exact ⟨fun zero => reacts.refuses (if_pos (.inl zero)), fun low high =>
      ⟨fun level => reacts.answers (ruleCommission_opened low high level),
        fun level same => reacts.answers (ruleCommission_match low high level same),
        fun level other => reacts.refuses (ruleCommission_mismatch low high level other)⟩⟩
  · have reacts : Reacts (.relax l code) s l 33 (ruleRelax code true) := reacts_of_hears rfl rfl heard
    exact ⟨fun zero => reacts.refuses (if_pos (.inl zero)), fun low high =>
      ⟨fun level same => reacts.answers (ruleRelax_match low high level same),
        fun h => reacts.refuses (ruleRelax_mismatch low high h)⟩⟩

/-! ## STATUS and the reads (R173, R174) -/

theorem sectionAt_none {n : Nat} (h : 5 ≤ n) (t : Limits) : t.sectionAt n = none := by
  unfold Limits.sectionAt
  split <;> first | omega | rfl

theorem readLimits_section {n : Nat} {x : LimitSection} (heard : s.chip.hears l 42) (h : s.chip.limits.sectionAt n = some x) :
    Answers (.readLimits l n) s l 42 s.chip .ok (.readLimits x s.chip.protection) := by
  have reacts : Reacts (.readLimits l n) s l 42 (ruleReadLimits n true) := reacts_of_hears rfl rfl heard
  exact reacts.answers (by simp only [ruleReadLimits, h])

/-- The steps that READ_STEPS reports. -/
def stepsRead (pg : Page) (start count : Nat) : List RawStep := (pg.steps.toList.drop start).take count

theorem length_stepsRead (pg : Page) {start count : Nat} (h : start + count ≤ 1024) :
    (stepsRead pg start count).length = count := by
  simp [stepsRead]; omega

theorem stepsRead_at (pg : Page) {start count n : Nat} (inside : n < 1024) (from_start : start ≤ n) (before : n < start + count) :
    (stepsRead pg start count)[n - start]? = some pg.steps[n] := by
  rw [stepsRead, List.getElem?_take_of_lt (by omega), List.getElem?_drop, Nat.add_sub_cancel' from_start]
  simp [inside]

theorem readSteps_answers (heard : s.chip.hears l 44) (n start count : Nat) :
    (∀ h : n < 4, 1 ≤ count → count ≤ 64 → start + count ≤ 1024 →
      ∃ steps : List RawStep,
        Answers (.readSteps l n start count) s l 44 s.chip .ok (.readSteps steps) ∧ steps.length = count ∧
        ∀ (i : Nat) (hi : i < 1024) (_ : start ≤ i) (_ : i < start + count),
          steps[i - start]? = some (s.chip.pages[n]).steps[i]) ∧
    (4 ≤ n ∨ count = 0 ∨ 64 < count ∨ 1024 < start + count →
      Refuses (.readSteps l n start count) s l 44 .badArg) := by
  have reacts : Reacts (.readSteps l n start count) s l 44 (ruleReadSteps n start count true) := reacts_of_hears rfl rfl heard
  refine ⟨fun page low high fits => ⟨stepsRead s.chip.pages[n] start count, reacts.answers ?_, length_stepsRead _ fits,
    fun i hi from_start before => stepsRead_at _ hi from_start before⟩, fun bad => reacts.refuses (dif_neg ?_)⟩
  · exact dif_pos ⟨page, rfl, (stepRange_iff _ _).mpr (by omega)⟩
  · rintro ⟨page, -, range⟩
    have := (stepRange_iff _ _).mp range
    omega

/-- Settles O38: STATUS reads its link's set and empties it; a read answers with a record and leaves the part. -/
theorem statusAndReads : Obligations.StatusAndReads := by
  intro s l
  refine ⟨fun heard => ?_, fun heard => ?_, fun heard => ?_, fun heard => ?_, fun heard => ?_, fun heard => ?_, fun heard => ?_,
    fun heard => ?_, readSteps_answers⟩
  · have reacts : Reacts (.status l) s l 36 (ruleStatus l) := reacts_of_hears rfl rfl heard
    exact reacts.answers rfl
  · have reacts : Reacts (.readShow l) s l 37 ruleReadShow := reacts_of_hears rfl rfl heard
    exact reacts.answers rfl
  · have reacts : Reacts (.readPumps l) s l 38 ruleReadPumps := reacts_of_hears rfl rfl heard
    exact reacts.answers rfl
  · have reacts : Reacts (.readJets l) s l 39 ruleReadJets := reacts_of_hears rfl rfl heard
    exact reacts.answers rfl
  · have reacts (n : Nat) : Reacts (.readLamps l n) s l 40 (ruleReadLamps n true) := reacts_of_hears rfl rfl heard
    exact ⟨fun u => (reacts u).answers (dif_pos ⟨u.isLt, rfl⟩), fun n h => (reacts n).refuses (dif_neg (by omega))⟩
  · have reacts : Reacts (.readSite l) s l 41 ruleReadSite := reacts_of_hears rfl rfl heard
    exact reacts.answers rfl
  · refine ⟨readLimits_section heard rfl, readLimits_section heard rfl, readLimits_section heard rfl,
      readLimits_section heard rfl, readLimits_section heard rfl, fun n h => ?_⟩
    have reacts : Reacts (.readLimits l n) s l 42 (ruleReadLimits n true) := reacts_of_hears rfl rfl heard
    exact reacts.refuses (by simp only [ruleReadLimits, sectionAt_none h])
  · have reacts (n : Nat) : Reacts (.readPage l n) s l 43 (ruleReadPage n true) := reacts_of_hears rfl rfl heard
    exact ⟨fun k => (reacts k).answers (dif_pos ⟨k.isLt, rfl⟩), fun n h => (reacts n).refuses (dif_neg (by omega))⟩

/-! ## Gains and output (R74, R75) -/

theorem clamp_eq_min (n v : Nat) : (if n < v then n else v) = min n v := by
  rw [Nat.min_def]; split <;> split <;> omega

/-- Scaling a sample by at most 1 keeps it in the range of a sample. -/
theorem scaled_fits {z : ℤ} {k n : ℕ} (h : k ≤ n) (pos : 0 < n) (low : -32768 ≤ z) (high : z ≤ 32767) :
    -32768 ≤ z * k / n ∧ z * k / n ≤ 32767 := by
  have n_pos : (0 : ℤ) < n := by exact_mod_cast pos
  have k_le : (k : ℤ) ≤ n := by exact_mod_cast h
  have k_nonneg : (0 : ℤ) ≤ k := Int.natCast_nonneg k
  refine ⟨Int.le_ediv_of_mul_le n_pos (by nlinarith), Int.ediv_le_of_le_mul n_pos (by nlinarith)⟩

theorem floor_div (z : ℤ) (n : ℕ) : ⌊(z : ℚ) / n⌋ = z / n := Rat.floor_intCast_div_natCast z n

theorem outputSample_toInt (g r : Nat) (x : Sample) (gain : g ≤ 256) (ramp : r ≤ 64) :
    (outputSample g r x).toInt = x.toInt * g / (256 : ℕ) * r / (64 : ℕ) := by
  have low : -32768 ≤ x.toInt := by have := BitVec.le_toInt x; simpa using this
  have high : x.toInt ≤ 32767 := by have := BitVec.toInt_lt (x := x); norm_num at this; omega
  obtain ⟨low', high'⟩ := scaled_fits gain (by decide) low high
  obtain ⟨low'', high''⟩ := scaled_fits ramp (by decide) low' high'
  have value : outputSample g r x = BitVec.ofInt 16 (x.toInt * g / (256 : ℕ) * r / (64 : ℕ)) := by
    rw [outputSample, Int.fdiv_eq_ediv_of_nonneg _ (by decide), Int.fdiv_eq_ediv_of_nonneg _ (by decide)]; rfl
  rw [value, BitVec.toInt_ofInt]
  generalize x.toInt * g / (256 : ℕ) * r / (64 : ℕ) = y at low'' high''
  exact Int.bmod_eq_of_le (by norm_num; omega) (by norm_num; omega)

/-- Settles O22: the two rules, the step of the applied gain, and the two floors of a sample. -/
theorem gainsAndOutput : Obligations.GainsAndOutput := by
  refine ⟨fun s l v => ⟨fun heard => ?_, fun heard => ?_⟩, fun s free target is_target g is_applied => ⟨fun due => ?_, fun early => ?_⟩,
    fun g r x gain ramp => ?_, fun x => ?_⟩
  · have reacts : Reacts (.gain l v) s l 15 (ruleGain v true) := reacts_of_hears rfl rfl heard
    rw [clamp_eq_min]
    exact reacts.answers rfl
  · have reacts : Reacts (.duck l v) s l 30 (ruleDuck v true) := reacts_of_hears rfl rfl heard
    rw [clamp_eq_min]
    exact reacts.answers rfl
  · subst is_target is_applied
    exact event_next (f := Chip.gainStep) rfl free (Chip.gainStep_due _ due)
  · exact event_next (f := Chip.gainStep) rfl free (Chip.gainStep_early _ early)
  · rw [outputSample_toInt g r x gain ramp]
    exact ((floor_div _ 64).trans (by rw [show ((256 : ℚ)) = ((256 : ℕ) : ℚ) by norm_num, floor_div])).symm
  · have value : ((x.toInt * (256 : ℕ)).fdiv 256 * (64 : ℕ)).fdiv 64 = x.toInt := by
      rw [Int.fdiv_eq_ediv_of_nonneg _ (by decide), Int.fdiv_eq_ediv_of_nonneg _ (by decide)]
      omega
    exact (congrArg (BitVec.ofInt 16) value).trans BitVec.ofInt_toInt

/-! ## Fades (R133) -/

theorem fadeLevel_over {start target duration e : Nat} (h : duration = 0 ∨ duration ≤ e) :
    fadeLevel start target duration e = target := if_pos h

theorem fadeLevel_up {start target duration e : Nat} (h : e < duration) (up : start ≤ target) :
    fadeLevel start target duration e = start + (target - start) * e / duration := by
  rw [fadeLevel, if_neg (by omega), if_pos up]

theorem fadeLevel_down {start target duration e : Nat} (h : e < duration) (down : target < start) :
    fadeLevel start target duration e = start - (start - target) * e / duration := by
  rw [fadeLevel, if_neg (by omega), if_neg (by omega)]

/-- Before its end a fade has covered no more than its distance. -/
theorem covered_le {distance duration e : Nat} (h : e < duration) : distance * e / duration ≤ distance :=
  Nat.div_le_of_le_mul (by rw [Nat.mul_comm duration]; exact Nat.mul_le_mul_left _ h.le)

/-- Settles O48: the level on the way up, on the way down and at its end. -/
theorem fadeLevels : Obligations.FadeLevels := by
  intro start target duration e
  refine ⟨fadeLevel_over, fun running => ?_, ?_⟩
  · rcases Nat.lt_trichotomy start target with up | same | down
    · have distance : ((target : ℤ) - start).natAbs = target - start := by omega
      rw [fadeLevel_up running up.le, Int.sign_eq_one_of_pos (by omega), distance]
      push_cast; ring
    · subst same
      rw [fadeLevel_up running le_rfl]; simp
    · have distance : ((target : ℤ) - start).natAbs = start - target := by omega
      have covered := covered_le (distance := start - target) running
      rw [fadeLevel_down running down, Int.sign_eq_neg_one_of_neg (by omega), distance,
        Nat.cast_sub (covered.trans (Nat.sub_le _ _))]
      ring
  · by_cases ended : duration ≤ e
    · rw [fadeLevel_over (.inr ended)]; omega
    · have running := Nat.lt_of_not_le ended
      rcases Nat.lt_or_ge target start with down | up
      · have covered := covered_le (distance := start - target) running
        rw [fadeLevel_down running down]
        generalize (start - target) * e / duration = x at covered ⊢
        omega
      · have covered := covered_le (distance := target - start) running
        rw [fadeLevel_up running up]
        generalize (target - start) * e / duration = x at covered ⊢
        omega

/-! ## The step -/

/-- Settles O1: the front command, or one of `State.idle_cases`. -/
theorem stepRunsTheFrontCommand : Obligations.StepRunsTheFrontCommand := by
  refine ⟨fun _ _ _ => rfl, fun s empty => ?_⟩
  have idle : step s = .next s.idle := by rw [step, empty]
  rw [idle]
  rcases State.idle_cases s with ⟨quiet, passes⟩ | ⟨free, group, is_due, queued⟩
  · refine ⟨fun _ => by rw [passes], fun free due => ?_⟩
    rcases quiet with held | none_due
    · exact absurd held (by rw [free]; exact Bool.false_ne_true)
    · exact absurd none_due due
  · refine ⟨fun quiet => ?_, fun _ _ => ⟨group, is_due, Chip.due_ne_nil _ is_due, by rw [queued]⟩⟩
    rcases quiet with held | none_due
    · exact absurd held (by rw [free]; exact Bool.false_ne_true)
    · rw [none_due] at is_due; cases is_due

end Sys2Proof.Proofs.Requests


/-! PROOF. The validation pass and its checks (O9). -/

namespace Sys2Proof.Proofs.Validation

open Sys2Proof Sys2Proof.Machine

/-! ## The pass (R14) -/

section Pass

variable {α : Type} {check : α → Option FaultReason} {locus : Locus} {f : FaultRecord}

theorem firstBad_none {n : Nat} {xs : List α} : firstBad check locus n xs = none ↔ ∀ x ∈ xs, check x = none := by
  induction xs generalizing n with
  | nil => simp [firstBad]
  | cons x xs ih =>
    rw [firstBad]
    cases h : check x <;> simp [h, ih]

theorem firstBad_some {n : Nat} {xs : List α} : firstBad check locus n xs = some f ↔
    ∃ (i : Nat) (h : i < xs.length), f.locus = some locus ∧ f.number = some (n + i) ∧ check xs[i] = some f.reason ∧
      ∀ (m : Nat) (_ : m < i), check xs[m] = none := by
  induction xs generalizing n with
  | nil => simp [firstBad]
  | cons x xs ih =>
    rw [firstBad]
    cases h : check x with
    | some r =>
      refine ⟨fun e => ?_, fun ⟨i, inside, is_locus, is_number, is_reason, before⟩ => ?_⟩
      · cases e
        exact ⟨0, Nat.succ_pos _, rfl, rfl, h, fun _ m => absurd m (Nat.not_lt_zero _)⟩
      · obtain rfl : i = 0 := by
          by_contra other
          have first := before 0 (Nat.pos_of_ne_zero other)
          rw [List.getElem_cons_zero, h] at first
          cases first
        rw [List.getElem_cons_zero, h] at is_reason
        obtain ⟨locus', number', reason'⟩ := f
        cases is_locus; cases is_number; cases is_reason
        rfl
    | none =>
      refine ih.trans ⟨fun ⟨i, inside, is_locus, is_number, is_reason, before⟩ => ?_,
        fun ⟨i, inside, is_locus, is_number, is_reason, before⟩ => ?_⟩
      · refine ⟨i + 1, Nat.succ_lt_succ inside, is_locus, is_number.trans (by congr 1; omega), is_reason, fun m earlier => ?_⟩
        cases m with
        | zero => exact h
        | succ m => exact before m (Nat.lt_of_succ_lt_succ earlier)
      · cases i with
        | zero => rw [List.getElem_cons_zero, h] at is_reason; cases is_reason
        | succ i =>
          exact ⟨i, Nat.lt_of_succ_lt_succ inside, is_locus, is_number.trans (by congr 1; omega), is_reason,
            fun m earlier => before (m + 1) (Nat.succ_lt_succ earlier)⟩

theorem firstBad_vector_none {n : Nat} {xs : Vector α n} :
    firstBad check locus 0 xs.toList = none ↔ ∀ i : Fin n, check xs[i] = none := by
  rw [firstBad_none]
  refine ⟨fun h i => h _ (by simp), fun h x mem => ?_⟩
  obtain ⟨i, inside, rfl⟩ := List.getElem_of_mem mem
  simpa using h ⟨i, by simpa using inside⟩

theorem firstBad_vector_some {n : Nat} {xs : Vector α n} : firstBad check locus 0 xs.toList = some f ↔
    ∃ i : Fin n, f.locus = some locus ∧ f.number = some i.val ∧ check xs[i] = some f.reason ∧
      ∀ m : Fin n, m < i → check xs[m] = none := by
  rw [firstBad_some]
  constructor
  · rintro ⟨i, inside, is_locus, is_number, is_reason, before⟩
    refine ⟨⟨i, by simpa using inside⟩, is_locus, by simpa using is_number, by simpa using is_reason, fun m earlier => ?_⟩
    simpa using before m earlier
  · rintro ⟨i, is_locus, is_number, is_reason, before⟩
    refine ⟨i, by simp, is_locus, by simpa using is_number, by simpa using is_reason, fun m earlier => ?_⟩
    simpa using before ⟨m, earlier.trans i.isLt⟩ earlier

end Pass

theorem firstFault_none (pg : Page) : pg.firstFault = none ↔
    (∀ n : StepIndex, pg.checkStep pg.steps[n] = none) ∧ (∀ n : Fin 16, checkScene pg.scenes[n] = none) ∧
    ∀ n : Fin 8, checkSlot pg.slots[n] = none := by
  rw [← firstBad_vector_none (locus := .step), ← firstBad_vector_none (locus := .scene),
    ← firstBad_vector_none (locus := .slot), Page.firstFault]
  split
  · simp [*]
  · split <;> simp [*]

theorem firstFault_some (pg : Page) (f : FaultRecord) : pg.firstFault = some f ↔
    (∃ i : StepIndex, f.locus = some .step ∧ f.number = some i.val ∧ pg.checkStep pg.steps[i] = some f.reason ∧
      ∀ n : StepIndex, n < i → pg.checkStep pg.steps[n] = none) ∨
    ((∀ n : StepIndex, pg.checkStep pg.steps[n] = none) ∧
      ((∃ i : Fin 16, f.locus = some .scene ∧ f.number = some i.val ∧ checkScene pg.scenes[i] = some f.reason ∧
          ∀ n : Fin 16, n < i → checkScene pg.scenes[n] = none) ∨
        ((∀ n : Fin 16, checkScene pg.scenes[n] = none) ∧
          ∃ i : Fin 8, f.locus = some .slot ∧ f.number = some i.val ∧ checkSlot pg.slots[i] = some f.reason ∧
            ∀ n : Fin 8, n < i → checkSlot pg.slots[n] = none))) := by
  rw [← firstBad_vector_some, ← firstBad_vector_some, ← firstBad_vector_some, ← firstBad_vector_none (locus := .step),
    ← firstBad_vector_none (locus := .scene), Page.firstFault]
  split
  · simp [*]
  · split <;> simp [*]

/-! ## The checks of a step (R15) -/

variable {pg : Page} {raw : RawStep} {kind : StepKind}

theorem stepKind_code (raw : RawStep) : (raw.extractLsb' 0 4).toNat = stepByte raw 0 % 16 := by
  simp only [stepByte, BitVec.extractLsb'_toNat]
  omega

theorem stepKind_none (raw : RawStep) : stepKind raw = none ↔ 12 ≤ stepByte raw 0 % 16 := by
  have small : stepByte raw 0 % 16 < 16 := Nat.mod_lt _ (by decide)
  rw [stepKind, stepKind_code]
  generalize stepByte raw 0 % 16 = code at small ⊢
  interval_cases code <;> simp

/-- The condition byte names no condition (R178). -/
theorem stepCondition_none (always : stepByte raw 1 ≠ 0)
    (slot : ∀ q : Fin 8, stepByte raw 1 ≠ 16 + q.val ∧ stepByte raw 1 ≠ 32 + q.val) : stepCondition raw = none := by
  have holds : ¬(16 ≤ stepByte raw 1 ∧ stepByte raw 1 < 24) := fun h =>
    (slot ⟨stepByte raw 1 - 16, by omega⟩).1 (Nat.add_sub_cancel' h.1).symm
  have fails : ¬(32 ≤ stepByte raw 1 ∧ stepByte raw 1 < 40) := fun h =>
    (slot ⟨stepByte raw 1 - 32, by omega⟩).2 (Nat.add_sub_cancel' h.1).symm
  simp only [stepCondition]
  rw [if_neg always, if_neg holds, if_neg fails]

theorem stepCondition_always (h : stepByte raw 1 = 0) : stepCondition raw = some .always := if_pos h

theorem stepCondition_slot {q : Fin 8} (h : stepByte raw 1 = 16 + q.val ∨ stepByte raw 1 = 32 + q.val) :
    stepCondition raw = some (.holds q) ∨ stepCondition raw = some (.fails q) := by
  simp only [stepCondition]
  rcases h with h | h <;> rw [h]
  · left
    rw [if_neg (by omega), if_pos (by omega)]
    exact congrArg (some ∘ Condition.holds) (Fin.ext (by simp))
  · right
    rw [if_neg (by omega), if_neg (by omega), if_pos (by omega)]
    exact congrArg (some ∘ Condition.fails) (Fin.ext (by simp))

theorem sceneMissing_eq (pg : Page) (n : Nat) : pg.sceneMissing n = decide ((pg.scenes[n]?).join = none) := by
  unfold Page.sceneMissing
  split
  · rename_i h
    rw [Vector.getElem?_eq_getElem h]
    cases pg.scenes[n] <;> rfl
  · rename_i h
    rw [Vector.getElem?_eq_none (Nat.le_of_not_lt h)]
    rfl

theorem stepAction_none (raw : RawStep) : (stepAction raw).isNone = decide (3 < stepByte raw 6) := by
  unfold stepAction
  split <;> simp_all
  omega

/-- The level of a LIGHT step has twelve bits (R178). -/
theorem light_inRange (raw : RawStep) : outOfRange raw .light = false := by
  rw [outOfRange, List.any_eq_false]
  intro k _
  have small : stepLevel raw k < 4096 := Nat.mod_lt _ (by decide)
  simp; omega

/-- The checks that follow a condition in order. -/
def checkBody (pg : Page) (raw : RawStep) (kind : StepKind) : Option FaultReason :=
  if setMissing raw kind then some .emptySet
  else if counterBeyond raw kind then some .badCounter
  else if pg.badScene raw kind then some .badScene
  else if outOfRange raw kind then some .range
  else none

theorem checkBody_eq (pg : Page) (raw : RawStep) (kind : StepKind) : checkBody pg raw kind = match kind with
    | .jet => if stepJets raw = 0 then some .emptySet else if 1000 < stepWord raw 10 then some .range else none
    | .burst =>
      if stepJets raw = 0 then some .emptySet
      else if stepWord raw 10 = 0 ∨ 1000 < stepWord raw 10 ∨ stepWord raw 12 = 0 then some .range else none
    | .cut => if stepJets raw = 0 then some .emptySet else none
    | .pump =>
      if stepPumps raw = 0 then some .emptySet
      else if 3 < stepByte raw 6 ∨ 4096 ≤ (stepPumps raw).toNat then some .range else none
    | .light => if stepLums raw = 0 ∨ stepMask raw = 0 then some .emptySet else none
    | .loopSet => if 3 < stepByte raw 4 then some .badCounter else none
    | .loop =>
      if 3 < stepByte raw 4 then some .badCounter
      else if (pg.scenes[stepByte raw 5]?).join = none then some .badScene else none
    | .jump => if (pg.scenes[stepByte raw 4]?).join = none then some .badScene else none
    | .empty | .mark | .endShow | .resume => none := by
  unfold checkBody
  cases kind with
  | light => simp [setMissing, counterBeyond, Page.badScene, light_inRange]
  | pump => simp [setMissing, counterBeyond, Page.badScene, outOfRange, stepAction_none]
  | jump => simp [setMissing, counterBeyond, Page.badScene, outOfRange, sceneMissing_eq, stepJumpScene]
  | loop => simp [setMissing, counterBeyond, Page.badScene, outOfRange, sceneMissing_eq, stepLoopScene, stepCounter, Nat.succ_le_iff]
  | loopSet => simp [setMissing, counterBeyond, Page.badScene, outOfRange, stepCounter, Nat.succ_le_iff]
  | burst =>
    have range : outOfRange raw .burst = true ↔ stepDemand raw = 0 ∨ 1000 < stepDemand raw ∨ stepLength raw = 0 := by
      simp [outOfRange, or_assoc]
    simp only [setMissing, counterBeyond, Page.badScene, range, decide_eq_true_eq, Bool.false_eq_true, if_false, stepDemand, stepLength]
  | jet =>
    have range : outOfRange raw .jet = true ↔ 1000 < stepDemand raw := by simp [outOfRange]
    simp only [setMissing, counterBeyond, Page.badScene, range, decide_eq_true_eq, Bool.false_eq_true, if_false, stepDemand]
  | cut => simp [setMissing, counterBeyond, Page.badScene, outOfRange]
  | empty => rfl
  | mark => rfl
  | endShow => rfl
  | resume => rfl

theorem checkStep_condition (h : stepKind raw = some kind) (condition : stepCondition raw = none) :
    pg.checkStep raw = some .badSlot := by
  simp only [Page.checkStep, h, condition]

theorem checkStep_slot {x : Condition} (h : stepKind raw = some kind) (condition : stepCondition raw = some x)
    (unused : pg.slotUnused x = true) : pg.checkStep raw = some .badSlot := by
  simp only [Page.checkStep, h, condition, unused, if_true]

theorem checkStep_body {x : Condition} (h : stepKind raw = some kind) (condition : stepCondition raw = some x)
    (used : pg.slotUnused x = false) : pg.checkStep raw = checkBody pg raw kind := by
  simp only [Page.checkStep, h, condition, used, Bool.false_eq_true, if_false, checkBody]

theorem checkStep_unused {q : Fin 8} (h : stepKind raw = some kind)
    (code : stepByte raw 1 = 16 + q.val ∨ stepByte raw 1 = 32 + q.val) (none_source : (pg.slots[q]).source = 0) :
    pg.checkStep raw = some .badSlot := by
  rcases stepCondition_slot code with condition | condition
  · exact checkStep_slot h condition (decide_eq_true none_source)
  · exact checkStep_slot h condition (decide_eq_true none_source)

theorem checkStep_used {q : Fin 8} (h : stepKind raw = some kind)
    (code : stepByte raw 1 = 16 + q.val ∨ stepByte raw 1 = 32 + q.val) (source : (pg.slots[q]).source ≠ 0) :
    pg.checkStep raw = checkBody pg raw kind := by
  rcases stepCondition_slot code with condition | condition
  · exact checkStep_body h condition (decide_eq_false source)
  · exact checkStep_body h condition (decide_eq_false source)

/-! ## The checks of a slot (R16) -/

theorem checkSlot_used {q : Slot} (low : 1 ≤ q.source) (high : q.source ≤ 4) :
    checkSlot q = if 1 < q.sense then some .badSlot else if 999 < q.threshold then some .range else none := by
  rw [checkSlot, if_neg (by omega), if_neg (by omega)]

/-- Settles O9: the order of the pass, and each check. -/
theorem theFirstFaultIsReported : Obligations.TheFirstFaultIsReported := by
  refine ⟨fun pg f => ⟨firstFault_some pg f, firstFault_none pg⟩, fun pg raw => ⟨stepKind_none raw, fun h => ?_, fun kind h =>
    ⟨fun always slot => checkStep_condition h (stepCondition_none always slot), fun q code none_source =>
      checkStep_unused h code none_source, fun good => ?_⟩⟩, ⟨rfl, fun start => ⟨fun h => if_pos h, fun h => if_neg (by omega)⟩⟩, fun q =>
    ⟨fun h => if_pos (by omega), fun h => ?_, fun low high => ⟨fun h => ?_, fun sense => ⟨fun h => ?_, fun h => ?_⟩⟩⟩⟩
  · simp only [Page.checkStep, h]
  · refine Eq.trans ?_ (checkBody_eq pg raw kind)
    rcases good with always | ⟨q, code, source⟩
    · exact checkStep_body h (stepCondition_always always) rfl
    · exact checkStep_used h code source
  · rw [checkSlot, if_neg (by omega), if_pos h]
  · rw [checkSlot_used low high, if_pos (by omega)]
  · rw [checkSlot_used low high, if_neg (by omega), if_pos (by omega)]
  · rw [checkSlot_used low high, if_neg (by omega), if_neg (by omega)]

end Sys2Proof.Proofs.Validation


/-! PROOF. The anemometer, the debounced inputs and the values of a reset (O39, O41, O50). -/

namespace Sys2Proof.Proofs.Sensing

open Sys2Proof Sys2Proof.Machine Sys2Proof.Proofs.StepEffects Sys2Proof.Proofs.Links Sys2Proof.Proofs.Requests Sys2Proof.Proofs.Water Sys2Proof.Proofs.FountainMoves

variable {i : Instr} {s : State} {c d : Chip}

/-! ## Lines (R150 to R152) -/

theorem lineEvent_free {upd : Lines → Lines} {f : Chip → Chip} (free : c.resetHeld = false) :
    Chip.lineEvent upd f c = f { c with lines := upd c.lines } := Chip.event_free free

theorem act_next {f : Chip → Chip} (run : exec i s = s.act f) (gives : f s.chip = d) :
    exec i s = .next { s with chip := d } := by
  rw [run, State.act, gives]

theorem levelInput_same {which : LevelSwitch} {v : Bool} (h : lineLevel c.lines which = v) : c.levelInput which v = c := if_pos h

theorem levelInput_changes {which : LevelSwitch} {v : Bool} (free : c.resetHeld = false) (h : lineLevel c.lines which ≠ v) :
    c.levelInput which v = { c with
      lines := withLineLevel c.lines which v
      sense := c.sense.setSwitch which { c.sense.switch which with since := c.now } } :=
  (if_neg h).trans (lineEvent_free free)

theorem duskInput_same {v : Bool} (h : c.lines.dusk = v) : c.duskInput v = c := if_pos h

theorem duskInput_changes {v : Bool} (free : c.resetHeld = false) (h : c.lines.dusk ≠ v) :
    c.duskInput v = { c with
      lines := { c.lines with dusk := v }, sense := { c.sense with dusk := { c.sense.dusk with since := c.now } } } :=
  (if_neg h).trans (lineEvent_free free)

/-- The sensing record after the debounce of a switch. -/
def debounced (c : Chip) (which : LevelSwitch) : Machine.Sensing :=
  (c.reach ((c.sense.switch which).since + levelHold)).sense.setSwitch which
    { (c.reach ((c.sense.switch which).since + levelHold)).sense.switch which with state := lineLevel c.lines which }

/-- The part after the debounce of a switch, before a trip. -/
def levelTaken (c : Chip) (which : LevelSwitch) : Chip :=
  { c.reach ((c.sense.switch which).since + levelHold) with
    sense := { debounced c which with
      level := levelOfSwitches (debounced c which).lowTrip.state (debounced c which).lowWarn.state } }

theorem levelExpiry_same {which : LevelSwitch} (h : lineLevel c.lines which = (c.sense.switch which).state) :
    c.levelExpiry which = c := if_pos h

theorem levelExpiry_takes {which : LevelSwitch} (h : lineLevel c.lines which ≠ (c.sense.switch which).state) :
    c.levelExpiry which =
      if levelOfSwitches (debounced c which).lowTrip.state (debounced c which).lowWarn.state = 2 ∧ c.sense.level ≠ 2 then
        (levelTaken c which).tripCause .level
      else levelTaken c which := if_neg h

theorem duskExpiry_same (h : c.lines.dusk = c.sense.dusk.state) : c.duskExpiry = c := if_pos h

theorem duskExpiry_takes (h : c.lines.dusk ≠ c.sense.dusk.state) : c.duskExpiry =
    { c.reach (c.sense.dusk.since + duskHold) with
      sense := { (c.reach (c.sense.dusk.since + duskHold)).sense with
        dusk := { (c.reach (c.sense.dusk.since + duskHold)).sense.dusk with state := c.lines.dusk } } } := if_neg h

theorem stopReleased_clear (h : c.lines.eStop = false) : c.stopReleased = c := if_neg (by rw [h]; exact Bool.false_ne_true)

theorem stopReleased_asserted (free : c.resetHeld = false) (h : c.lines.eStop = true) : c.stopReleased =
    { c with lines := { c.lines with eStop := false }, sense := { c.sense with eStop := false } } :=
  (if_pos h).trans (lineEvent_free free)

/-- Settles O41: each input, each expiry and each edge. -/
theorem switchesAndDusk : Obligations.SwitchesAndDusk := by
  intro s free
  refine ⟨fun v => ⟨fun h => ?_, fun h => ?_, fun h => ?_, fun h => ?_, fun h => ?_, fun h => ?_⟩, fun h => ?_, fun h still => ?_,
    fun h => ?_, fun low was => ?_, fun h => ?_, fun h => ?_, fun h => ?_, fun h => ?_⟩
  · exact act_next (f := Chip.levelInput .lowWarn v) rfl (levelInput_same h)
  · exact act_next (f := Chip.levelInput .lowWarn v) rfl (levelInput_changes free h)
  · exact act_next (f := Chip.levelInput .lowTrip v) rfl (levelInput_same h)
  · exact act_next (f := Chip.levelInput .lowTrip v) rfl (levelInput_changes free h)
  · exact act_next (f := Chip.duskInput v) rfl (duskInput_same h)
  · exact act_next (f := Chip.duskInput v) rfl (duskInput_changes free h)
  · exact event_next (f := Chip.levelExpiry .lowWarn) rfl free (levelExpiry_same h)
  · have changes : lineLevel s.chip.lines .lowWarn ≠ (s.chip.sense.switch .lowWarn).state := h
    refine ⟨_, rfl, event_next (f := Chip.levelExpiry .lowWarn) rfl free ((levelExpiry_takes changes).trans (if_neg ?_))⟩
    rintro ⟨trips, not_yet⟩
    rcases still with clear | already
    · have level : levelOfSwitches s.chip.sense.lowTrip.state s.chip.lines.lowWarn = 2 := trips
      rw [clear] at level
      revert level
      cases s.chip.lines.lowWarn <;> decide
    · exact not_yet already
  · exact event_next (f := Chip.levelExpiry .lowTrip) rfl free (levelExpiry_same h)
  · have changes : lineLevel s.chip.lines .lowTrip ≠ (s.chip.sense.switch .lowTrip).state := by
      rw [show lineLevel s.chip.lines .lowTrip = false from low, show (s.chip.sense.switch .lowTrip).state = true from was]
      exact Bool.false_ne_true
    have clear : levelOfSwitches (debounced s.chip .lowTrip).lowTrip.state (debounced s.chip .lowTrip).lowWarn.state =
        if s.chip.sense.lowWarn.state then 1 else 0 := by
      rw [show (debounced s.chip .lowTrip).lowTrip.state = false from low]; rfl
    refine ⟨_, rfl, event_next (f := Chip.levelExpiry .lowTrip) rfl free ((levelExpiry_takes changes).trans ((if_neg ?_).trans ?_))⟩
    · rw [clear]
      cases s.chip.sense.lowWarn.state <;> rintro ⟨h, -⟩ <;> cases h
    · rw [levelTaken, clear, debounced, show lineLevel s.chip.lines .lowTrip = false from low]; rfl
  · exact act_next (f := Chip.stopReleased) rfl (stopReleased_asserted free h)
  · exact act_next (f := Chip.stopReleased) rfl (stopReleased_clear h)
  · exact event_next (f := Chip.duskExpiry) rfl free (duskExpiry_same h)
  · exact ⟨_, rfl, event_next (f := Chip.duskExpiry) rfl free (duskExpiry_takes h)⟩

/-! ## The anemometer (R146, R147) -/

/-- The part at the close of the gate, before a gust is dealt with. -/
def gateClosed (c : Chip) : Chip :=
  { c.advance (1000 - c.sense.gateTimer) with
    sense := (c.advance (1000 - c.sense.gateTimer)).sense.closeGate c.limits.site.windScale c.limits.wind }

/-- A gust onset at the close of the gate (R148). -/
def gustNow (c : Chip) : Bool :=
  gustOnset c.limits.site.gust (windSample c.sense.pulses c.limits.site.windScale) c.sense.previous

theorem closeGate_eq (c : Chip) :
    c.closeGate = if gustNow c then c.settle ((gateClosed c).notify .gust).gustToShow else gateClosed c := rfl

theorem gustNow_iff (c : Chip) : gustNow c = true ↔
    c.limits.site.gust ≤ windSample c.sense.pulses c.limits.site.windScale ∧
      ∀ u, c.sense.previous = some u → u < c.limits.site.gust := by
  unfold gustNow gustOnset
  cases c.sense.previous <;> simp

/-- The sensing record at the close of the gate, whether a gust is dealt with or not. -/
theorem closeGate_sense (c : Chip) : c.closeGate.sense = (gateClosed c).sense := by
  rw [closeGate_eq]
  split
  · exact (Chip.settle_fountain _ c).sense.trans (Chip.gustToShow_show _).sense
  · rfl

theorem gust_noticed (c : Chip) (m : LinkId) : .gust ∈ ((c.notify .gust).links[m]).notices := by
  rw [show (c.notify .gust).links[m] = { c.links[m] with notices := withNotice .gust (c.links[m]).notices } from
    Chip.updLinks_link c m _]
  exact mem_withNotice _ _

/-- Settles O39: the pulse, and the close of the gate by whether a gust begins. -/
theorem windGateSamples : Obligations.WindGateSamples := by
  intro s free
  have closes : exec .windGateClose s = .next { s with chip := s.chip.closeGate } :=
    event_next (f := Chip.closeGate) rfl free rfl
  refine ⟨event_next (f := Chip.pulse) rfl free ?_, fun v sample ring is_ring => ?_⟩
  · have clamp : min 65535 (s.chip.sense.pulses + 1) = if s.chip.sense.pulses < 65535 then s.chip.sense.pulses + 1 else 65535 := by
      split <;> omega
    rw [Chip.pulse, clamp]
  have entry : ringEntry s.chip.sense.ring (windSample s.chip.sense.pulses s.chip.limits.site.windScale) = ring := by
    rw [is_ring, ringEntry, sample]
    simp only [List.isEmpty_iff]
    rfl
  refine ⟨⟨_, closes, ?_, ?_, fun strong fresh m => ?_⟩, fun calm => ?_⟩
  · rw [closeGate_sense, ← entry, sample]
    rfl
  · have factors : (s.chip.closeGate).sense.factors = windFactors s.chip.limits.wind (ring.sum / 8) := by
      rw [closeGate_sense, ← entry]; rfl
    rw [factors]
    exact fun w => Vector.getElem_ofFn _
  · have gust := (gustNow_iff s.chip).mpr ⟨strong.trans sample.le, fresh⟩
    rw [closeGate_eq, if_pos gust]
    refine (moves_noted ((gustToShow_moves (b := false) _).trans (settle_moves _ s.chip)) m).kept _ ?_
    exact gust_noticed _ m
  · have no_gust : ¬(gustNow s.chip = true) := by
      rw [gustNow_iff]
      rintro ⟨strong, fresh⟩
      rcases calm with weak | ⟨u, previous, high⟩
      · exact absurd (strong.trans sample.ge) (Nat.not_le.mpr weak)
      · exact absurd (fresh u previous) (Nat.not_lt.mpr high)
    have still : s.chip.closeGate = gateClosed s.chip := by rw [closeGate_eq, if_neg no_gust]
    refine ⟨_, closes, ?_⟩
    rw [still]
    exact ⟨rfl, rfl, rfl, rfl, rfl⟩

end Sys2Proof.Proofs.Sensing


/-! PROOF. The show, its music and its clock, apart from the rest of the part: the `heart`, and the operations that leave it. -/

namespace Sys2Proof.Proofs.ShowHeart

open Sys2Proof Sys2Proof.Machine Sys2Proof.Proofs.StepEffects Sys2Proof.Proofs.Water Sys2Proof.Proofs.FountainMoves

/-- What the invariants of the show read (R19 to R21, R48, R60, R76, R155). -/
structure Heart where
  run : ShowRecord
  pages : Vector Page 4
  restore : Option Nat
  playback : Playback
  clock : ShowClock

/-- The show record, the pages, the restore timeout, the playback and the clock of a part. -/
def heart (c : Chip) : Heart := ⟨c.run, c.pages, c.mode.restore, c.playback, c.clock⟩

variable {c d : Chip}

/-! ## What leaves the heart -/

theorem heart_water (h : c.WaterOnly d) : heart d = heart c := by
  rw [heart, heart, h.run, h.pages, h.mode, h.playback, h.clock]

theorem heart_lamps (h : c.LampsOnly d) : heart d = heart c := by
  rw [heart, heart, h.run, h.pages, h.mode, h.playback, h.clock]

/-- From `c` to `d` the heart stands. -/
structure HeartStands (c d : Chip) : Prop where
  same : heart d = heart c

namespace HeartStands

variable {e : Chip}

theorem refl (c : Chip) : HeartStands c c := ⟨rfl⟩
theorem trans (h : HeartStands c d) (k : HeartStands d e) : HeartStands c e := ⟨k.same.trans h.same⟩
theorem water (h : c.WaterOnly d) : HeartStands c d := ⟨heart_water h⟩
theorem lamps (h : c.LampsOnly d) : HeartStands c d := ⟨heart_lamps h⟩
theorem moves {J : JetId → Prop} {I : PumpId → Prop} {b : Bool} (h : WaterMoves J I b c d) : HeartStands c d :=
  water (waterMoves_water h)
theorem ite {p : Prop} [Decidable p] (h : HeartStands c d) (k : HeartStands c e) : HeartStands c (if p then d else e) := by
  split <;> assumption
theorem notify (c : Chip) (n : Notice) : HeartStands c (c.notify n) := ⟨rfl⟩
theorem endEvent (c : Chip) : HeartStands c c.endEvent := water (Chip.endEvent_water c)
theorem mode (c : Chip) (m : ModeRecord) (restore : m.restore = c.mode.restore) : HeartStands c { c with mode := m } :=
  ⟨by rw [heart, heart, restore]⟩
theorem circ (c : Chip) (r : Circulation) : HeartStands c { c with circ := r } := ⟨rfl⟩
theorem circ_mode (c : Chip) (r : Circulation) (m : ModeRecord) (restore : m.restore = c.mode.restore) :
    HeartStands c { c with circ := r, mode := m } := ⟨by rw [heart, heart, restore]⟩

theorem pumps (c : Chip) (ps : Vector Pump 12) : HeartStands c { c with pumps := ps } := ⟨rfl⟩
theorem lights (c : Chip) (s p : Vector Fade 128) (u : Vector Luminaire 32) (o : Vector Nat 128) (n : Option (Vector Nat 128)) :
    HeartStands c { c with showLayer := s, panelLayer := p, lums := u, outputs := o, lampLine := n } := ⟨rfl⟩

end HeartStands

section Calm

variable (c : Chip)

theorem recause_heart (m : ModeRecord) (restore : m.restore = c.mode.restore) :
    HeartStands c (Chip.recauseJets { c with mode := m }) :=
  (HeartStands.mode c m restore).trans (.water (Chip.recauseJets_water _))

theorem raisePower_heart : HeartStands c c.raisePower := .ite (recause_heart c _ rfl) (.refl c)
theorem dropPower_heart : HeartStands c c.dropPower := recause_heart c _ rfl
theorem powerOn_heart : HeartStands c c.powerOn := recause_heart c _ rfl
theorem testPower_heart : HeartStands c c.testPower := .ite (dropPower_heart c) (.refl c)

theorem beginFlush_heart (mode : FlushMode) (z : ZoneId) : HeartStands c (c.beginFlush mode z) := by
  unfold Chip.beginFlush
  extract_lets f _ d₁ d₂ _ d₃
  have taken : HeartStands c d₁ := .circ c _
  have wet : HeartStands c d₂ := (taken.trans (.water (Chip.demandWrites_water _ _ _ _))).trans (.endEvent _)
  have told : HeartStands c d₃ := wet.trans (.mode d₂ _ rfl)
  exact .ite (told.trans (raisePower_heart d₃)) told

theorem testFlush_heart : HeartStands c c.testFlush := by
  unfold Chip.testFlush
  extract_lets z
  exact .ite ((HeartStands.circ c _).trans (beginFlush_heart _ .single z)) (.refl c)

theorem advancePointer_heart (z : ZoneId) : HeartStands c (c.advancePointer z) := .circ c _
theorem payDebt_heart : HeartStands c c.payDebt := .circ c _
theorem releaseStarted_heart (started : Vector Bool 12) : HeartStands c (c.releaseStarted started) :=
  .water (Chip.releaseStarted_water c started)
theorem dropFlush_heart : HeartStands c c.dropFlush := .circ_mode c _ _ rfl

theorem closeFlush_heart (f : Flush) : HeartStands c (c.closeFlush f) := by
  have released := (HeartStands.water (Chip.releaseJets_water c)).trans (releaseStarted_heart _ f.started)
  exact (released.trans (dropFlush_heart _)).trans (.endEvent _)

theorem cutFlush_heart : HeartStands c c.cutFlush := by
  unfold Chip.cutFlush
  split
  · exact .refl c
  next f _ =>
    have counted : HeartStands c (if f.counts then c.payDebt.advancePointer f.zone else c) :=
      .ite ((payDebt_heart c).trans (advancePointer_heart _ f.zone)) (.refl c)
    exact (counted.trans (releaseStarted_heart _ f.started)).trans (dropFlush_heart _)

theorem zoneDone_heart (f : Flush) : HeartStands c (c.zoneDone f) := by
  unfold Chip.zoneDone
  split
  · extract_lets g d₁ _ d₂
    have released : HeartStands c d₁ := .water (Chip.releaseJets_water c)
    have moved : HeartStands c d₂ := released.trans (.circ d₁ _)
    exact ((moved.trans (.water (Chip.demandWrites_water _ _ _ _))).trans (releaseStarted_heart _ f.started)).trans (.endEvent _)
  · exact (closeFlush_heart c f).trans (.circ _ _)

theorem endFlush_heart (f : Flush) : HeartStands c (c.endFlush f) :=
  ((closeFlush_heart c f).trans (payDebt_heart _)).trans (advancePointer_heart _ _)

theorem stallFlush_heart (f : Flush) : HeartStands c (c.stallFlush f) := by
  have closed := closeFlush_heart c f
  exact .trans (.ite (p := f.mode = .single) (closed.trans (advancePointer_heart _ _)) closed) (.notify _ _)

theorem periodExpiry_heart : HeartStands c c.periodExpiry := by
  unfold Chip.periodExpiry
  extract_lets _ d
  have counted : HeartStands c d := .circ c _
  exact .ite (counted.trans (.notify d _)) counted

theorem toMode_heart (m : FountainMode) : HeartStands c (c.toMode m) :=
  .ite (.refl c) ((HeartStands.mode c { c.mode with mode := m } rfl).trans (.notify _ _))

theorem beginWake_heart (w : WakeTo) : HeartStands c (c.beginWake w) := by
  have raised : HeartStands c
      (Chip.toMode { c.raisePower with mode := { c.raisePower.mode with wake := some w } } .settling) :=
    ((raisePower_heart c).trans (.mode _ { c.raisePower.mode with wake := some w } rfl)).trans (toMode_heart _ .settling)
  unfold Chip.beginWake
  split
  exacts [raised, raised, toMode_heart c _]

theorem endWake_heart : HeartStands c c.endWake := by
  unfold Chip.endWake
  split
  · exact (HeartStands.mode c { c.mode with wake := none } rfl).trans (toMode_heart _ _)
  · exact .refl c

theorem intentStops_heart : HeartStands c (c.forEach (List.finRange 12) fun p c => c.intentStop p) :=
  .water (.forEach fun p d => Chip.intentStop_water d p)

theorem zeroFrame_heart : HeartStands c c.zeroFrame := .lights c _ _ _ _ _

theorem enterDormant_heart : HeartStands c c.enterDormant := by
  unfold Chip.enterDormant
  extract_lets d₁ _ d₂ d₃
  have still : HeartStands c d₂ := (toMode_heart c .dormant).trans (.mode d₁ _ rfl)
  exact ((still.trans (intentStops_heart d₂)).trans (testPower_heart d₃)).trans (zeroFrame_heart _)

theorem testDormancy_heart (before : Chip) : HeartStands c (Chip.testDormancy before c) :=
  .ite (.mode c _ rfl) (.ite (.refl c) (.mode c _ rfl))

theorem takeJets_heart : HeartStands c c.takeJets :=
  .water (.forEach fun j d => Chip.demandWrite_water d _ _ _ j)

theorem takeMode_heart : HeartStands c c.takeMode := by
  unfold Chip.takeMode
  extract_lets _ d
  have still : HeartStands c d := .mode c _ rfl
  have manual : HeartStands c (d.toMode .manual) := still.trans (toMode_heart d .manual)
  split
  exacts [still.trans (beginWake_heart d .manual), still.trans (.mode d _ rfl), manual, manual, manual, manual]

theorem lampsToPanel_heart : HeartStands c c.lampsToPanel := .lights c _ _ _ _ _

theorem releaseFountain_heart : HeartStands c c.releaseFountain := by
  unfold Chip.releaseFountain
  extract_lets d₁ d₂
  have jets : HeartStands c d₁ := .water (Chip.demandWrites_water c _ _ _)
  have crossfade : HeartStands d₂.endEvent d₂.endEvent.beginCrossfade := .lights _ _ _ _ _ _
  exact (((jets.trans (intentStops_heart d₁)).trans (.endEvent d₂)).trans crossfade).trans (toMode_heart _ .standby)

theorem tripCleared_heart : HeartStands c (tripCleared c) := by
  unfold tripCleared
  extract_lets _ d
  have raised : HeartStands c d := (HeartStands.mode c { c.mode with causes := [] } rfl).trans (raisePower_heart _)
  exact (raised.trans (.mode d { d.mode with wake := some .standby } rfl)).trans (toMode_heart _ .settling)

theorem powered_heart : HeartStands c (c.powerOn.endEvent).endWake :=
  ((powerOn_heart c).trans (.endEvent _)).trans (endWake_heart _)

theorem tripPumps_heart : HeartStands c c.tripPumps := by
  unfold Chip.tripPumps
  extract_lets d₁ d₂
  have emptied : HeartStands c d₁ := .water (.of_eq rfl)
  have rested : HeartStands d₁ d₂ := .water (.forEach fun p d => .ite (Chip.enterResting_water d p) (.refl d))
  exact (emptied.trans rested).trans (.pumps d₂ _)

theorem closeJets_heart : HeartStands c c.closeJets := .water (Chip.jets_water c _)

theorem darkenShow_heart : HeartStands c c.darkenShow := .lamps (Chip.darkenShow_lamps c)

theorem tripLamps_heart : HeartStands c c.tripLamps :=
  ((darkenShow_heart c).trans (.lamps (Chip.darkenPanel_lamps _))).trans (zeroFrame_heart _)

theorem image_heart (m : ShowImage) : HeartStands c { c with image := m } := ⟨rfl⟩

theorem expireBursts_heart : HeartStands c c.expireBursts :=
  (image_heart c _).trans (.water (Chip.expireJetBursts_water _))

theorem handOver_heart (w : Written) : HeartStands c (c.handOver w) := .water (Chip.handOver_water c w)

end Calm

end Sys2Proof.Proofs.ShowHeart


/-! PROOF. The turns of a show: the single changes of the heart, each with what holds where it is made (R19 to R24, R38 to R44, R50 to
R53, R57, R62 to R71, R76, R77, R162 to R164, R166). -/

namespace Sys2Proof.Proofs.ShowHeart

open Sys2Proof Sys2Proof.Machine Sys2Proof.Proofs.StepEffects Sys2Proof.Proofs.Water Sys2Proof.Proofs.FountainMoves

/-! ## The music and its clock -/

/-- The playback and the clock at the end of the music (R69, R77). -/
def musicOver (a : Playback) (k : ShowClock) (now : Nat) : Playback × ShowClock :=
  ({ a with state := .finished, buffer := [] },
    if k.source = .audio then { k with source := .localTime, stamp := now } else k)

/-- The playback and the clock where held music goes on (R70). -/
def musicResumed (a : Playback) (k : ShowClock) (now : Nat) : Playback × ShowClock :=
  if a.state ≠ .held then (a, k)
  else if a.streamEnd ≤ a.p then musicOver a k now
  else if 0 < a.fill then ({ a with state := .playing }, k)
  else ({ a with state := .starved }, k)

/-- The playback where the music is held in place (R70). -/
def musicHeld (a : Playback) : Playback :=
  match a.state with
  | .playing | .starved => { a with state := .held }
  | .off | .filling | .held | .finished => a

/-- The playback after the frame of a period, before the tests that follow (R67, R68, R73). -/
def framePlayed (a : Playback) : Playback :=
  match a.state with
  | .playing =>
    { a with r := rampMove a.state a.r, held := a.buffer.headD a.held, p := a.p + 1, buffer := a.buffer.tail }
  | .starved => { a with r := rampMove a.state a.r, p := a.p + 1 }
  | .off | .filling | .held | .finished => { a with r := rampMove a.state a.r }

/-- The value that a play position gives the clock (R76). -/
def positionValue (a : Playback) : Nat := min clockTop ((a.p - a.p0) / 48)

/-- The clock that follows a play position (R76). -/
def clockFollowed (a : Playback) (k : ShowClock) : ShowClock :=
  if k.source = .audio ∧ k.running then { k with value := positionValue a } else k

/-- The tests that follow a frame (R67 to R69). -/
def frameTested (a : Playback) (k : ShowClock) (now : Nat) : Playback × ShowClock :=
  match a.state with
  | .playing =>
    if a.streamEnd ≤ a.p then musicOver a k now else if a.fill = 0 then ({ a with state := .starved }, k) else (a, k)
  | .starved => if a.streamEnd ≤ a.p then musicOver a k now else (a, k)
  | .off | .filling | .held | .finished => (a, k)

/-- The playback and the clock after an audio frame period (R67 to R69, R76). -/
def musicFramed (a : Playback) (k : ShowClock) (now : Nat) : Playback × ShowClock :=
  frameTested (framePlayed a) (clockFollowed (framePlayed a) k) now

/-- The playback once F is set and the frames beyond it are removed (R66). -/
def musicCut (a : Playback) (position : Nat) : Playback :=
  { a with endAt := some position, buffer := a.buffer.take (position - a.p) }

/-- The playback and the clock after AUDIO_END (R66, R69). -/
def musicEnded (a : Playback) (k : ShowClock) (now position : Nat) : Playback × ShowClock :=
  if position = (musicCut a position).p ∧ ((musicCut a position).state = .playing ∨ (musicCut a position).state = .starved) then
    musicOver (musicCut a position) k now
  else (musicCut a position, k)

/-- The playback once frames of a block have joined (R64, R65). -/
def musicAdded (a : Playback) (frames : List AudioFrame) : Playback :=
  { a with buffer := a.buffer ++ frames, state := if a.state = .starved then .playing else a.state }

/-- The playback torn down at ENDING (R44, R71). -/
def musicTornDown (a : Playback) : Playback :=
  if a.state = .off then a else { a with state := .off, buffer := [], endAt := none }

/-- The playback torn down at a trip (R71). -/
def musicTripped (a : Playback) : Playback :=
  { a with state := .off, buffer := [], endAt := none, r := 0, held := AudioFrame.silence }

/-- The playback that CUE sets up (R38, R61). -/
def musicCued (a : Playback) (music : Bool) (origin : Nat) : Playback :=
  if music then { a with state := .filling, music := true, p := origin, p0 := origin, endAt := none, r := 0, buffer := [] }
  else { a with state := .off, music := false, endAt := none, r := 0, buffer := [] }

/-- The playback that START starts (R40, R61). -/
def musicStarted (a : Playback) : Playback := if a.music then { a with state := .playing, r := 64 } else a

/-! ## The pages of an ended show -/

/-- The pages with the live page READY again (R19). -/
def pagesReleased (h : Heart) : Vector Page 4 :=
  match h.run.livePage with
  | some k => h.pages.set k { h.pages[k] with state := .ready }
  | none => h.pages

/-- The show record of ENDING (R44). -/
def endingRun (r : ShowRecord) : ShowRecord :=
  { r with cue := .ending, holdDue := none, shadow := none, pauseCause := none, holdEntry := none }

/-! ## The turns -/

/-- The single changes of the heart, but for those in `Beat`. -/
inductive Turn : Heart → Heart → Prop
  | pace (h : Heart) (k : Vector Nat 4) (m : Option Nat) : Turn h { h with run := { h.run with counters := k, lastMark := m } }
  | main (h : Heart) (i : StepIndex) (due : Nat) (cue : h.run.cue = .running) :
      Turn h { h with run := { h.run with mainCursor := some i, mainDue := some due } }
  | hold (h : Heart) (i : StepIndex) (due : Nat) (cue : h.run.cue = .holding) :
      Turn h { h with run := { h.run with holdCursor := some i, holdDue := some due } }
  | ending (h : Heart) (stamp : Nat) (cue : h.run.cue ≠ .idle) : Turn h { h with
      run := endingRun h.run, restore := none, playback := musicTornDown h.playback
      clock := ⟨h.clock.value, .localTime, true, stamp⟩ }
  | resume (h : Heart) (i : Option StepIndex) (k : Vector Nat 4) (cue : h.run.cue = .holding) : Turn h { h with
      run := { h.run with cue := .running, counters := k, shadow := none, holdCursor := i, holdDue := none, holdEntry := none } }
  | swap (h : Heart) (k : Vector Nat 4) (t u : Nat) (cue : h.run.cue = .running) (armed : h.run.holdCursor.isSome = true) :
      Turn h { h with run := { h.run with cue := .holding, shadow := some k, holdEntry := some t, holdDue := some u } }
  | uncue (h : Heart) (cue : h.run.cue = .cued) : Turn h { h with
      run := h.run.ended, pages := pagesReleased h, playback := { h.playback with state := .off, buffer := [], endAt := none } }
  | drop (h : Heart) (cue : h.run.cue = .paused) : Turn h { h with
      run := h.run.ended, pages := pagesReleased h, playback := { h.playback with state := .off, buffer := [] } }
  | complete (h : Heart) (cue : h.run.cue = .ending) : Turn h { h with
      run := h.run.ended, pages := pagesReleased h, clock := { h.clock with running := false } }
  | abort (h : Heart) (cue : h.run.cue ≠ .idle) : Turn h { h with
      run := h.run.ended, pages := pagesReleased h, restore := none, playback := musicTripped h.playback
      clock := { h.clock with running := false } }
  | silence (h : Heart) (cue : h.run.cue = .idle) : Turn h { h with
      restore := none, playback := musicTripped h.playback, clock := { h.clock with running := false } }
  | start (h : Heart) (stamp : Nat) (cue : h.run.cue = .cued) (primed : h.playback.music = true → prebuffer ≤ h.playback.fill) :
      Turn h { h with
        run := { h.run with cue := .running }, playback := musicStarted h.playback
        clock := ⟨0, h.clock.source, true, stamp⟩ }
  | pause (h : Heart) (cue : h.run.cue = .running) : Turn h { h with
      run := { h.run with cue := .paused, pauseCause := some .program }, playback := musicHeld h.playback
      clock := { h.clock with running := false } }
  | take (h : Heart) (cue : h.run.cue = .running ∨ h.run.cue = .paused ∨ h.run.cue = .restoring) : Turn h { h with
      run := { h.run with cue := .paused, pauseCause := some .take }, restore := none, playback := musicHeld h.playback
      clock := { h.clock with running := false } }
  | takeHold (h : Heart) (k : Vector Nat 4) (cue : h.run.cue = .holding) : Turn h { h with
      run := { h.run with
        cue := .paused, pauseCause := some .take, counters := k, shadow := none, holdDue := none, holdEntry := none }
      restore := none, playback := musicHeld h.playback, clock := { h.clock with running := false } }
  | goOn (h : Heart) (now : Nat) (cue : h.run.cue = .paused) : Turn h { h with
      run := { h.run with cue := .running, pauseCause := none }
      playback := (musicResumed h.playback { h.clock with running := true, stamp := now } now).1
      clock := (musicResumed h.playback { h.clock with running := true, stamp := now } now).2 }
  | restored (h : Heart) (now : Nat) (cue : h.run.cue = .restoring) : Turn h { h with
      run := { h.run with cue := .running }, restore := none
      playback := (musicResumed h.playback { h.clock with running := true, stamp := now } now).1
      clock := (musicResumed h.playback { h.clock with running := true, stamp := now } now).2 }
  | restore (h : Heart) (t : Nat) (cue : h.run.cue = .paused) : Turn h { h with
      run := { h.run with cue := .restoring, pauseCause := none }, restore := some t }
  | setHold (h : Heart) (i : Option StepIndex) (cue : h.run.cue.mayHoldSet = true) :
      Turn h { h with run := { h.run with holdCursor := i } }
  | block (h : Heart) (q : Nat) (frames : List AudioFrame) (off : h.playback.state ≠ .off)
      (finished : h.playback.state ≠ .finished) (taken : (h.playback.place q frames).1.taken = true) :
      Turn h { h with playback := musicAdded h.playback (h.playback.place q frames).2 }
  | audioEnd (h : Heart) (now position : Nat) (off : h.playback.state ≠ .off) (finished : h.playback.state ≠ .finished)
      (ahead : h.playback.p ≤ position) : Turn h { h with
      playback := (musicEnded h.playback h.clock now position).1, clock := (musicEnded h.playback h.clock now position).2 }

/-- The changes of the heart that give the show clock a value of their own: CUE, and the steps of the clock. -/
inductive Beat : Heart → Heart → Prop
  | cue (h : Heart) (k : PageId) (i : StepIndex) (due : Nat) (hold : Option StepIndex) (music : Bool) (origin : Nat)
      (idle : h.run.cue = .idle) (ready : (h.pages[k]).state = .ready) : Beat h { h with
      pages := h.pages.set k { h.pages[k] with state := .live }
      run := ⟨.cued, some k, some i, some due, hold, none, Vector.replicate 4 0, none, none, none, none⟩
      playback := musicCued h.playback music origin
      clock := ⟨0, if music then .audio else .localTime, false, h.clock.stamp⟩ }
  | frame (h : Heart) (now : Nat) : Beat h { h with
      playback := (musicFramed h.playback h.clock now).1, clock := (musicFramed h.playback h.clock now).2 }
  | tick (h : Heart) (stamp : Nat) (running : h.clock.running = true) (source : h.clock.source = .localTime) :
      Beat h { h with clock := { h.clock with value := min clockTop (h.clock.value + 1), stamp := stamp } }

/-- From `c` to `d` the heart makes turns. -/
def Turns (c d : Chip) : Prop := Relation.ReflTransGen Turn (heart c) (heart d)

namespace Turns

variable {c d e : Chip}

theorem refl (c : Chip) : Turns c c := Relation.ReflTransGen.refl
theorem trans (h : Turns c d) (k : Turns d e) : Turns c e := Relation.ReflTransGen.trans h k
theorem stands (h : HeartStands c d) : Turns c d := by rw [Turns, h.same]
theorem turn (h : Turn (heart c) (heart d)) : Turns c d := Relation.ReflTransGen.single h
theorem ite {p : Prop} [Decidable p] (h : p → Turns c d) (k : ¬p → Turns c e) : Turns c (if p then d else e) := by
  split
  next yes => exact h yes
  next no => exact k no
theorem notify (c : Chip) (n : Notice) : Turns c (c.notify n) := stands (.notify c n)

/-- What every turn keeps of the heart stands after them. -/
theorem keeps {P : Heart → Prop} (turn : ∀ {h k}, Turn h k → P h → P k) (t : Turns c d) (p : P (heart c)) : P (heart d) := by
  have chain : ∀ {h k}, Relation.ReflTransGen Turn h k → P h → P k := fun g p => by
    induction g with
    | refl => exact p
    | tail _ last ih => exact turn last ih
  exact chain t p

end Turns

/-! ## What the turns keep -/

/-- The show record fits its cue state, and the page that is LIVE is the show's (R19, R21, R48, R155). -/
def ShowFits (h : Heart) : Prop :=
  (h.run.livePage.isSome ↔ h.run.cue ≠ .idle) ∧
  (∀ k : PageId, (h.pages[k]).state = .live ↔ h.run.livePage = some k) ∧
  (h.run.mainCursor.isSome ↔ h.run.cue ≠ .idle) ∧
  (h.run.mainDue.isSome ↔ h.run.cue ≠ .idle) ∧
  (h.run.cue = .idle → h.run.holdCursor = none) ∧
  (h.run.cue = .holding → h.run.holdCursor.isSome) ∧
  (h.run.holdDue.isSome ↔ h.run.cue = .holding) ∧
  (h.run.shadow.isSome ↔ h.run.cue = .holding) ∧
  (h.run.holdEntry.isSome ↔ h.run.cue = .holding) ∧
  (h.run.pauseCause.isSome ↔ h.run.cue = .paused) ∧
  (h.restore.isSome ↔ h.run.cue = .restoring)

theorem showKept_iff (c : Chip) : c.showKept ↔ ShowFits (heart c) := Iff.rfl

/-- The buffer fits the audio state (R59, R60, R73). -/
def PlaybackFits (a : Playback) : Prop :=
  a.fill ≤ bufferSize ∧ (a.buffer ≠ [] → a.tail ≤ a.streamEnd) ∧
  (a.state = .off ∨ a.state = .starved ∨ a.state = .finished → a.buffer = []) ∧
  (a.state = .playing → a.buffer ≠ []) ∧ (a.state = .playing ∨ a.state = .starved → a.p < a.streamEnd) ∧ a.r ≤ 64

/-- The gains and the count of periods toward the next move lie in their ranges (R74, R75). -/
def GainsFit (c : Chip) : Prop := c.gain.master ≤ 256 ∧ c.gain.duck ≤ 256 ∧ c.gain.applied ≤ 256 ∧ c.gainPeriods ≤ gainSpacing

theorem audioKept_iff (c : Chip) : c.audioKept ↔ PlaybackFits c.playback ∧ GainsFit c := by
  simp only [Chip.audioKept, PlaybackFits, GainsFit, and_assoc]

/-- What the source of the clock asks of the audio in a cue state (R60, R70, R76, R77). -/
def SourceFits (cue : CueState) (a : Playback) (k : ShowClock) : Prop :=
  if k.source = .audio then
    k.value = positionValue a ∧ a.p0 ≤ a.p ∧ (cue = .cued → a.state = .filling ∧ a.p = a.p0) ∧
    (cue = .running ∨ cue = .holding → a.state = .playing ∨ a.state = .starved) ∧
    (cue = .paused ∨ cue = .restoring → a.state = .held)
  else a.state = .off ∨ a.state = .finished

/-- The show clock agrees with the cue state and the audio (R60, R70, R76, R77). -/
def ClockFits (h : Heart) : Prop :=
  (h.clock.running = true ↔ h.run.cue = .running ∨ h.run.cue = .holding ∨ h.run.cue = .ending) ∧
  h.clock.value ≤ clockTop ∧
  (h.run.cue = .cued → h.clock.value = 0 ∧ (h.playback.music = true ↔ h.clock.source = .audio)) ∧
  (h.run.cue = .idle ∨ h.run.cue = .ending → h.playback.state = .off) ∧
  (h.run.cue = .ending → h.clock.source = .localTime) ∧
  (h.run.cue ≠ .idle → SourceFits h.run.cue h.playback h.clock)

theorem clockKept_iff (c : Chip) : c.clockKept ↔ ClockFits (heart c) := Iff.rfl

end Sys2Proof.Proofs.ShowHeart


/-! PROOF. What every turn of the heart keeps: the shape of the show record (O53), the buffer and the clock (O57). -/

namespace Sys2Proof.Proofs.ShowHeart

open Sys2Proof Sys2Proof.Machine Sys2Proof.Proofs.StepEffects Sys2Proof.Proofs.Water Sys2Proof.Proofs.FountainMoves

variable {h k : Heart}

/-! ## The show record -/

/-- The fields of the record that stand in every cue state are present as the cue state asks, for a record that is not IDLE. -/
theorem pagesReleased_live (fits : ShowFits h) (p : PageId) : ((pagesReleased h)[p]).state ≠ .live := by
  obtain ⟨-, live, -⟩ := fits
  unfold pagesReleased
  split
  next q is =>
    by_cases same : p = q
    · subst same
      rw [Fin.getElem_fin, Vector.getElem_set_self]
      nofun
    · rw [Fin.getElem_fin, Vector.getElem_set_ne _ _ fun e => same (Fin.ext e.symm)]
      exact fun is_live => same (Option.some.inj ((live p).mp is_live ▸ is).symm.symm)
  next none_live =>
    exact fun is_live => by rw [(live p).mp is_live] at none_live; cases none_live

/-- A record that has ended fits the pages released. -/
theorem ended_fits (fits : ShowFits h) (restore : Option Nat) (gone : restore = none) (a : Playback) (k : ShowClock) :
    ShowFits ⟨h.run.ended, pagesReleased h, restore, a, k⟩ := by
  subst gone
  have live := pagesReleased_live fits
  refine ⟨by simp [ShowRecord.ended], fun p => iff_of_false (live p) (by simp [ShowRecord.ended]), ?_⟩
  simp [ShowRecord.ended]

theorem cued_live (fits : ShowFits h) (idle : h.run.cue = .idle) (k p : PageId) :
    ((h.pages.set k { h.pages[k] with state := .live })[p]).state = .live ↔ some k = some p := by
  obtain ⟨page, live, -⟩ := fits
  by_cases same : p = k
  · subst same
    simp
  · rw [Fin.getElem_fin, Vector.getElem_set_ne _ _ fun e => same (Fin.ext e.symm)]
    refine iff_of_false (fun is_live => ?_) fun e => same (Option.some.inj e).symm
    have some_page : h.run.livePage.isSome := by rw [(live p).mp is_live]; rfl
    exact page.mp some_page idle

theorem turn_showFits (t : Turn h k) (fits : ShowFits h) : ShowFits k := by
  have whole := fits
  obtain ⟨page, live, cursor, due, hold_idle, hold_holding, hold_due, shadow, entry, cause, restore⟩ := fits
  cases t with
  | uncue cue => exact ended_fits whole _ (by simpa [cue] using restore) _ _
  | drop cue => exact ended_fits whole _ (by simpa [cue] using restore) _ _
  | complete cue => exact ended_fits whole _ (by simpa [cue] using restore) _ _
  | abort cue => exact ended_fits whole _ rfl _ _
  | silence cue => exact ⟨page, live, cursor, due, hold_idle, hold_holding, hold_due, shadow, entry, cause, by simp [cue]⟩
  | pace => exact whole
  | block => exact whole
  | audioEnd => exact whole
  | main i due' cue => simp_all [ShowFits]
  | hold i due' cue => simp_all [ShowFits]
  | ending stamp cue => simp_all [ShowFits, endingRun]
  | resume i k cue => simp_all [ShowFits]
  | swap k t u cue armed => simp_all [ShowFits]
  | start stamp cue => simp_all [ShowFits]
  | pause cue => simp_all [ShowFits]
  | take cue => rcases cue with cue | cue | cue <;> simp_all [ShowFits]
  | takeHold k cue => simp_all [ShowFits]
  | goOn now cue => simp_all [ShowFits]
  | restored now cue => simp_all [ShowFits]
  | restore t cue => simp_all [ShowFits]
  | setHold i cue =>
    refine ⟨page, live, cursor, due, fun idle => ?_, fun holding => ?_, hold_due, shadow, entry, cause, restore⟩
    · rw [show h.run.cue = .idle from idle] at cue; cases cue
    · rw [show h.run.cue = .holding from holding] at cue; cases cue

theorem beat_showFits (t : Beat h k) (fits : ShowFits h) : ShowFits k := by
  have whole := fits
  obtain ⟨-, -, -, -, -, -, -, -, -, -, restore⟩ := fits
  cases t with
  | cue k i due' hold music origin idle =>
    refine ⟨by simp, cued_live whole idle k, ?_⟩
    have none_restore : h.restore.isSome = false := Bool.eq_false_iff.mpr fun e => by
      rw [restore, idle] at e; cases e
    simpa using none_restore
  | frame => exact whole
  | tick => exact whole

/-! ## The buffer -/

/-- A block that is taken appends frames, and none beyond the stream end. -/
theorem place_taken {a : Playback} {q : Nat} {frames : List AudioFrame} (taken : (a.place q frames).1.taken = true) :
    0 < (a.place q frames).2.length ∧ a.tail + (a.place q frames).2.length ≤ a.streamEnd := by
  revert taken
  simp only [Playback.place]
  split_ifs <;> simp [ReplyCode.taken] <;> omega

theorem musicOver_fits {a : Playback} (k : ShowClock) (now : Nat) (ramp : a.r ≤ 64) : PlaybackFits (musicOver a k now).1 := by
  simp [musicOver, PlaybackFits, Playback.fill, ramp]

theorem musicHeld_fits {a : Playback} (fits : PlaybackFits a) : PlaybackFits (musicHeld a) := by
  obtain ⟨fill, tail, empty, filled, ahead, ramp⟩ := fits
  unfold musicHeld
  split
  · exact ⟨fill, tail, by simp, by simp, by simp, ramp⟩
  · exact ⟨fill, tail, by simp, by simp, by simp, ramp⟩
  all_goals exact ⟨fill, tail, empty, filled, ahead, ramp⟩

theorem musicResumed_fits {a : Playback} (k : ShowClock) (now : Nat) (fits : PlaybackFits a) :
    PlaybackFits (musicResumed a k now).1 := by
  have whole := fits
  obtain ⟨fill, tail, -, -, -, ramp⟩ := fits
  unfold musicResumed
  split
  · exact whole
  split
  · exact musicOver_fits k now ramp
  next ahead =>
  split
  next some_frame =>
    exact ⟨fill, tail, by simp, fun _ => List.ne_nil_of_length_pos some_frame, fun _ => Nat.not_le.mp ahead, ramp⟩
  next none_left =>
    have empty : a.buffer = [] := List.eq_nil_of_length_eq_zero (Nat.eq_zero_of_not_pos none_left)
    exact ⟨fill, tail, fun _ => empty, by simp, fun _ => Nat.not_le.mp ahead, ramp⟩

theorem musicTornDown_fits {a : Playback} (fits : PlaybackFits a) : PlaybackFits (musicTornDown a) := by
  have whole := fits
  obtain ⟨-, -, -, -, -, ramp⟩ := fits
  unfold musicTornDown
  split
  · exact whole
  · simp [PlaybackFits, Playback.fill, ramp]

theorem musicTripped_fits (a : Playback) : PlaybackFits (musicTripped a) := by
  simp [musicTripped, PlaybackFits, Playback.fill]

theorem musicCued_fits (a : Playback) (music : Bool) (origin : Nat) : PlaybackFits (musicCued a music origin) := by
  cases music <;> simp [musicCued, PlaybackFits, Playback.fill]

theorem musicStarted_fits {a : Playback} (fits : PlaybackFits a) (primed : a.music = true → prebuffer ≤ a.fill) :
    PlaybackFits (musicStarted a) := by
  have whole := fits
  obtain ⟨fill, tail, -, -, -, -⟩ := fits
  unfold musicStarted
  split
  next music =>
    have some_frame : 0 < a.fill := lt_of_lt_of_le (by decide) (primed music)
    have filled : a.buffer ≠ [] := List.ne_nil_of_length_pos some_frame
    exact ⟨fill, tail, by simp, fun _ => filled, fun _ => lt_of_lt_of_le (Nat.lt_add_of_pos_right some_frame) (tail filled),
      le_refl 64⟩
  · exact whole

theorem musicAdded_fits {a : Playback} {q : Nat} {frames : List AudioFrame} (fits : PlaybackFits a) (off : a.state ≠ .off)
    (finished : a.state ≠ .finished) (taken : (a.place q frames).1.taken = true) :
    PlaybackFits (musicAdded a (a.place q frames).2) := by
  obtain ⟨some_frame, in_stream⟩ := place_taken taken
  have in_buffer := a.place_length q frames fits.1
  generalize (a.place q frames).2 = new at some_frame in_stream in_buffer
  obtain ⟨fill, tail, empty, filled, ahead, ramp⟩ := fits
  have length : (musicAdded a new).fill = a.fill + new.length := List.length_append
  have nonempty : (musicAdded a new).buffer ≠ [] := List.append_ne_nil_of_right_ne_nil _ (List.ne_nil_of_length_pos some_frame)
  have running : (musicAdded a new).state ≠ .off ∧ (musicAdded a new).state ≠ .starved ∧ (musicAdded a new).state ≠ .finished := by
    simp only [musicAdded]
    split
    · simp
    next not_starved => exact ⟨off, not_starved, finished⟩
  have stands : (musicAdded a new).p = a.p ∧ (musicAdded a new).streamEnd = a.streamEnd := ⟨rfl, rfl⟩
  refine ⟨length ▸ in_buffer, fun _ => ?_, fun none_of => ?_, fun _ => nonempty, fun _ => ?_, ramp⟩
  · rw [Playback.tail, length, stands.1, stands.2]
    rw [Playback.tail] at in_stream
    omega
  · obtain ⟨not_off, not_starved, not_finished⟩ := running
    rcases none_of with is | is | is
    exacts [absurd is not_off, absurd is not_starved, absurd is not_finished]
  · rw [stands.1, stands.2]
    rw [Playback.tail] at in_stream
    omega

theorem musicEnded_fits {a : Playback} (k : ShowClock) (now position : Nat) (fits : PlaybackFits a)
    (ahead : a.p ≤ position) : PlaybackFits (musicEnded a k now position).1 := by
  obtain ⟨fill, -, empty, filled, -, ramp⟩ := fits
  unfold musicEnded
  split
  · exact musicOver_fits k now ramp
  next further =>
  have cut : (musicCut a position).fill = min (position - a.p) a.fill := List.length_take
  have stream : (musicCut a position).streamEnd = position := rfl
  have runs (state : a.state = .playing ∨ a.state = .starved) : a.p < position :=
    lt_of_le_of_ne ahead fun same => further ⟨same.symm, state⟩
  refine ⟨by rw [cut]; omega, fun _ => ?_, fun none_of => ?_, fun playing => ?_, fun state => ?_, ramp⟩
  · rw [Playback.tail, cut, stream]
    change a.p + _ ≤ _
    omega
  · change a.buffer.take _ = []
    rw [empty none_of, List.take_nil]
  · have some_frame : 0 < a.fill := List.length_pos_of_ne_nil (filled playing)
    have := runs (.inl playing)
    exact List.ne_nil_of_length_pos (show 0 < (musicCut a position).fill by rw [cut]; omega)
  · exact runs state

theorem musicFramed_fits {a : Playback} (k : ShowClock) (now : Nat) (fits : PlaybackFits a) :
    PlaybackFits (musicFramed a k now).1 := by
  obtain ⟨fill, tail, empty, filled, ahead, ramp⟩ := fits
  have ramped := rampMove_le a.state a.r ramp
  unfold musicFramed frameTested
  cases state : a.state with
  | playing =>
    have played : framePlayed a = { a with
        r := rampMove a.state a.r, held := a.buffer.headD a.held, p := a.p + 1, buffer := a.buffer.tail } := by
      simp [framePlayed, state]
    rw [state] at ramped
    have some_frame : 0 < a.fill := List.length_pos_of_ne_nil (filled state)
    have whole := tail (filled state)
    rw [Playback.tail] at whole
    rw [played]
    have length : a.buffer.tail.length = a.fill - 1 := List.length_tail
    simp only [state]
    split
    · exact musicOver_fits _ now ramped
    next before_end =>
    have not_yet := Nat.not_le.mp before_end
    split
    next none_left =>
      have none_left : a.buffer.tail = [] := List.eq_nil_of_length_eq_zero none_left
      exact ⟨by simp [Playback.fill, none_left], by simp [none_left], by simp [none_left], by simp, fun _ => not_yet, ramped⟩
    next some_left =>
      have filled' : a.buffer.tail ≠ [] := fun e => some_left (by simp [Playback.fill, e])
      refine ⟨?_, fun _ => ?_, by simp, fun _ => filled', fun _ => not_yet, ramped⟩
      · simp only [Playback.fill, length]
        exact (Nat.sub_le _ _).trans fill
      · simp only [Playback.tail, Playback.fill, length]
        change a.p + 1 + (a.fill - 1) ≤ a.streamEnd
        omega
  | starved =>
    have played : framePlayed a = { a with r := rampMove a.state a.r, p := a.p + 1 } := by simp [framePlayed, state]
    rw [state] at ramped
    have none_held : a.buffer = [] := empty (.inr (.inl state))
    rw [played]
    simp only [state]
    split
    · exact musicOver_fits _ now ramped
    next before_end =>
      exact ⟨fill, by simp [none_held], fun _ => none_held, by simp, fun _ => Nat.not_le.mp before_end, ramped⟩
  | off | filling | held | finished =>
    have played : framePlayed a = { a with r := rampMove a.state a.r } := by simp [framePlayed, state]
    rw [state] at ramped
    rw [played]
    simp only [state]
    exact ⟨fill, tail, fun none_of => empty (by rwa [state]), by simp, by simp, ramped⟩

theorem turn_playbackFits (t : Turn h k) (fits : PlaybackFits h.playback) : PlaybackFits k.playback := by
  have emptied : PlaybackFits { h.playback with state := .off, buffer := [], endAt := none } ∧
      PlaybackFits { h.playback with state := .off, buffer := [] } := by
    obtain ⟨-, -, -, -, -, ramp⟩ := fits
    simp [PlaybackFits, Playback.fill, ramp]
  cases t with
  | pace | main | hold | resume | swap | complete | restore | setHold => exact fits
  | ending => exact musicTornDown_fits fits
  | uncue => exact emptied.1
  | drop => exact emptied.2
  | abort | silence => exact musicTripped_fits _
  | start stamp cue primed => exact musicStarted_fits fits primed
  | pause | take | takeHold => exact musicHeld_fits fits
  | goOn | restored => exact musicResumed_fits _ _ fits
  | block q frames off finished taken => exact musicAdded_fits fits off finished taken
  | audioEnd now position off finished ahead => exact musicEnded_fits _ now position fits ahead

theorem beat_playbackFits (t : Beat h k) (fits : PlaybackFits h.playback) : PlaybackFits k.playback := by
  cases t with
  | cue k i due hold music origin => exact musicCued_fits _ music origin
  | frame now => exact musicFramed_fits _ now fits
  | tick => exact fits

/-! ## The clock -/

theorem source_cases (k : ShowClock) : k.source = .audio ∨ k.source = .localTime := by
  cases k.source <;> simp

theorem musicOver_clock (a : Playback) (k : ShowClock) (now : Nat) :
    (musicOver a k now).2.running = k.running ∧ (musicOver a k now).2.value = k.value ∧
      (musicOver a k now).2.source = .localTime := by
  unfold musicOver
  dsimp only
  split
  · exact ⟨rfl, rfl, rfl⟩
  next other =>
    refine ⟨rfl, rfl, ?_⟩
    cases source : k.source with
    | localTime => rfl
    | audio => exact absurd source other

theorem musicResumed_clock (a : Playback) (k : ShowClock) (now : Nat) :
    (musicResumed a k now).2.running = k.running ∧ (musicResumed a k now).2.value = k.value := by
  unfold musicResumed
  split
  · exact ⟨rfl, rfl⟩
  split
  · exact ⟨(musicOver_clock a k now).1, (musicOver_clock a k now).2.1⟩
  split <;> exact ⟨rfl, rfl⟩

theorem musicEnded_clock (a : Playback) (k : ShowClock) (now position : Nat) :
    (musicEnded a k now position).2.running = k.running ∧ (musicEnded a k now position).2.value = k.value := by
  unfold musicEnded
  split
  · exact ⟨(musicOver_clock _ k now).1, (musicOver_clock _ k now).2.1⟩
  · exact ⟨rfl, rfl⟩

theorem frameTested_clock (a : Playback) (k : ShowClock) (now : Nat) :
    (frameTested a k now).2.running = k.running ∧ (frameTested a k now).2.value = k.value := by
  have finished := musicOver_clock a k now
  unfold frameTested
  split
  · split
    · exact ⟨finished.1, finished.2.1⟩
    · split <;> exact ⟨rfl, rfl⟩
  · split
    · exact ⟨finished.1, finished.2.1⟩
    · exact ⟨rfl, rfl⟩
  all_goals exact ⟨rfl, rfl⟩

theorem sourceFits_audio {cue : CueState} {a : Playback} {k : ShowClock} (source : k.source = .audio) :
    SourceFits cue a k ↔ k.value = positionValue a ∧ a.p0 ≤ a.p ∧ (cue = .cued → a.state = .filling ∧ a.p = a.p0) ∧
      (cue = .running ∨ cue = .holding → a.state = .playing ∨ a.state = .starved) ∧
      (cue = .paused ∨ cue = .restoring → a.state = .held) := by
  rw [SourceFits, if_pos source]

theorem sourceFits_local {cue : CueState} {a : Playback} {k : ShowClock} (source : k.source = .localTime) :
    SourceFits cue a k ↔ a.state = .off ∨ a.state = .finished := by
  rw [SourceFits, if_neg (by rw [source]; nofun)]

/-- The music is over: the clock is LOCAL, and FINISHED fits every cue state that has music. -/
theorem musicOver_sourceFits (cue : CueState) (a : Playback) (k : ShowClock) (now : Nat) :
    SourceFits cue (musicOver a k now).1 (musicOver a k now).2 :=
  (sourceFits_local (musicOver_clock a k now).2.2).mpr (.inr rfl)

/-- Music held in place fits PAUSED. -/
theorem musicHeld_sourceFits {cue : CueState} {a : Playback} {k : ShowClock} (fits : SourceFits cue a k)
    (shown : cue = .running ∨ cue = .holding ∨ cue = .paused ∨ cue = .restoring) :
    SourceFits .paused (musicHeld a) { k with running := false } := by
  rcases source_cases k with source | source
  · obtain ⟨value, start, -, runs, held⟩ := (sourceFits_audio source).mp fits
    refine (sourceFits_audio (k := { k with running := false }) source).mpr ?_
    have state : a.state = .playing ∨ a.state = .starved ∨ a.state = .held := by
      rcases shown with is | is | is | is
      · exact (runs (.inl is)).imp_right .inl
      · exact (runs (.inr is)).imp_right .inl
      · exact .inr (.inr (held (.inl is)))
      · exact .inr (.inr (held (.inr is)))
    rcases state with is | is | is <;> simp [musicHeld, is, start, value, positionValue]
  · refine (sourceFits_local (k := { k with running := false }) source).mpr ?_
    rcases (sourceFits_local source).mp fits with is | is <;> simp [musicHeld, is]

/-- Held music that goes on fits RUNNING. -/
theorem musicResumed_sourceFits {cue : CueState} {a : Playback} {k : ShowClock} (now : Nat) (fits : SourceFits cue a k)
    (waits : cue = .paused ∨ cue = .restoring) : SourceFits .running (musicResumed a k now).1 (musicResumed a k now).2 := by
  unfold musicResumed
  cases source : k.source with
  | audio =>
    obtain ⟨value, start, -, -, held⟩ := (sourceFits_audio source).mp fits
    rw [if_neg (not_not.mpr (held waits))]
    split
    · exact musicOver_sourceFits _ a k now
    · split <;> refine (sourceFits_audio source).mpr ⟨value, start, nofun, fun _ => ?_, fun is => ?_⟩ <;> simp at *
  | localTime =>
    have silent := (sourceFits_local source).mp fits
    rw [if_pos fun is => by rw [is] at silent; simp at silent]
    exact (sourceFits_local source).mpr silent

theorem turn_idle (t : Turn h k) (idle : h.run.cue = .idle) : k.run.cue = .idle := by
  cases t with
  | pace | silence | block | audioEnd => exact idle
  | setHold => exact idle
  | uncue | drop | complete | abort => rfl
  | main _ _ cue | hold _ _ cue | resume _ _ cue | start _ cue | pause cue | takeHold _ cue | goOn _ cue | restored _ cue | restore _ cue =>
    rw [idle] at cue
    cases cue
  | swap _ _ _ cue =>
    rw [idle] at cue
    cases cue
  | ending _ cue => exact absurd idle cue
  | take cue =>
    rw [idle] at cue
    rcases cue with cue | cue | cue <;> cases cue

/-- Every turn keeps the value of a clock that fits. -/
theorem turn_value (t : Turn h k) (fits : ClockFits h) : k.clock.value = h.clock.value := by
  obtain ⟨-, -, cued, -⟩ := fits
  cases t with
  | start stamp cue => exact (cued cue).1.symm
  | goOn now => exact (musicResumed_clock _ _ now).2
  | restored now => exact (musicResumed_clock _ _ now).2
  | audioEnd now position => exact (musicEnded_clock _ _ now position).2
  | _ => rfl

/-- Music that sounds belongs to a show that runs: no show is CUED, and none waits. -/
theorem sounding_cue (fits : ClockFits h) (sounding : h.playback.state = .playing ∨ h.playback.state = .starved) :
    h.run.cue = .running ∨ h.run.cue = .holding := by
  obtain ⟨-, -, -, silent, -, source⟩ := fits
  have loud : ¬(h.playback.state = .off ∨ h.playback.state = .finished) := by rcases sounding with is | is <;> simp [is]
  have shown : h.run.cue ≠ .idle := fun idle => loud (.inl (silent (.inl idle)))
  have fits := source shown
  rcases source_cases h.clock with is | is
  · obtain ⟨-, -, waits, -, held⟩ := (sourceFits_audio is).mp fits
    cases cue : h.run.cue with
    | running => exact .inl rfl
    | holding => exact .inr rfl
    | idle => exact absurd cue shown
    | ending => exact absurd (.inl (silent (.inr cue))) loud
    | cued =>
      have filling := (waits cue).1
      rcases sounding with is | is <;> simp [is] at filling
    | paused =>
      have state := held (.inl cue)
      rcases sounding with is | is <;> simp [is] at state
    | restoring =>
      have state := held (.inr cue)
      rcases sounding with is | is <;> simp [is] at state
  · exact absurd ((sourceFits_local is).mp fits) loud

/-- The end of music that sounds leaves a clock that fits. -/
theorem over_clockFits (fits : ClockFits h) (sounding : h.playback.state = .playing ∨ h.playback.state = .starved) (a : Playback)
    {k : ShowClock} (now : Nat) (same : k.running = h.clock.running) (top : k.value ≤ clockTop) :
    ClockFits { h with playback := (musicOver a k now).1, clock := (musicOver a k now).2 } := by
  obtain ⟨over_running, over_value, -⟩ := musicOver_clock a k now
  have shown := sounding_cue fits sounding
  obtain ⟨running, -⟩ := fits
  have {cue : CueState} (other : cue ≠ .running ∧ cue ≠ .holding) : h.run.cue ≠ cue := fun is => by
    rw [is] at shown
    exact shown.elim other.1 other.2
  refine ⟨by rw [over_running, same]; exact running, over_value ▸ top, fun cue => absurd cue (this (by simp)), fun quiet => ?_,
    fun cue => absurd cue (this (by simp)), fun _ => musicOver_sourceFits _ a k now⟩
  rcases quiet with cue | cue
  · exact absurd cue (this (by simp))
  · exact absurd cue (this (by simp))

theorem turn_clockFits (t : Turn h k) (fits : ClockFits h) : ClockFits k := by
  have value := turn_value t fits
  have whole := fits
  obtain ⟨running, top, cued, silent, ending, source⟩ := fits
  have top' : k.clock.value ≤ clockTop := value ▸ top
  cases t with
  | pace | main | hold | setHold => exact whole
  | ending stamp cue =>
    have off : (musicTornDown h.playback).state = .off := by
      unfold musicTornDown
      split
      next is => exact is
      · rfl
    exact ⟨by simp [endingRun], top', by simp [endingRun], fun _ => off, fun _ => rfl, fun _ => (sourceFits_local rfl).mpr (.inl off)⟩
  | resume i k cue =>
    exact ⟨by simpa [cue] using running, top', by simp, by simp, by simp, fun _ => by simpa [cue, SourceFits] using source⟩
  | swap k t u cue armed =>
    exact ⟨by simpa [cue] using running, top', by simp, by simp, by simp, fun _ => by simpa [cue, SourceFits] using source⟩
  | restore t cue =>
    exact ⟨by simpa [cue] using running, top', by simp, by simp, by simp, fun _ => by simpa [cue, SourceFits] using source⟩
  | uncue cue => exact ⟨by simpa [cue, ShowRecord.ended] using running, top', nofun, fun _ => rfl, nofun, fun idle => absurd rfl idle⟩
  | drop cue => exact ⟨by simpa [cue, ShowRecord.ended] using running, top', nofun, fun _ => rfl, nofun, fun idle => absurd rfl idle⟩
  | complete cue =>
    exact ⟨by simp [ShowRecord.ended], top', nofun, fun _ => silent (.inr cue), nofun, fun idle => absurd rfl idle⟩
  | abort cue => exact ⟨by simp [ShowRecord.ended], top', nofun, fun _ => rfl, nofun, fun idle => absurd rfl idle⟩
  | silence cue => exact ⟨by simp [cue], top', by simp [cue], fun _ => rfl, by simp [cue], fun idle => absurd cue idle⟩
  | start stamp cue =>
    refine ⟨by simp, top', by simp, by simp, by simp, fun _ => ?_⟩
    have of_music := (cued cue).2
    have source := source (by rw [cue]; nofun)
    cases is : h.clock.source with
    | audio =>
      obtain ⟨value, start, waits, -, -⟩ := (sourceFits_audio is).mp source
      obtain ⟨-, at_start⟩ := waits cue
      have music := of_music.mpr is
      simp [SourceFits, musicStarted, music, positionValue, at_start]
    | localTime =>
      have silent := (sourceFits_local is).mp source
      have no_music : h.playback.music = false := by
        rw [is] at of_music
        simpa using of_music
      simpa [SourceFits, musicStarted, no_music] using silent
  | pause cue => exact ⟨by simp, top', by simp, by simp, by simp, fun _ => musicHeld_sourceFits (source (by rw [cue]; nofun)) (.inl cue)⟩
  | take cue =>
    refine ⟨by simp, top', by simp, by simp, by simp, fun _ => musicHeld_sourceFits (source ?_) ?_⟩
    · rcases cue with cue | cue | cue <;> rw [cue] <;> nofun
    · exact cue.imp_right .inr
  | takeHold k cue =>
    exact ⟨by simp, top', by simp, by simp, by simp, fun _ => musicHeld_sourceFits (source (by rw [cue]; nofun)) (.inr (.inl cue))⟩
  | goOn now cue =>
    have running := (musicResumed_clock h.playback { h.clock with running := true, stamp := now } now).1
    have fits : SourceFits h.run.cue h.playback { h.clock with running := true, stamp := now } := source (by rw [cue]; nofun)
    exact ⟨by simp [running], top', by simp, by simp, by simp, fun _ => musicResumed_sourceFits now fits (.inl cue)⟩
  | restored now cue =>
    have running := (musicResumed_clock h.playback { h.clock with running := true, stamp := now } now).1
    have fits : SourceFits h.run.cue h.playback { h.clock with running := true, stamp := now } := source (by rw [cue]; nofun)
    exact ⟨by simp [running], top', by simp, by simp, by simp, fun _ => musicResumed_sourceFits now fits (.inr cue)⟩
  | block q frames off finished taken =>
    have heard {cue : CueState} (is : h.run.cue = cue) (quiet : cue = .idle ∨ cue = .ending) : False :=
      off (silent (is ▸ quiet))
    refine ⟨running, top', cued, fun quiet => absurd (silent quiet) off, ending, fun shown => ?_⟩
    cases is : h.clock.source with
    | audio =>
      obtain ⟨value, start, waits, runs, held⟩ := (sourceFits_audio is).mp (source shown)
      refine (sourceFits_audio is).mpr ⟨value, start, fun cue => ?_, fun cue => ?_, fun cue => ?_⟩
      · have filling := waits cue
        simp [musicAdded, filling]
      · have state := runs cue
        rcases state with state | state <;> simp [musicAdded, state]
      · have state := held cue
        simp [musicAdded, state]
    | localTime =>
      have silent := (sourceFits_local is).mp (source shown)
      exact absurd silent (not_or.mpr ⟨off, finished⟩)
  | audioEnd now position off finished ahead =>
    unfold musicEnded
    split
    next over_now =>
      exact over_clockFits whole over_now.2 _ now rfl top
    · exact ⟨running, top, cued, fun quiet => absurd (silent quiet) off, ending, source⟩

theorem rampMoved_clockFits (a : Playback) (same : a.state = h.playback.state ∧ a.p = h.playback.p ∧ a.p0 = h.playback.p0 ∧
    a.music = h.playback.music) (fits : ClockFits h) : ClockFits { h with playback := a } := by
  obtain ⟨state, p, p0, music⟩ := same
  obtain ⟨running, top, cued, silent, ending, source⟩ := fits
  refine ⟨running, top, ?_, ?_, ending, ?_⟩
  · rw [music]; exact cued
  · rw [state]; exact silent
  · rw [SourceFits, positionValue, p, p0, state]; exact source

/-- A clock that follows the play position has its value, or stands. -/
theorem clockFollowed_eq (a : Playback) (k : ShowClock) :
    (clockFollowed a k).running = k.running ∧ (clockFollowed a k).source = k.source ∧
      (clockFollowed a k).value = if k.source = .audio ∧ k.running then positionValue a else k.value := by
  unfold clockFollowed
  split
  next follows => exact ⟨rfl, rfl, rfl⟩
  next => exact ⟨rfl, rfl, rfl⟩

/-- While music sounds the clock follows it. -/
theorem sounding_clock (fits : ClockFits h) (sounding : h.playback.state = .playing ∨ h.playback.state = .starved) :
    h.clock.source = .audio ∧ h.clock.running = true ∧ h.playback.p0 ≤ h.playback.p := by
  have shown := sounding_cue fits sounding
  obtain ⟨running, -, -, -, -, source⟩ := fits
  have fits := source (by rcases shown with is | is <;> rw [is] <;> nofun)
  have runs := running.mpr (shown.imp_right .inl)
  rcases source_cases h.clock with is | is
  · exact ⟨is, runs, ((sourceFits_audio is).mp fits).2.1⟩
  · have loud := (sourceFits_local is).mp fits
    rcases sounding with state | state <;> simp [state] at loud

/-- Music that sounds at a later position fits the clock that follows it. -/
theorem sounds_clockFits (fits : ClockFits h) (sounding : h.playback.state = .playing ∨ h.playback.state = .starved)
    {a b : Playback} (start : b.p0 = h.playback.p0) (later : b.p = h.playback.p + 1)
    (same : a.state = .playing ∨ a.state = .starved) (position : a.p = b.p ∧ a.p0 = b.p0) :
    ClockFits { h with playback := a, clock := clockFollowed b h.clock } := by
  have shown := sounding_cue fits sounding
  obtain ⟨audio, runs, started⟩ := sounding_clock fits sounding
  obtain ⟨running, -⟩ := fits
  have follows : clockFollowed b h.clock = { h.clock with value := positionValue b } := if_pos ⟨audio, runs⟩
  obtain ⟨same_p, same_p0⟩ := position
  have value : positionValue b = positionValue a := by rw [positionValue, positionValue, same_p, same_p0]
  rw [follows, value]
  have source : SourceFits h.run.cue a { h.clock with value := positionValue a } :=
    (sourceFits_audio (k := { h.clock with value := positionValue a }) audio).mpr
      ⟨rfl, by rw [same_p, same_p0, later, start]; exact Nat.le_succ_of_le started, fun cue => by
        rw [cue] at shown; simp at shown, fun _ => same, fun waits => by
        rcases shown with is | is <;> simp [is] at waits⟩
  refine ⟨running, Nat.min_le_left _ _, fun cue => ?_, fun quiet => ?_, fun cue => ?_, fun _ => source⟩
  · rw [show h.run.cue = .cued from cue] at shown; simp at shown
  · rcases shown with is | is <;> simp [is] at quiet
  · rw [show h.run.cue = .ending from cue] at shown; simp at shown

/-- Where no music sounds the clock does not follow it. -/
theorem silent_clock (fits : ClockFits h) (silent : h.playback.state ≠ .playing ∧ h.playback.state ≠ .starved) :
    ¬(h.clock.source = .audio ∧ h.clock.running = true) := by
  rintro ⟨audio, runs⟩
  obtain ⟨running, -, -, -, ending, source⟩ := fits
  have shown := running.mp runs
  have fits := source (by rcases shown with is | is | is <;> rw [is] <;> nofun)
  obtain ⟨-, -, -, sounds, -⟩ := (sourceFits_audio audio).mp fits
  rcases shown with is | is | is
  · exact (sounds (.inl is)).elim silent.1 silent.2
  · exact (sounds (.inr is)).elim silent.1 silent.2
  · rw [ending is] at audio
    cases audio

theorem frame_clockFits (now : Nat) (fits : ClockFits h) :
    ClockFits { h with playback := (musicFramed h.playback h.clock now).1, clock := (musicFramed h.playback h.clock now).2 } := by
  have top : (clockFollowed (framePlayed h.playback) h.clock).value ≤ clockTop := by
    rw [(clockFollowed_eq _ _).2.2]
    split
    · exact Nat.min_le_left _ _
    · exact fits.2.1
  have running := (clockFollowed_eq (framePlayed h.playback) h.clock).1
  unfold musicFramed frameTested
  cases state : h.playback.state with
  | playing =>
    have played : (framePlayed h.playback).state = .playing ∧ (framePlayed h.playback).p = h.playback.p + 1 ∧
        (framePlayed h.playback).p0 = h.playback.p0 := by simp [framePlayed, state]
    obtain ⟨same, later, start⟩ := played
    simp only [same]
    split
    · exact over_clockFits fits (.inl state) _ now running top
    split
    · exact sounds_clockFits fits (.inl state) start later (.inr rfl) ⟨rfl, rfl⟩
    · exact sounds_clockFits fits (.inl state) start later (.inl same) ⟨rfl, rfl⟩
  | starved =>
    have played : (framePlayed h.playback).state = .starved ∧ (framePlayed h.playback).p = h.playback.p + 1 ∧
        (framePlayed h.playback).p0 = h.playback.p0 := by simp [framePlayed, state]
    obtain ⟨same, later, start⟩ := played
    simp only [same]
    split
    · exact over_clockFits fits (.inr state) _ now running top
    · exact sounds_clockFits fits (.inr state) start later (.inr same) ⟨rfl, rfl⟩
  | off | filling | held | finished =>
    have played : framePlayed h.playback = { h.playback with r := rampMove h.playback.state h.playback.r } := by
      simp [framePlayed, state]
    have stands : clockFollowed (framePlayed h.playback) h.clock = h.clock :=
      if_neg (silent_clock fits (by simp [state]))
    rw [stands, played]
    simp only [state]
    exact rampMoved_clockFits _ ⟨by simp [state], rfl, rfl, rfl⟩ fits

theorem beat_clockFits (t : Beat h k) (fits : ClockFits h) : ClockFits k := by
  cases t with
  | cue k i due hold music origin idle =>
    refine ⟨by simp, by simp, fun _ => ⟨rfl, by cases music <;> simp [musicCued]⟩, by simp, by simp, fun _ => ?_⟩
    cases music <;> simp [SourceFits, musicCued, positionValue]
  | frame now => exact frame_clockFits now fits
  | tick stamp runs source_local =>
    obtain ⟨running, top, cued, silent, ending, source⟩ := fits
    refine ⟨running, Nat.min_le_left _ _, fun cue => ?_, silent, ending, fun shown => ?_⟩
    · have := running.mp runs
      rw [show h.run.cue = .cued from cue] at this
      simp at this
    · exact (sourceFits_local (k := { h.clock with value := min clockTop (h.clock.value + 1), stamp := stamp }) source_local).mpr
        ((sourceFits_local source_local).mp (source shown))

end Sys2Proof.Proofs.ShowHeart


/-! PROOF. The cursors, the catch-up, the hold and the end of a show, as turns of the heart (R24 to R37, R44, R50 to R56). -/

namespace Sys2Proof.Proofs.ShowHeart

open Sys2Proof Sys2Proof.Machine Sys2Proof.Proofs.StepEffects Sys2Proof.Proofs.Water Sys2Proof.Proofs.FountainMoves

variable {c d : Chip}

theorem Turns.of (t : Turn (heart c) k) (same : heart d = k) : Turns c d := .turn (same ▸ t)

/-! ## Steps -/

/-- From `c` to `d` the heart stands but for the loop counters and the last mark. -/
def Paced (c d : Chip) : Prop :=
  ∃ (k : Vector Nat 4) (m : Option Nat), heart d = { heart c with run := { c.run with counters := k, lastMark := m } }

namespace Paced

variable {e : Chip}

theorem stands (h : HeartStands c d) : Paced c d := ⟨c.run.counters, c.run.lastMark, h.same⟩

theorem then_stands (h : Paced c d) (k : HeartStands d e) : Paced c e := by
  obtain ⟨counters, mark, same⟩ := h
  exact ⟨counters, mark, k.same.trans same⟩

theorem turns (h : Paced c d) : Turns c d := by
  obtain ⟨counters, mark, same⟩ := h
  exact .of (.pace _ counters mark) same

theorem cue (h : Paced c d) : d.run.cue = c.run.cue := by
  obtain ⟨_, _, same⟩ := h
  exact congrArg (fun h : Heart => h.run.cue) same

theorem clock (h : Paced c d) : d.clock = c.clock := by
  obtain ⟨_, _, same⟩ := h
  exact congrArg Heart.clock same

theorem ite {p : Prop} [Decidable p] (h : Paced c d) : Paced c (if p then d else c) := by
  split
  · exact h
  · exact stands (.refl c)

end Paced

section Steps

variable (c : Chip) (raw : RawStep) (due : Nat)

theorem setCounter_paced (n v : Nat) : Paced c (c.setCounter n v) := by
  unfold Chip.setCounter
  split
  · exact ⟨_, c.run.lastMark, rfl⟩
  · exact .stands (.refl c)

theorem stepImage_paced : Paced c (c.stepImage raw due) := by
  unfold Chip.stepImage
  split
  · exact .stands (image_heart c _)
  · exact .stands (image_heart c _)
  · exact .stands (image_heart c _)
  · split
    · exact .stands (image_heart c _)
    · exact .stands (.refl c)
  · exact .stands (.lamps (Chip.fadeShow_lamps c _ _ _ _ _))
  · exact setCounter_paced c _ _
  · exact setCounter_paced c _ _
  · exact ⟨c.run.counters, _, rfl⟩
  all_goals exact .stands (.refl c)

theorem stepWater_heart : HeartStands c (c.stepWater raw due) := by
  unfold Chip.stepWater
  split
  · exact (HeartStands.water (Chip.demandWrites_water c _ _ _)).trans (.endEvent _)
  · extract_lets finish d
    have written : HeartStands c d := .water (.forEach fun j d => Chip.demandWrite_water d _ _ _ j)
    exact .trans (.ite (written.trans (expireBursts_heart d)) written) (.endEvent _)
  · exact (HeartStands.moves (b := false) (cutJets_water c _)).trans (.endEvent _)
  · split
    · exact .trans (.moves (b := true) (.forEach (I := anyPump) (J := anyJet) fun _ _ _ => drive_moves trivial _)) (.endEvent _)
    · exact .refl c
  all_goals exact .refl c

theorem stepEffect_paced : Paced c (c.stepEffect raw due) := (stepImage_paced c raw due).then_stands (stepWater_heart _ raw due)

end Steps

/-! ## The end of a show -/

theorem enterEnding_heart (c : Chip) (fade origin : Nat) : ∃ stamp, heart (c.enterEnding fade origin) = { heart c with
    run := endingRun c.run, restore := none, playback := musicTornDown c.playback
    clock := ⟨c.clock.value, .localTime, true, stamp⟩ } := by
  rw [enterEnding_eq]
  have faded : heart (c.fadeOut origin fade) = heart c := heart_lamps (Chip.fadeOut_lamps c origin fade)
  generalize c.fadeOut origin fade = d at faded
  have shut : heart (shutDown (endingRecorded d)) = { heart d with run := endingRun d.run, restore := none } :=
    (HeartStands.moves (shutDown_moves (b := false) (endingRecorded d))).same
  generalize shutDown (endingRecorded d) = e at shut
  have torn : heart (e.endAudio.notify .showState) = { heart e with
      playback := musicTornDown (heart e).playback
      clock := ⟨(heart e).clock.value, .localTime, true,
        if e.clock.running ∧ e.clock.source = .localTime then e.clock.stamp else e.now⟩ } := rfl
  generalize (if e.clock.running ∧ e.clock.source = .localTime then e.clock.stamp else e.now) = stamp at torn
  refine ⟨stamp, torn.trans ?_⟩
  rw [shut, show d.run = c.run from congrArg Heart.run faded, faded]
  rfl

theorem enterEnding_turns (c : Chip) (fade origin : Nat) (cue : c.run.cue ≠ .idle) : Turns c (c.enterEnding fade origin) := by
  obtain ⟨stamp, same⟩ := enterEnding_heart c fade origin
  exact .of (.ending _ stamp cue) same

theorem closeShow_heart (c : Chip) : heart c.closeShow = { heart c with run := c.run.ended, pages := pagesReleased (heart c) } := by
  unfold Chip.closeShow Chip.releasePage pagesReleased
  split <;> rename_i is <;> simp only [show (heart c).run.livePage = c.run.livePage from rfl, is] <;> rfl

/-! ## The main cursor and the catch-up -/

theorem placeMain_turns (i : StepIndex) (due : Nat) (cue : c.run.cue = .running) : Turns c (c.placeMain i due) :=
  .turn (.main _ i due cue)

theorem placeHold_turns (i : StepIndex) (due : Nat) (cue : c.run.cue = .holding) : Turns c (c.placeHold i due) :=
  .turn (.hold _ i due cue)

/-- A paced step under the main cursor, then the end of the show. -/
theorem finished_turns (cue : c.run.cue = .running) (paced : Paced c d) (fade origin : Nat) : Turns c (d.enterEnding fade origin) :=
  paced.turns.trans (enterEnding_turns d fade origin (by rw [paced.cue, cue]; nofun))

/-- A paced step under the main cursor, then its arrival at a step. -/
theorem arrived_turns (cue : c.run.cue = .running) (paced : Paced c d) (i : StepIndex) (due : Nat) : Turns c (d.placeMain i due) :=
  paced.turns.trans (placeMain_turns i due (paced.cue.trans cue))

theorem executeMain_turns (i : StepIndex) (due : Nat) (cue : c.run.cue = .running) : Turns c (c.executeMain i due) := by
  have paced : Paced c (if c.stepActs (c.stepAt i) then c.stepEffect (c.stepAt i) due else c) := (stepEffect_paced c _ due).ite
  unfold Chip.executeMain
  dsimp only
  split
  exacts [arrived_turns cue paced _ _, finished_turns cue paced _ _, paced.turns]

theorem catchUpStep_turns (w : Written) (i : StepIndex) (due : Nat) (cue : c.run.cue = .running) :
    Turns c (c.catchUpStep w i due).1 := by
  have imaged : Paced c (if c.stepActs (c.stepAt i) && !c.burstSpent (c.stepAt i) due then c.stepImage (c.stepAt i) due else c) :=
    (stepImage_paced c _ due).ite
  unfold Chip.catchUpStep
  dsimp only
  split
  exacts [arrived_turns cue imaged _ _, finished_turns cue imaged _ _, imaged.turns]

theorem catchUpRun_turns (fuel : Nat) (w : Written) : Turns c (Chip.catchUpRun fuel c w).1 := by
  induction fuel generalizing c w with
  | zero => exact .refl c
  | succ n ih =>
    unfold Chip.catchUpRun
    split
    next cue _ _ =>
      split
      · exact (catchUpStep_turns w _ _ cue).trans (ih _)
      · exact .refl c
    next => exact .refl c

theorem catchUp_turns (c : Chip) : Turns c c.catchUp := by
  unfold Chip.catchUp
  extract_lets x
  have ran : Turns c x.1 := catchUpRun_turns _ _
  exact .ite (fun _ => ran) fun _ => ran.trans (.stands (handOver_heart _ _))

/-! ## The hold -/

theorem endHold_turns (i : StepIndex) (cue : c.run.cue = .holding) : Turns c (c.endHold i) := by
  unfold Chip.endHold
  refine .trans ?_ (catchUp_turns _)
  exact .of (.resume (heart c) _ _ cue) rfl

theorem executeHold_turns (i : StepIndex) (due : Nat) (cue : c.run.cue = .holding) : Turns c (c.executeHold i due) := by
  have paced : Paced c (if c.stepActs (c.stepAt i) then c.stepEffect (c.stepAt i) due else c) := (stepEffect_paced c _ due).ite
  have cue' := paced.cue.trans cue
  unfold Chip.executeHold
  dsimp only
  split
  · exact paced.turns.trans (placeHold_turns _ _ cue')
  · exact paced.turns.trans (enterEnding_turns _ _ _ (by rw [cue']; nofun))
  · exact paced.turns.trans (endHold_turns i cue')

theorem runSteps_turns (c : Chip) : Turns c c.runSteps := by
  have ran (fuel : Nat) : ∀ c, Turns c (Chip.runCursors fuel c) := by
    induction fuel with
    | zero => exact Turns.refl
    | succ n ih =>
      intro c
      unfold Chip.runCursors
      split
      next cue =>
        split
        · exact .ite (fun _ => (executeMain_turns _ _ cue).trans (ih _)) fun _ => .refl c
        · exact .refl c
      next cue =>
        split
        · exact .ite (fun _ => (executeHold_turns _ _ cue).trans (ih _)) fun _ => .refl c
        · exact .refl c
      all_goals exact .refl c
  exact ran _ c

theorem clockTook_turns (c : Chip) : Turns c c.clockTook :=
  .ite (fun _ => (Turns.stands (expireBursts_heart c)).trans (runSteps_turns _)) fun _ => .refl c

theorem holdSwap_turns (i : StepIndex) (cue : c.run.cue = .running) (armed : c.run.holdCursor.isSome = true) :
    Turns c (c.holdSwap i) := by
  unfold Chip.holdSwap
  refine .trans ?_ (runSteps_turns _)
  exact .of (.swap (heart c) c.run.counters c.clock.value _ cue armed) rfl

theorem gustToShow_turns (c : Chip) : Turns c c.gustToShow := by
  unfold Chip.gustToShow
  split
  next cue armed => exact holdSwap_turns _ cue (by rw [armed]; rfl)
  · exact .refl c

end Sys2Proof.Proofs.ShowHeart


/-! PROOF. The show requests, the trips and the tests that follow a command, as turns of the heart (R38 to R45, R162 to R164, R166);
and what every effect does to the heart. -/

namespace Sys2Proof.Proofs.ShowHeart

open Sys2Proof Sys2Proof.Machine Sys2Proof.Proofs.StepEffects Sys2Proof.Proofs.Water Sys2Proof.Proofs.FountainMoves

variable {c d : Chip}

/-! ## The music -/

theorem resumeAudio_heart (c : Chip) : heart c.resumeAudio = { heart c with
    playback := (musicResumed c.playback c.clock c.now).1, clock := (musicResumed c.playback c.clock c.now).2 } := by
  unfold Chip.resumeAudio musicResumed
  split
  · rfl
  split
  · rfl
  split <;> rfl

theorem holdAudio_heart (c : Chip) : heart c.holdAudio = { heart c with playback := musicHeld c.playback } := by
  unfold Chip.holdAudio musicHeld
  split <;> rename_i is <;> simp only [is]
  all_goals rfl

theorem endOfMusic_heart (c : Chip) : heart c.endOfMusic = { heart c with
    playback := (musicOver c.playback c.clock c.now).1, clock := (musicOver c.playback c.clock c.now).2 } := rfl

theorem lowCrossing_heart (c : Chip) (fill : Nat) : HeartStands c (c.lowCrossing fill) := .ite (.notify c _) (.refl c)

theorem audioCut_heart (c : Chip) (position : Nat) :
    heart (audioCut c position) = { heart c with playback := musicCut c.playback position } :=
  (lowCrossing_heart _ _).same

theorem playFrame_heart (c : Chip) : heart c.playFrame = { heart c with playback := framePlayed c.playback } := by
  unfold Chip.playFrame framePlayed
  dsimp only
  split <;> rename_i is <;> simp only [is]
  all_goals rfl

theorem followPosition_heart (c : Chip) :
    heart c.followPosition = { heart c with clock := clockFollowed c.playback c.clock } := by
  unfold Chip.followPosition clockFollowed
  split <;> rfl

theorem testBuffer_heart (c : Chip) (fill : Nat) : heart (c.testBuffer fill) = { heart c with
    playback := (frameTested c.playback c.clock c.now).1, clock := (frameTested c.playback c.clock c.now).2 } := by
  unfold Chip.testBuffer frameTested
  split <;> rename_i is <;> simp only [is]
  · split
    · rfl
    split
    · rfl
    · exact (lowCrossing_heart c fill).same
  · split <;> rfl
  all_goals rfl

theorem framePeriod_heart (c : Chip) : heart c.framePeriod = { heart c with
    playback := (musicFramed c.playback c.clock c.now).1, clock := (musicFramed c.playback c.clock c.now).2 } := by
  have now : c.playFrame.followPosition.now = c.now := ((Chip.playFrame_audio c).trans (Chip.followPosition_audio _)).now
  have followed : heart c.playFrame.followPosition = { heart c with
      playback := framePlayed c.playback, clock := clockFollowed (framePlayed c.playback) c.clock } := by
    rw [followPosition_heart, show c.playFrame.playback = framePlayed c.playback from congrArg Heart.playback (playFrame_heart c),
      show c.playFrame.clock = c.clock from congrArg Heart.clock (playFrame_heart c), playFrame_heart]
  rw [Chip.framePeriod, testBuffer_heart, now, show c.playFrame.followPosition.playback = _ from congrArg Heart.playback followed,
    show c.playFrame.followPosition.clock = _ from congrArg Heart.clock followed, followed]
  rfl

/-! ## The show requests -/

theorem cueShow_beat (c : Chip) (k : PageId) (i : StepIndex) (music : Bool) (origin : Nat) (idle : c.run.cue = .idle)
    (ready : (c.pages[k]).state = .ready) : Beat (heart c) (heart (c.cueShow k i music origin)) := by
  unfold Chip.cueShow
  extract_lets d₁ _ d₂ _ d₃ d₄
  have cued : Beat (heart c) (heart d₄) := .cue (heart c) k i (stepDelay (d₂.stepAt i)) (d₂.sceneStart 15) music origin idle ready
  split
  · rw [(beginWake_heart d₄ .standby).same]; exact cued
  · exact cued

theorem uncue_turns (cue : c.run.cue = .cued) : Turns c c.uncue := by
  refine .of (.uncue (heart c) cue) ?_
  have off (d : Chip) : heart { d.audioOff with playback := { d.audioOff.playback with endAt := none } } = { heart d with
      playback := { (heart d).playback with state := .off, buffer := [], endAt := none } } := rfl
  exact (off c.closeShow).trans (by rw [closeShow_heart]; rfl)

theorem dropShow_turns (cue : c.run.cue = .paused) : Turns c c.dropShow := by
  refine .of (.drop (heart c) cue) ?_
  unfold Chip.dropShow
  have dark := (darkenShow_heart c).same
  generalize c.darkenShow = d at dark
  rw [closeShow_heart]
  have off : heart { d.audioOff with image := clearedImage } = { heart d with
      playback := { (heart d).playback with state := .off, buffer := [] } } := rfl
  rw [off, dark, show d.audioOff.run = c.run from congrArg Heart.run dark]
  rfl

theorem startShow_turns (cue : c.run.cue = .cued) (primed : c.playback.music = true → prebuffer ≤ c.playback.fill) :
    Turns c c.startShow := by
  unfold Chip.startShow
  extract_lets d₁ _ _ d₂ d₃ d₄
  refine .trans (.of (.start (heart c) d₄.cutFlush.endEvent.now cue primed) ?_) (clockTook_turns _)
  have opened : heart d₂ = { heart c with run := { c.run with cue := .running } } := by
    have stands := (toMode_heart c .showMode).same
    have run : d₁.run = c.run := congrArg Heart.run stands
    have told : heart d₂ = { heart d₁ with run := { d₁.run with cue := .running } } := rfl
    rw [told, run, stands]
  have shut : HeartStands d₂ d₃ := .water (Chip.demandWrites_water d₂ _ _ _)
  have stopped : HeartStands d₃ d₄ := .moves (b := true) (.forEach (I := anyPump) (J := anyJet) fun _ _ _ => handDrive_moves trivial _ _ _)
  have cut : HeartStands d₄ d₄.cutFlush.endEvent := (cutFlush_heart d₄).trans (.endEvent _)
  have ready := ((shut.trans stopped).trans cut).same.trans opened
  generalize d₄.cutFlush.endEvent = e at ready
  have started : heart e.startAudio = { heart e with
      playback := musicStarted (heart e).playback, clock := ⟨0, (heart e).clock.source, true, e.now⟩ } := rfl
  rw [started, ready]
  rfl

theorem pausing_heart (c : Chip) (cause : PauseCause) : heart (c.pauseShow cause) = { heart c with
    run := { c.run with cue := .paused, pauseCause := some cause }, playback := musicHeld c.playback
    clock := { c.clock with running := false } } := by
  unfold Chip.pauseShow
  extract_lets d₁ _ d₂
  have held : heart d₁ = { heart c with playback := musicHeld c.playback, clock := { c.clock with running := false } } :=
    holdAudio_heart c.stopClock
  have paused : heart d₂ = { heart d₁ with run := { d₁.run with cue := .paused, pauseCause := some cause } } := rfl
  have run : d₁.run = c.run := congrArg Heart.run held
  have same := paused.trans (by rw [run, held])
  split
  · exact same
  · exact same

theorem pauseShow_turns (cue : c.run.cue = .running) : Turns c (c.pauseShow .program) :=
  .of (.pause (heart c) cue) (pausing_heart c .program)

theorem startedClock_heart (c : Chip) : heart c.startClock.resumeAudio = { heart c with
    playback := (musicResumed c.playback { c.clock with running := true, stamp := c.now } c.now).1
    clock := (musicResumed c.playback { c.clock with running := true, stamp := c.now } c.now).2 } :=
  resumeAudio_heart c.startClock

theorem continueShow_turns (cue : c.run.cue = .paused) : Turns c c.continueShow := by
  refine .of (.goOn (heart c) c.now cue) ?_
  unfold Chip.continueShow
  rw [startedClock_heart]
  rfl

theorem endRestore_turns (cue : c.run.cue = .restoring) : Turns c c.endRestore := by
  refine .of (.restored (heart c) c.now cue) ?_
  unfold Chip.endRestore
  rw [startedClock_heart]
  rfl

theorem setHold_turns (i : Option StepIndex) (cue : c.run.cue.mayHoldSet = true) : Turns c (c.setHold i) :=
  .turn (.setHold (heart c) i cue)

theorem stopShow_turns (c : Chip) : Turns c c.stopShow := by
  have ended (other : c.run.cue ≠ .idle) : Turns c (c.enterEnding stopFade c.clock.value) := enterEnding_turns c _ _ other
  unfold Chip.stopShow
  split
  · exact .refl c
  · exact .refl c
  next cue => exact uncue_turns cue
  next cue => exact ended (by rw [cue]; nofun)
  next cue => exact ended (by rw [cue]; nofun)
  next cue => exact ended (by rw [cue]; nofun)
  next cue => exact .ite (fun _ => dropShow_turns cue) fun _ => ended (by rw [cue]; nofun)

/-! ## The panel -/

theorem timed_heart (c : Chip) (t : Option Nat) : heart { c with mode := { c.mode with restore := t } } = { heart c with restore := t } :=
  rfl

theorem takeShow_turns (c : Chip) : Turns c c.takeShow := by
  have paused (other : c.run.cue ≠ .holding) (cue : c.run.cue = .running ∨ c.run.cue = .paused ∨ c.run.cue = .restoring) :
      Turns c { c.undoHold.pauseShow .take with mode := { (c.undoHold.pauseShow .take).mode with restore := none } } := by
    rw [Chip.undoHold, if_neg other]
    exact .of (.take (heart c) cue) ((timed_heart _ none).trans (by rw [pausing_heart]; rfl))
  unfold Chip.takeShow
  split
  next cue => exact paused (by rw [cue]; nofun) (.inl cue)
  next cue =>
    rw [Chip.undoHold, if_pos cue]
    exact .of (.takeHold (heart c) (c.run.shadow.getD c.run.counters) cue) ((timed_heart _ none).trans (by rw [pausing_heart]; rfl))
  next cue => exact paused (by rw [cue]; nofun) (.inr (.inl cue))
  next cue => exact paused (by rw [cue]; nofun) (.inr (.inr cue))
  all_goals exact .refl c

theorem takeFountain_turns (c : Chip) : Turns c c.takeFountain := by
  have wet := ((takeJets_heart c.takeShow).trans (cutFlush_heart _)).trans (.endEvent _)
  exact (takeShow_turns c).trans (.stands ((wet.trans (lampsToPanel_heart _)).trans (takeMode_heart _)))

theorem beginRestore_turns (cue : c.run.cue = .paused) : Turns c c.beginRestore := by
  refine .of (.restore (heart c) c.now cue) ?_
  unfold Chip.beginRestore
  extract_lets _ d₁ d₂ d₃ d₄ d₅ d₆
  have shut : HeartStands d₂ d₃ := .water (.forEach fun j d => Chip.demandWrite_water d _ _ _ j)
  have stopped : HeartStands d₄ d₅ := .moves (b := true) (.forEach (I := anyPump) (J := anyJet) fun _ _ _ => handDrive_moves trivial _ _ _)
  have crossfade : HeartStands d₅.endEvent d₆ := .lamps (Chip.beginCrossfade_lamps _)
  have stands : HeartStands d₁ d₆ :=
    ((((toMode_heart d₁ .showMode).trans shut).trans (expireBursts_heart d₃)).trans stopped).trans
      ((HeartStands.endEvent d₅).trans crossfade)
  exact (timed_heart d₆ _).trans (by rw [stands.same]; rfl)

/-! ## Trips -/

theorem abortShow_heart (c : Chip) (shown : c.run.cue ≠ .idle) : heart c.abortShow = { heart c with
    run := c.run.ended, pages := pagesReleased (heart c), restore := none } := by
  unfold Chip.abortShow
  rw [if_neg shown, closeShow_heart]
  rfl

theorem abortShow_idle_heart (c : Chip) (idle : c.run.cue = .idle) : heart c.abortShow = { heart c with restore := none } := by
  unfold Chip.abortShow
  rw [if_pos idle]
  rfl

theorem tripAudio_heart (c : Chip) : heart c.tripAudio = { heart c with
    playback := musicTripped c.playback, clock := { c.clock with running := false } } := rfl

theorem enterTripped_turns (c : Chip) (cause : TripCause) : Turns c (c.enterTripped cause) := by
  unfold Chip.enterTripped
  extract_lets _ d₁ d₂
  have begun : HeartStands c d₁ := .mode c _ rfl
  have shut : HeartStands c d₁.dropPower.tripPumps.closeJets :=
    ((begun.trans (dropPower_heart d₁)).trans (tripPumps_heart _)).trans (closeJets_heart _)
  generalize entered : d₁.dropPower.tripPumps.closeJets = e at shut
  have rest : HeartStands e.abortShow.tripAudio ((d₂.toMode .tripped).notify .trip) := by
    have dark := ((tripLamps_heart e.abortShow.tripAudio).trans (cutFlush_heart _)).trans ((toMode_heart _ .tripped).trans (.notify _ .trip))
    rw [← entered] at dark ⊢
    exact dark
  refine .trans ?_ (.stands rest)
  refine (Turns.stands shut).trans ?_
  by_cases cue : e.run.cue = .idle
  · have same := abortShow_idle_heart e cue
    refine .of (.silence (heart e) cue) ?_
    rw [tripAudio_heart, same, show e.abortShow.playback = e.playback from congrArg Heart.playback same,
      show e.abortShow.clock = e.clock from congrArg Heart.clock same]
    rfl
  · have same := abortShow_heart e cue
    refine .of (.abort (heart e) cue) ?_
    rw [tripAudio_heart, same, show e.abortShow.playback = e.playback from congrArg Heart.playback same,
      show e.abortShow.clock = e.clock from congrArg Heart.clock same]
    rfl

theorem tripCause_turns (c : Chip) (cause : TripCause) : Turns c (c.tripCause cause) :=
  .ite (fun _ => (Turns.stands (.mode c { c.mode with causes := withCause cause c.mode.causes } rfl)).trans (.notify _ .trip)) fun _ =>
    enterTripped_turns c cause

/-! ## The tests that follow a command -/

theorem completeEnding_turns (cue : c.run.cue = .ending) : Turns c c.completeEnding := by
  have dark := (darkenShow_heart c.closeShow.stopClock).trans (toMode_heart _ .standby)
  refine .of (.complete (heart c) cue) (dark.same.trans ?_)
  have stopped : heart c.closeShow.stopClock = { heart c.closeShow with
      clock := { (heart c.closeShow).clock with running := false } } := rfl
  rw [stopped, closeShow_heart]
  rfl

theorem settle_turns (before c : Chip) : Turns c (Chip.settle before c) := by
  have restore : Turns c c.testRestore := .ite (fun h => endRestore_turns h.1) fun _ => .refl c
  have ending : Turns c.testRestore c.testRestore.testEnding := .ite (fun h => completeEnding_turns h.1) fun _ => .refl _
  exact (restore.trans ending).trans
    (.stands (((testFlush_heart _).trans (testPower_heart _)).trans (testDormancy_heart _ before)))

/-! ## What an effect does to the heart -/

theorem appendFrames_turns {q : Nat} {frames : List AudioFrame} (off : c.playback.state ≠ .off)
    (finished : c.playback.state ≠ .finished) (taken : (c.playback.place q frames).1.taken = true) :
    Turns c (AudioBlocks.appendFrames c (c.playback.place q frames).2) :=
  .turn (.block (heart c) q frames off finished taken)

theorem audioEnded_turns (position : Nat) (off : c.playback.state ≠ .off) (finished : c.playback.state ≠ .finished)
    (ahead : c.playback.p ≤ position) : Turns c (if position = (audioCut c position).playback.p ∧
      ((audioCut c position).playback.state = .playing ∨ (audioCut c position).playback.state = .starved)
    then (audioCut c position).endOfMusic else audioCut c position) := by
  have cut := audioCut_heart c position
  have now : (audioCut c position).now = c.now := by
    unfold audioCut Chip.lowCrossing
    split <;> rfl
  have playback : (audioCut c position).playback = musicCut c.playback position := congrArg Heart.playback cut
  have clock : (audioCut c position).clock = c.clock := congrArg Heart.clock cut
  refine .of (.audioEnd (heart c) c.now position off finished ahead) ?_
  show _ = { heart c with
    playback := (musicEnded c.playback c.clock c.now position).1, clock := (musicEnded c.playback c.clock c.now position).2 }
  unfold musicEnded
  rw [playback]
  split
  · rw [endOfMusic_heart, playback, clock, now, cut]
  · exact cut

/-- Every effect on the fountain turns the heart, or is a beat of the show clock. -/
theorem fountainEffect_turns {may : Special → Prop} (effect : FountainEffect may c d) :
    Turns c d ∨ (may .cue ∨ may .clock) ∧ Beat (heart c) (heart d) := by
  cases effect with
  | cue k i music origin special idle mode ready => exact .inr ⟨.inl special, cueShow_beat c k i music origin idle ready⟩
  | framePeriod special =>
    refine .inr ⟨.inr special, ?_⟩
    rw [framePeriod_heart]
    exact .frame (heart c) c.now
  | tick stamp special running source => exact .inr ⟨.inr special, .tick (heart c) stamp running source⟩
  | notify n => exact .inl (.notify c n)
  | uncue cued => exact .inl (uncue_turns cued)
  | start cued mode primed => exact .inl (startShow_turns cued primed)
  | pause running => exact .inl (pauseShow_turns running)
  | continueShow paused => exact .inl (continueShow_turns paused)
  | hold i cue => exact .inl (setHold_turns i cue)
  | stop => exact .inl (stopShow_turns c)
  | restored restoring => exact .inl (endRestore_turns restoring)
  | gust => exact .inl (gustToShow_turns c)
  | clockTook => exact .inl (clockTook_turns c)
  | audio q frames off finished taken => exact .inl (appendFrames_turns off finished taken)
  | audioEnd position off finished ahead => exact .inl (audioEnded_turns position off finished ahead)
  | take => exact .inl (takeFountain_turns c)
  | restore mode paused => exact .inl (beginRestore_turns paused)
  | release => exact .inl (.stands (releaseFountain_heart c))
  | trip cause => exact .inl (tripCause_turns c cause)
  | clearTrip => exact .inl (.stands (tripCleared_heart c))
  | manual d mode moves => exact .inl (.stands (.moves moves))
  | pumps d moves => exact .inl (.stands (.moves moves))
  | panelLayer fades => exact .inl (.stands (.lights c _ _ _ _ _))
  | lampFrame => exact .inl (.stands (.lamps (Chip.lampFrame_lamps c)))
  | mask => exact .inl (.stands (.circ c _))
  | flushAll z => exact .inl (.stands (beginFlush_heart c _ z))
  | dormant => exact .inl (.stands (enterDormant_heart c))
  | wake => exact .inl (.stands (beginWake_heart c _))
  | settle before => exact .inl (settle_turns before c)
  | powered => exact .inl (.stands (powered_heart c))
  | periodExpiry => exact .inl (.stands (periodExpiry_heart c))
  | endFlush f => exact .inl (.stands (endFlush_heart c f))
  | zoneDone f => exact .inl (.stands (zoneDone_heart c f))
  | stallFlush f => exact .inl (.stands (stallFlush_heart c f))

end Sys2Proof.Proofs.ShowHeart


/-! PROOF. Every step keeps the show record in its shape (O53), and the buffer and the clock in agreement with it (O57). -/

namespace Sys2Proof.Proofs.ShowHeart

open Sys2Proof Sys2Proof.Machine Sys2Proof.Proofs.StepEffects Sys2Proof.Proofs.Water Sys2Proof.Proofs.FountainMoves
  Sys2Proof.Proofs.Links Sys2Proof.Proofs.RecordsKept Sys2Proof.Proofs.RequestEffects

variable {may : Special → Prop} {c d : Chip}

/-! ## What every effect does to the heart -/

/-- The heart that a reset leaves before an asserted emergency stop acts (R20, R47, R78). -/
structure HeartReset (h : Heart) : Prop where
  run : h.run = idleShow
  restore : h.restore = none
  playback : h.playback = silentPlayback
  clock : ∃ now, h.clock = ⟨0, .localTime, false, now⟩
  pages : ∀ k : PageId, (h.pages[k]).state ≠ .live

theorem resetValues_heart (h : ResetValues c d) : HeartReset (heart d) := by
  have kept (k : PageId) : ((c.pages[k]).afterReset).state ≠ .live := by
    unfold Page.afterReset
    split
    · nofun
    · nofun
    · nofun
    next is => rw [is]; nofun
    next is => rw [is]; nofun
    next is => rw [is]; nofun
  have live (straps : Vector StrapPins 3) (k : PageId) : ((c.lineResetValues straps).pages[k]).state ≠ .live := by
    rw [show (c.lineResetValues straps).pages[k] = (c.pages[k]).afterReset from Vector.getElem_ofFn _]
    exact kept k
  cases h with
  | powerOn lines =>
    refine ⟨rfl, rfl, rfl, ⟨_, rfl⟩, fun k => ?_⟩
    rw [show (heart (poweredChip lines (strapLinks lines.straps))).pages[k] = clearedPage from Vector.getElem_replicate _]
    nofun
  | lineReset straps => exact ⟨rfl, rfl, rfl, ⟨_, rfl⟩, live straps⟩
  | restart => exact ⟨rfl, rfl, rfl, ⟨_, rfl⟩, live c.lines.straps⟩

theorem HeartStands.of_fields (run : d.run = c.run) (pages : d.pages = c.pages) (restore : d.mode.restore = c.mode.restore)
    (playback : d.playback = c.playback) (clock : d.clock = c.clock) : HeartStands c d :=
  ⟨by rw [heart, heart, run, pages, restore, playback, clock]⟩

theorem emptied_heart (c : Chip) (f : Link → Link) : HeartStands c (Chip.updLinks { c with resetHeld := true } f) :=
  .of_fields rfl rfl rfl rfl rfl

/-- What an effect is, seen from the heart. -/
inductive HeartEffect (may : Special → Prop) (c d : Chip) : Prop
  | turns (t : Turns c d)
  | beat (special : may .cue ∨ may .clock) (b : Beat (heart c) (heart d))
  | page (k : PageId) (pg : Page) (other : (c.pages[k]).state ≠ .live) (unlive : pg.state ≠ .live)
      (same : heart d = { heart c with pages := c.pages.set k pg })
  | reset (e : Chip) (values : HeartReset (heart e)) (t : Turns e d)

theorem senseStop_turns (c : Chip) : Turns c c.senseStop := .ite (fun _ => tripCause_turns c _) fun _ => .refl c

theorem reset_heart (h : ResetValues c d) : HeartEffect may c d.senseStop := .reset d (resetValues_heart h) (senseStop_turns d)

theorem writeSection_heart (c : Chip) (x : LimitSection) : HeartStands c (c.writeSection x) := by
  cases x with
  | pumps es =>
    have rated : HeartStands c { c with limits := { c.limits with pumps := es } } := ⟨rfl⟩
    exact (rated.trans (.moves (b := true) (.forEach (I := anyPump) (J := anyJet) fun p _ d => changeService_moves _ p d))).trans
      (.endEvent _)
  | wind es =>
    have rated : HeartStands c
      { c with limits := { c.limits with wind := es }, sense := { c.sense with factors := windFactors es c.sense.vAvg } } := ⟨rfl⟩
    exact rated.trans (.endEvent _)
  | jets es =>
    have rated : HeartStands c { c with limits := { c.limits with jets := es } } := ⟨rfl⟩
    exact rated.trans (.endEvent _)
  | site e =>
    have rated : HeartStands c { c with limits := { c.limits with site := e } } := ⟨rfl⟩
    exact rated.trans (.endEvent _)
  | lums es =>
    have rated : HeartStands c { c with limits := { c.limits with lums := es } } := ⟨rfl⟩
    exact rated.trans (.endEvent _)

theorem checked_unlive (pg : Page) : pg.checked.state ≠ .live := by
  unfold Page.checked
  split <;> nofun

theorem effect_heart (effect : Effect may c d) : HeartEffect may c d := by
  have stands (same : HeartStands c d) : HeartEffect may c d := .turns (.stands same)
  cases effect with
  | fountain effect =>
    rcases fountainEffect_turns effect with turns | ⟨special, beat⟩
    · exact .turns turns
    · exact .beat special beat
  | page k f special other unlive => exact .page k (f c.pages[k]) other unlive rfl
  | validated k checking => exact .page k (c.pages[k]).checked (by rw [checking]; nofun) (checked_unlive _) rfl
  | writeSection x => exact .turns (.stands (writeSection_heart c x))
  | assertReset => exact .turns (.stands ((dropPower_heart c).trans (emptied_heart _ _)))
  | powerOn lines => exact reset_heart (.powerOn lines)
  | lineReset straps => exact reset_heart (.lineReset straps)
  | restart => exact reset_heart .restart
  | gainStep => exact .turns (.stands (.ite ⟨rfl⟩ (.refl c)))
  | advance | reply | owe | receive | sent | told | gain | countPeriod | protect | lines | stopLine | pulse | closeGate | switch | level
  | dusk | hydraulics => exact .turns (.stands (.of_fields rfl rfl rfl rfl rfl))

/-! ## The show record -/

theorem reset_showFits {h : Heart} (r : HeartReset h) : ShowFits h := by
  obtain ⟨run, restore, -, -, pages⟩ := r
  refine ⟨by simp [run, idleShow], fun k => iff_of_false (pages k) (by simp [run, idleShow]), ?_⟩
  simp [run, restore, idleShow]

theorem page_showFits {h : Heart} (fits : ShowFits h) {k : PageId} {pg : Page} (other : (h.pages[k]).state ≠ .live)
    (unlive : pg.state ≠ .live) : ShowFits { h with pages := h.pages.set k pg } := by
  obtain ⟨page, live, rest⟩ := fits
  refine ⟨page, fun p => ?_, rest⟩
  by_cases same : p = k
  · subst same
    rw [show (h.pages.set p pg)[p] = pg from Vector.getElem_set_self _]
    exact iff_of_false unlive fun is => other ((live p).mpr is)
  · rw [show (h.pages.set k pg)[p] = h.pages[p] from Vector.getElem_set_ne _ _ fun e => same (Fin.ext e.symm)]
    exact live p

theorem effect_showKept (effect : Effect may c d) (kept : c.showKept) : d.showKept := by
  rw [showKept_iff] at kept ⊢
  cases effect_heart effect with
  | turns t => exact t.keeps turn_showFits kept
  | beat _ b => exact beat_showFits b kept
  | page k pg other unlive same => rw [same]; exact page_showFits kept other unlive
  | reset e values t => exact t.keeps turn_showFits (reset_showFits values)

/-- Settles O53: every effect makes turns of the heart, and every turn keeps the shape of the record. -/
theorem showRecordKeepsItsShape : Obligations.ShowRecordKeepsItsShape :=
  fun _ _ kept next => step_keeps effect_showKept kept next

/-! ## The buffer and the gains -/

theorem reset_playbackFits {h : Heart} (r : HeartReset h) : PlaybackFits h.playback := by
  rw [r.playback]
  simp [PlaybackFits, silentPlayback, Playback.fill]

theorem gainsFit_of_fountain (h : c.FountainOnly d) (k : GainsFit c) : GainsFit d := by
  have periods : d.gainPeriods = c.gainPeriods := by rw [h.1]
  rw [GainsFit, h.gain, periods]
  exact k

theorem resetValues_gains (h : ResetValues c d) : GainsFit d := by
  cases h <;> simp [GainsFit, poweredChip, resetGain, Chip.lineResetValues, Chip.restartValues]

theorem reset_gains (h : ResetValues c d) : GainsFit d.senseStop := gainsFit_of_fountain (senseStop_fountain d) (resetValues_gains h)

theorem gainMoved_le {g : GainRecord} (master : g.master ≤ 256) (duck : g.duck ≤ 256) (applied : g.applied ≤ 256) :
    g.move.applied ≤ 256 := by
  have target : g.master * g.duck / 256 ≤ 256 := by
    have product := Nat.mul_le_mul master duck
    omega
  unfold GainRecord.move
  dsimp only
  split
  · omega
  · split <;> omega

theorem writeSection_gains (c : Chip) (x : LimitSection) :
    (c.writeSection x).gain = c.gain ∧ (c.writeSection x).gainPeriods = c.gainPeriods := by
  have ended (e : Chip) : e.endEvent.gain = e.gain ∧ e.endEvent.gainPeriods = e.gainPeriods :=
    ⟨(Chip.endEvent_water e).gain, by rw [(Chip.endEvent_water e).1]⟩
  cases x with
  | pumps es =>
    have served := Chip.WaterOnly.forEach (ids := List.finRange 12) (c := { c with limits := { c.limits with pumps := es } })
      fun p d => changeService_water d c.limits.pumps p
    exact ⟨(ended _).1.trans served.gain, (ended _).2.trans (by rw [served.1])⟩
  | jets es => exact ended _
  | site e => exact ended _
  | wind es => exact ended _
  | lums es => exact ended _

theorem emptied_gains (k : GainsFit c) (f : Link → Link) : GainsFit (Chip.updLinks { c with resetHeld := true } f) := k

theorem effect_gains (effect : Effect may c d) (kept : GainsFit c) : GainsFit d := by
  have whole := kept
  obtain ⟨master, duck, applied, periods⟩ := kept
  cases effect with
  | fountain effect => exact gainsFit_of_fountain (fountainEffect_fountain effect) whole
  | gain g m k a => exact ⟨m.elim id fun e => e ▸ master, k.elim id fun e => e ▸ duck, a ▸ applied, periods⟩
  | gainStep =>
    unfold Chip.gainStep
    split
    · exact ⟨master, duck, gainMoved_le master duck applied, Nat.zero_le _⟩
    · exact whole
  | countPeriod => exact ⟨master, duck, applied, Nat.min_le_left _ _⟩
  | writeSection x =>
    rw [GainsFit, (writeSection_gains c x).1, (writeSection_gains c x).2]
    exact whole
  | assertReset =>
    have dropped : GainsFit c.dropPower := gainsFit_of_fountain (Chip.dropPower_fountain c) whole
    exact emptied_gains dropped _
  | powerOn lines => exact reset_gains (c := c) (.powerOn lines)
  | lineReset straps => exact reset_gains (.lineReset straps)
  | restart => exact reset_gains .restart
  | advance | reply | owe | receive | sent | told | page | validated | protect | lines | stopLine | pulse | closeGate | switch | level
  | dusk | hydraulics => exact whole

theorem effect_audioKept (effect : Effect may c d) (kept : c.audioKept) : d.audioKept := by
  rw [audioKept_iff] at kept ⊢
  refine ⟨?_, effect_gains effect kept.2⟩
  cases effect_heart effect with
  | turns t => exact t.keeps (P := fun h => PlaybackFits h.playback) turn_playbackFits kept.1
  | beat _ b => exact beat_playbackFits b kept.1
  | page k pg other unlive same =>
    rw [show d.playback = c.playback from congrArg Heart.playback same]
    exact kept.1
  | reset e values t => exact t.keeps (P := fun h => PlaybackFits h.playback) turn_playbackFits (reset_playbackFits values)

/-! ## The clock -/

theorem reset_clockFits {h : Heart} (r : HeartReset h) : ClockFits h := by
  obtain ⟨run, -, playback, ⟨now, clock⟩, -⟩ := r
  simp [ClockFits, run, playback, clock, idleShow, silentPlayback]

theorem effect_clockFits (effect : Effect may c d) (kept : ClockFits (heart c)) : ClockFits (heart d) := by
  cases effect_heart effect with
  | turns t => exact t.keeps turn_clockFits kept
  | beat _ b => exact beat_clockFits b kept
  | page k pg other unlive same => rw [same]; exact kept
  | reset e values t => exact t.keeps turn_clockFits (reset_clockFits values)

theorem turns_value (t : Turns c d) (fits : ClockFits (heart c)) : ClockFits (heart d) ∧ d.clock.value = c.clock.value :=
  t.keeps (P := fun h => ClockFits h ∧ h.clock.value = c.clock.value)
    (fun turn ⟨fits, value⟩ => ⟨turn_clockFits turn fits, (turn_value turn fits).trans value⟩) ⟨fits, rfl⟩

/-- The show is over, or the clock has kept the value `v`. -/
def ValueStands (v : Nat) (c : Chip) : Prop := ClockFits (heart c) ∧ (c.run.cue = .idle ∨ c.clock.value = v)

/-- Where no show is set up and the clock takes no step, its value stands while a show lasts. -/
theorem effect_valueStands {v : Nat} (cue : ¬may .cue) (clock : ¬may .clock) (effect : Effect may c d) (stands : ValueStands v c) :
    ValueStands v d := by
  obtain ⟨fits, value⟩ := stands
  refine ⟨effect_clockFits effect fits, ?_⟩
  have turned {e : Chip} (t : Turns e d) (fits : ClockFits (heart e)) (value : e.run.cue = .idle ∨ e.clock.value = v) :
      d.run.cue = .idle ∨ d.clock.value = v :=
    value.imp (t.keeps (P := fun h => h.run.cue = .idle) turn_idle) (turns_value t fits).2.trans
  cases effect_heart effect with
  | turns t => exact turned t fits value
  | beat special => exact (special.elim cue clock).elim
  | page k pg other unlive same =>
    rw [show d.run = c.run from congrArg Heart.run same, show d.clock = c.clock from congrArg Heart.clock same]
    exact value
  | reset e values t => exact turned t (reset_clockFits values) (.inl (by rw [show e.run = idleShow from values.run]; rfl))

/-! ### CUE while a show lasts -/

theorem ruleCue_refuses (page : Nat) (music : Bool) (origin : Nat) (exact : Bool) (shown : c.run.cue ≠ .idle) :
    (ruleCue page music origin exact c).1 = c := by
  unfold ruleCue
  split
  · rfl
  · rfl

theorem request_heart {l : LinkId} {kind : Nat} {rule : Rule} (h : (rule c).1 = c) : HeartStands c (Chip.request l kind rule c) :=
  Chip.request_keeps (P := HeartStands c) (.refl c) (fun _ => ⟨rfl⟩) fun _ => by
    generalize rule c = x at h
    obtain ⟨d, reaction⟩ := x
    cases h
    cases reaction <;> exact ⟨rfl⟩

theorem badFrame_heart (c : Chip) (l : LinkId) (kind : Nat) : HeartStands c (c.badFrame l kind) := .ite (.refl c) ⟨rfl⟩

theorem cueFrame_heart {kind : Byte} (is_cue : kind.toNat = 7) (l : LinkId) (payload : List Byte) (crc : BitVec 16)
    (shown : c.run.cue ≠ .idle) : HeartStands c (c.frameEnd l kind payload crc) := by
  have hunting : HeartStands c (c.setReceive l .hunt false) := ⟨rfl⟩
  refine .ite (.refl c) (.ite ((badFrame_heart c l _).trans ⟨rfl⟩) (.ite ?_ (hunting.trans (badFrame_heart _ l _))))
  rw [is_cue]
  exact hunting.trans (request_heart (ruleCue_refuses _ _ _ _ shown))

theorem kindMakes_cue {kind : Nat} (cue : kindMakes kind .cue) : kind = 7 := by
  unfold kindMakes at cue
  split at cue <;> first | rfl | cases cue

theorem cueing_heart {i : Instr} {s t : State} (cue : mayMake i .cue) (next : exec i s = .next t) (shown : s.chip.run.cue ≠ .idle) :
    HeartStands s.chip t.chip := by
  cases i with
  | cue l page music origin =>
    cases next
    exact request_heart (ruleCue_refuses _ _ _ _ shown)
  | frameReceived l kind payload crc =>
    cases next
    exact Chip.event_keeps (P := HeartStands s.chip) (.refl _) fun _ => cueFrame_heart (kindMakes_cue cue) l payload crc shown
  | powerOnReset | lineResetRelease | audioFramePeriod | showClockTick => cases cue
  | _ =>
    obtain ⟨_, _, _, frame, makes⟩ := cue
    cases frame
    all_goals cases makes

/-! ### The steps of the clock -/

/-- The clock has not gone back, and has gone on only if it runs. -/
def Advances (c d : Chip) : Prop := c.clock.value ≤ d.clock.value ∧ (c.clock.value < d.clock.value → c.clock.running = true)

theorem Advances.of_eq (same : d.clock.value = c.clock.value) : Advances c d := ⟨same.ge, fun less => absurd same less.ne'⟩

theorem Advances.kept {e : Chip} (h : Advances c d) (same : e.clock.value = d.clock.value) : Advances c e :=
  ⟨h.1.trans same.ge, fun less => h.2 (less.trans_eq same)⟩

theorem musicFramed_value (a : Playback) (k : ShowClock) (now : Nat) :
    (musicFramed a k now).2.value = (clockFollowed (framePlayed a) k).value := (frameTested_clock _ _ now).2

theorem framePlayed_position (a : Playback) : a.p ≤ (framePlayed a).p ∧ (framePlayed a).p0 = a.p0 := by
  unfold framePlayed
  split <;> exact ⟨by simp, rfl⟩

theorem framePeriod_advances (fits : ClockFits (heart c)) : Advances c c.framePeriod := by
  have clock : c.framePeriod.clock = (musicFramed c.playback c.clock c.now).2 := congrArg Heart.clock (framePeriod_heart c)
  obtain ⟨-, -, value⟩ := clockFollowed_eq (framePlayed c.playback) c.clock
  rw [Advances, clock, musicFramed_value, value]
  split
  next follows =>
    obtain ⟨audio, runs⟩ := follows
    obtain ⟨running, -, -, -, -, source⟩ := fits
    have shown : (heart c).run.cue ≠ .idle := by
      have is := running.mp runs
      rcases is with is | is | is <;> rw [is] <;> nofun
    have value : c.clock.value = positionValue c.playback := ((sourceFits_audio audio).mp (source shown)).1
    obtain ⟨later, start⟩ := framePlayed_position c.playback
    refine ⟨?_, fun _ => runs⟩
    rw [value, positionValue, positionValue, start]
    exact min_le_min_left _ (Nat.div_le_div_right (Nat.sub_le_sub_right later _))
  next => exact ⟨le_refl _, fun less => absurd less (lt_irrefl _)⟩

/-- The steps that a new value of the clock lets run, and the tests that follow them, keep the value. -/
theorem took_value {before d : Chip} (fits : ClockFits (heart d)) : (Chip.settle before d.clockTook).clock.value = d.clock.value :=
  (turns_value ((clockTook_turns d).trans (settle_turns before _)) fits).2

theorem takePeriod_heart (c : Chip) : HeartStands c c.takePeriod := by
  unfold Chip.takePeriod
  split <;> exact ⟨rfl⟩

theorem audioPeriod_advances (fits : ClockFits (heart c)) : Advances c c.audioPeriod := by
  have counted := (takePeriod_heart c).same
  have clock : c.takePeriod.clock = c.clock := congrArg Heart.clock counted
  have fits' : ClockFits (heart c.takePeriod) := counted ▸ fits
  have played := framePeriod_advances fits'
  have played_fits : ClockFits (heart c.takePeriod.framePeriod) := by
    rw [framePeriod_heart]
    exact frame_clockFits _ fits'
  rw [Advances, clock] at played
  unfold Chip.audioPeriod
  dsimp only
  split
  · exact played
  · exact Advances.kept played (took_value played_fits)

theorem localTick_advances (fits : ClockFits (heart c)) : Advances c c.localTick := by
  unfold Chip.localTick
  split
  next runs =>
    obtain ⟨running, source⟩ := runs
    have ticked : ClockFits (heart (clockTicked (c.reach (c.clock.stamp + 1)) (c.clock.stamp + 1))) :=
      beat_clockFits (.tick (heart (c.reach (c.clock.stamp + 1))) _ running source) fits
    have later : Advances c (clockTicked (c.reach (c.clock.stamp + 1)) (c.clock.stamp + 1)) :=
      ⟨Nat.le_min.mpr ⟨fits.2.1, Nat.le_succ _⟩, fun _ => running⟩
    change Advances c (if (clockTicked (c.reach (c.clock.stamp + 1)) (c.clock.stamp + 1)).clock.value = c.clock.value then
      clockTicked (c.reach (c.clock.stamp + 1)) (c.clock.stamp + 1)
      else c.settle (clockTicked (c.reach (c.clock.stamp + 1)) (c.clock.stamp + 1)).clockTook)
    split
    · exact later
    · exact later.kept (took_value ticked)
  next => exact .of_eq rfl

theorem clocking_advances {i : Instr} {s t : State} (clock : mayMake i .clock) (next : exec i s = .next t)
    (fits : ClockFits (heart s.chip)) : Advances s.chip t.chip := by
  cases i with
  | audioFramePeriod =>
    cases next
    exact Chip.event_keeps (P := Advances s.chip) (.of_eq rfl) fun _ => audioPeriod_advances fits
  | showClockTick =>
    cases next
    exact Chip.event_keeps (P := Advances s.chip) (.of_eq rfl) fun _ => localTick_advances fits
  | frameReceived l kind payload crc =>
    exfalso
    change kindMakes _ _ at clock
    unfold kindMakes at clock
    split at clock <;> cases clock
  | powerOnReset | lineResetRelease => cases clock
  | _ =>
    obtain ⟨_, _, _, frame, makes⟩ := clock
    cases frame
    all_goals cases makes

/-- While a show lasts, a command does not put the clock back, and takes it on only while it runs. -/
theorem exec_advances {i : Instr} {s t : State} (next : exec i s = .next t) (fits : ClockFits (heart s.chip))
    (shown : s.chip.run.cue ≠ .idle) (lasts : t.chip.run.cue ≠ .idle) : Advances s.chip t.chip := by
  by_cases cue : mayMake i .cue
  · exact .of_eq (congrArg (fun h : Heart => h.clock.value) (cueing_heart cue next shown).same)
  by_cases clock : mayMake i .clock
  · exact clocking_advances clock next fits
  have stands : ValueStands s.chip.clock.value t.chip :=
    (exec_effects next).keeps (effect_valueStands cue clock) ⟨fits, .inr rfl⟩
  exact .of_eq (stands.2.resolve_left lasts)

theorem step_advances {s t : State} (next : step s = .next t) (fits : ClockFits (heart s.chip)) (shown : s.chip.run.cue ≠ .idle)
    (lasts : t.chip.run.cue ≠ .idle) : Advances s.chip t.chip := by
  unfold step at next
  split at next
  · cases next
    rcases State.idle_cases s with ⟨-, e⟩ | ⟨-, group, -, e⟩ <;> rw [e] <;> exact .of_eq rfl
  next i rest _ => exact exec_advances (s := ⟨s.chip, rest⟩) next fits shown lasts

/-- Settles O57: every effect makes turns of the heart, which keep the buffer and the clock, or is a beat of the clock; and the value
goes on only by a beat, which a running show alone has. -/
theorem theClockFollowsTheMusic : Obligations.TheClockFollowsTheMusic := by
  refine ⟨fun _ _ kept next => step_keeps effect_audioKept kept next, fun s t _ kept next => ?_⟩
  have fits := (clockKept_iff _).mp kept
  refine ⟨step_keeps (P := Chip.clockKept) effect_clockFits kept next, fun shown lasts => ?_⟩
  obtain ⟨later, runs⟩ := step_advances next fits shown lasts
  exact ⟨later, fun less => fits.1.mp (runs less)⟩

end Sys2Proof.Proofs.ShowHeart


/-! PROOF. Every step keeps the replies, the notices and the roles of the links in their bounds (O56). -/

namespace Sys2Proof.Proofs.LinksKept

open Sys2Proof Sys2Proof.Machine Sys2Proof.Proofs.StepEffects Sys2Proof.Proofs.Water Sys2Proof.Proofs.FountainMoves
  Sys2Proof.Proofs.RequestEffects

variable {may : Special → Prop} {c d : Chip}

/-! ## One link -/

/-- A link's queue, its owed reply, its notices and its receive state are in bounds (R172, R173). -/
structure LinkFits (k : Link) : Prop where
  replies : k.replies.length ≤ 5
  owing : k.owed ≠ none → k.replies.length ≤ 4
  owed : k.owed = none ∨ k.owed = some kindPageClose
  once : k.notices.Nodup
  receive : k.discarding = true → k.receive = .receiving

/-- No two links share a role but OBSERVER (R170). -/
def RolesApart (c : Chip) : Prop := ∀ l m : LinkId, (c.links[l]).role = (c.links[m]).role → (c.links[l]).role = .observer ∨ l = m

theorem linksKept_iff : c.linksKept ↔ (∀ l : LinkId, LinkFits c.links[l]) ∧ RolesApart c :=
  ⟨fun ⟨each, roles⟩ => ⟨fun l => let ⟨replies, owing, owed, once, receive⟩ := each l; ⟨replies, owing, owed, once, receive⟩, roles⟩,
    fun ⟨each, roles⟩ => ⟨fun l => let ⟨replies, owing, owed, once, receive⟩ := each l; ⟨replies, owing, owed, once, receive⟩, roles⟩⟩

theorem noted_fits {notices : List Notice} {k m : Link} (h : LinkNoted notices k m) (fits : LinkFits k) : LinkFits m := by
  obtain ⟨replies, owing, owed, once, receive⟩ := fits
  have once' := h.once once
  rw [h.rest]
  exact ⟨replies, owing, owed, once', receive⟩

/-- A link with room for a reply may take one, and may owe one. -/
theorem replied_fits {k : Link} (fits : LinkFits k) (room : k.replies.length < 4) (r : Reply) :
    LinkFits { k with replies := k.replies ++ [r] } := by
  obtain ⟨-, -, owed, once, receive⟩ := fits
  have length : (k.replies ++ [r]).length = k.replies.length + 1 := List.length_append
  exact ⟨by rw [length]; omega, fun _ => by rw [length]; omega, owed, once, receive⟩

theorem owing_fits {k : Link} (fits : LinkFits k) (room : k.replies.length < 4) : LinkFits { k with owed := some kindPageClose } := by
  obtain ⟨replies, -, -, once, receive⟩ := fits
  exact ⟨replies, fun _ => room.le, .inr rfl, once, receive⟩

theorem sent_fits {k : Link} (fits : LinkFits k) {r : Reply} {rest out : List Reply} (oldest : k.replies = r :: rest) :
    LinkFits { k with replies := rest, sent := out } := by
  obtain ⟨replies, owing, owed, once, receive⟩ := fits
  have shorter : rest.length ≤ k.replies.length := by rw [oldest]; exact Nat.le_succ _
  exact ⟨shorter.trans replies, fun owes => shorter.trans (owing owes), owed, once, receive⟩

theorem answerClose_fits {k : Link} (fits : LinkFits k) (pg : Page) : LinkFits (k.answerClose pg) := by
  have whole := fits
  obtain ⟨-, owing, -, once, receive⟩ := fits
  unfold Link.answerClose
  split
  next owes =>
    have few := owing (by rw [owes]; nofun)
    exact ⟨by simpa using Nat.lt_succ_of_le few, fun none_owed => absurd rfl none_owed, .inl rfl, once, receive⟩
  next => exact whole

theorem answerClose_role (k : Link) (pg : Page) : (k.answerClose pg).role = k.role := by
  unfold Link.answerClose
  split <;> rfl

theorem resetLink_fits (role : Role) (fast : Bool) (out : List Reply) : LinkFits { resetLink role fast with sent := out } :=
  ⟨Nat.zero_le _, fun owes => absurd rfl owes, .inl rfl, List.nodup_nil, nofun⟩

/-! ## The roles of the straps (R170) -/

/-- The links that keep a role which is not OBSERVER are apart: each is the lowest that selects it. -/
theorem resolveRole_apart (straps : Vector StrapPins 3) (l m : LinkId) (same : resolveRole straps l = resolveRole straps m) :
    resolveRole straps l = .observer ∨ l = m := by
  have lowest (k : LinkId) (kept : resolveRole straps k ≠ .observer) :
      resolveRole straps k = strapSelects straps[k] ∧ ∀ n : LinkId, n < k → strapSelects straps[n] ≠ strapSelects straps[k] := by
    unfold resolveRole at kept ⊢
    dsimp only at kept ⊢
    split at kept
    · exact absurd rfl kept
    next first =>
      rw [if_neg first]
      refine ⟨rfl, fun n less selects => first ?_⟩
      simp only [List.any_eq_true, List.mem_finRange, true_and, Bool.and_eq_true, decide_eq_true_eq]
      exact ⟨n, less, selects⟩
  refine or_iff_not_imp_left.mpr fun kept => ?_
  obtain ⟨role_l, first_l⟩ := lowest l kept
  obtain ⟨role_m, first_m⟩ := lowest m (same ▸ kept)
  have selects : strapSelects straps[l] = strapSelects straps[m] := by rw [← role_l, ← role_m, same]
  rcases lt_trichotomy l m with less | is | less
  · exact absurd selects (first_m l less)
  · exact is
  · exact absurd selects.symm (first_l m less)

theorem strapLinks_link (straps : Vector StrapPins 3) (l : LinkId) :
    (strapLinks straps)[l] = resetLink (resolveRole straps l) (straps[l]).fast := Vector.getElem_ofFn _

theorem strapLinks_kept (h : d.links = strapLinks straps) : d.linksKept := by
  refine linksKept_iff.mpr ⟨fun l => ?_, fun l m same => ?_⟩
  · rw [h, strapLinks_link]
    exact resetLink_fits _ _ []
  · rw [h, strapLinks_link, strapLinks_link] at same
    rw [h, strapLinks_link]
    exact resolveRole_apart straps l m same

/-! ## The effects -/

/-- Every link of `d` is in bounds where it was in `c`, and has its role. -/
def LinksFollow (c d : Chip) : Prop :=
  ∀ l : LinkId, (LinkFits c.links[l] → LinkFits d.links[l]) ∧ (d.links[l]).role = (c.links[l]).role

theorem linksFollow_kept (h : LinksFollow c d) (kept : c.linksKept) : d.linksKept := by
  rw [linksKept_iff] at kept ⊢
  obtain ⟨each, roles⟩ := kept
  refine ⟨fun l => (h l).1 (each l), fun l m same => ?_⟩
  rw [(h l).2, (h m).2] at same
  rw [(h l).2]
  exact roles l m same

theorem LinksFollow.of_links (h : d.links = c.links) : LinksFollow c d := fun l => by
  rw [h]
  exact ⟨id, rfl⟩

theorem LinksFollow.of_noted {notices : List Notice} (h : Noted notices c d) : LinksFollow c d := fun l =>
  ⟨noted_fits (h l), by rw [(h l).rest]⟩

theorem LinksFollow.updLink (l : LinkId) {f : Link → Link} (fits : LinkFits c.links[l] → LinkFits (f c.links[l]))
    (role : (f c.links[l]).role = (c.links[l]).role) : LinksFollow c (c.updLink l f) := fun m => by
  rw [show (c.updLink l f).links[m] = if m = l then f c.links[l] else c.links[m] from Chip.updLink_link c l m f]
  split
  next same => subst same; exact ⟨fits, role⟩
  next => exact ⟨id, rfl⟩

theorem LinksFollow.updLinks {f : Link → Link} (fits : ∀ k, LinkFits k → LinkFits (f k)) (role : ∀ k, (f k).role = k.role) :
    LinksFollow c (c.updLinks f) := fun l => by
  rw [show (c.updLinks f).links[l] = f c.links[l] from Chip.updLinks_link c l f]
  exact ⟨fits _, role _⟩

theorem LinksFollow.trans {e : Chip} (h : LinksFollow c d) (k : LinksFollow d e) : LinksFollow c e := fun l =>
  ⟨fun fits => (k l).1 ((h l).1 fits), (k l).2.trans (h l).2⟩

theorem senseStop_follow (c : Chip) : LinksFollow c c.senseStop := .of_noted (moves_noted (b := false) (senseStop_moves c))

theorem restart_follow (c : Chip) : LinksFollow c c.restartValues := fun l => by
  rw [show c.restartValues.links[l] = (c.links[l]).afterRestart from Vector.getElem_ofFn _]
  exact ⟨fun _ => resetLink_fits _ _ _, rfl⟩

theorem writeSection_follow (c : Chip) (x : LimitSection) : LinksFollow c (c.writeSection x) := by
  have ended {d : Chip} (same : d.links = c.links) : LinksFollow c d.endEvent :=
    .trans (.of_links same) (.of_noted (waterMoves_noted (b := false) (J := anyJet) (I := anyPump) (endEvent_moves (.refl d))))
  cases x with
  | pumps es =>
    have served := endEvent_moves (b := false) (J := anyJet) (I := anyPump) (.forEach (ids := List.finRange 12)
      (c := { c with limits := { c.limits with pumps := es } }) fun p _ d => changeService_moves c.limits.pumps p d)
    have rated : LinksFollow c { c with limits := { c.limits with pumps := es } } := .of_links rfl
    exact rated.trans (.of_noted (waterMoves_noted served))
  | jets es => exact ended rfl
  | site e => exact ended rfl
  | wind es => exact ended rfl
  | lums es => exact ended rfl

/-- A link that loses its frame, its owed reply and all that waits. -/
theorem emptied_follow (c : Chip) : LinksFollow c (Chip.updLinks { c with resetHeld := true } fun k =>
    { k with receive := .hunt, discarding := false, owed := none, replies := [], notices := [] }) := by
  have emptied (k : Link) : LinkFits { k with receive := .hunt, discarding := false, owed := none, replies := [], notices := [] } :=
    ⟨Nat.zero_le _, fun owes => absurd rfl owes, .inl rfl, List.nodup_nil, nofun⟩
  have held : LinksFollow c { c with resetHeld := true } := .of_links rfl
  exact held.trans (.updLinks (fun k _ => emptied k) fun _ => rfl)

theorem effect_linksKept (effect : Effect may c d) (kept : c.linksKept) : d.linksKept := by
  cases effect with
  | powerOn lines =>
    have reset : (poweredChip lines (strapLinks lines.straps)).linksKept := strapLinks_kept rfl
    exact linksFollow_kept (senseStop_follow _) reset
  | lineReset straps =>
    have reset : (c.lineResetValues straps).linksKept := strapLinks_kept rfl
    exact linksFollow_kept (senseStop_follow _) reset
  | restart => exact linksFollow_kept ((restart_follow c).trans (senseStop_follow _)) kept
  | fountain effect => exact linksFollow_kept (.of_noted (moves_noted (fountainEffect_moves effect))) kept
  | reply l kind code data room =>
    exact linksFollow_kept (.updLink l (fun fits => replied_fits fits room ⟨kind, code, data⟩) rfl) kept
  | owe l room => exact linksFollow_kept (.updLink l (fun fits => owing_fits fits room) rfl) kept
  | receive l state discarding receiving =>
    exact linksFollow_kept (.updLink l (fun ⟨replies, owing, owed, once, _⟩ => ⟨replies, owing, owed, once, receiving⟩) rfl) kept
  | sent l r rest oldest => exact linksFollow_kept (.updLink l (fun fits => sent_fits fits oldest) rfl) kept
  | told l =>
    exact linksFollow_kept (.updLink l (fun ⟨replies, owing, owed, _, receive⟩ => ⟨replies, owing, owed, List.nodup_nil, receive⟩) rfl) kept
  | validated k =>
    have answered : LinksFollow c ((c.updPage k fun _ => (c.pages[k]).checked).updLinks fun l => l.answerClose (c.pages[k]).checked) :=
      .trans (.of_links rfl) (.updLinks (fun _ fits => answerClose_fits fits _) fun _ => answerClose_role _ _)
    exact linksFollow_kept (answered.trans (.of_noted (.notify (may := everyNotice) (by decide) _))) kept
  | assertReset =>
    have dropped : LinksFollow c c.dropPower := .of_noted (moves_noted (b := false) (dropPower_moves c))
    exact linksFollow_kept (dropped.trans (emptied_follow _)) kept
  | writeSection x => exact linksFollow_kept (writeSection_follow c x) kept
  | gainStep => exact linksFollow_kept (by unfold Chip.gainStep; split <;> exact .of_links rfl) kept
  | page | gain | countPeriod | protect | advance | hydraulics | lines | stopLine | pulse | closeGate | switch | level | dusk =>
    exact linksFollow_kept (.of_links rfl) kept

/-- Settles O56: every effect leaves each link in bounds and its role as it stands, or resets the links. -/
theorem linksStayInBounds : Obligations.LinksStayInBounds :=
  fun _ _ kept next => step_keeps effect_linksKept kept next

end Sys2Proof.Proofs.LinksKept


/-! PROOF. No operation but a trip enters TRIPPED (R155 to R168). -/

namespace Sys2Proof.Proofs.Tripped

open Sys2Proof Sys2Proof.Machine Sys2Proof.Proofs.StepEffects Sys2Proof.Proofs.Water Sys2Proof.Proofs.FountainMoves
  Sys2Proof.Proofs.RequestEffects

variable {may : Special → Prop} {c d : Chip}

/-- From `c` to `d` the mode has stood, or is now another than TRIPPED. -/
def Untripped (c d : Chip) : Prop := d.mode.mode = c.mode.mode ∨ d.mode.mode ≠ .tripped

namespace Untripped

variable {e : Chip}

theorem of_mode (h : d.mode.mode = c.mode.mode) : Untripped c d := .inl h
theorem refl (c : Chip) : Untripped c c := of_mode rfl
theorem trans (h : Untripped c d) (k : Untripped d e) : Untripped c e := by
  rcases k with same | other
  · rw [Untripped, same]; exact h
  · exact .inr other
theorem water (h : c.WaterOnly d) : Untripped c d := of_mode (by rw [h.mode])
theorem lamps (h : c.LampsOnly d) : Untripped c d := of_mode (by rw [h.mode])
theorem audio (h : c.AudioOnly d) : Untripped c d := of_mode (by rw [h.mode])
theorem moves {J : JetId → Prop} {I : PumpId → Prop} {b : Bool} (h : WaterMoves J I b c d) : Untripped c d :=
  water (waterMoves_water h)
theorem ite {p : Prop} [Decidable p] (h : p → Untripped c d) (k : ¬p → Untripped c e) : Untripped c (if p then d else e) := by
  split
  next yes => exact h yes
  next no => exact k no
theorem notify (c : Chip) (n : Notice) : Untripped c (c.notify n) := of_mode rfl
theorem endEvent (c : Chip) : Untripped c c.endEvent := water (Chip.endEvent_water c)

/-- A mode that is not TRIPPED stays another. -/
theorem ne (h : Untripped c d) (other : c.mode.mode ≠ .tripped) : d.mode.mode ≠ .tripped := by
  rcases h with same | now
  · rw [same]; exact other
  · exact now

end Untripped

section Operations

variable (c : Chip)

/-! ## Power, flushes and modes -/

theorem recaused_untripped (m : ModeRecord) (mode : m.mode = c.mode.mode) : Untripped c (Chip.recauseJets { c with mode := m }) := by
  have recorded : Untripped c { c with mode := m } := .of_mode mode
  exact recorded.trans (.water (Chip.recauseJets_water _))

theorem raisePower_untripped : Untripped c c.raisePower := .ite (fun _ => recaused_untripped c _ rfl) fun _ => .refl c
theorem dropPower_untripped : Untripped c c.dropPower := recaused_untripped c _ rfl
theorem powerOn_untripped : Untripped c c.powerOn := recaused_untripped c _ rfl
theorem testPower_untripped : Untripped c c.testPower := .ite (fun _ => dropPower_untripped c) fun _ => .refl c

theorem circ_untripped (r : Circulation) : Untripped c { c with circ := r } := .of_mode rfl

theorem beginFlush_untripped (mode : FlushMode) (z : ZoneId) : Untripped c (c.beginFlush mode z) := by
  unfold Chip.beginFlush
  extract_lets f _ d₁ d₂ _ d₃
  have taken : Untripped c d₁ := circ_untripped c _
  have wet : Untripped c d₂ := (taken.trans (.water (Chip.demandWrites_water _ _ _ _))).trans (.endEvent _)
  have told : Untripped c d₃ := wet.trans (.of_mode rfl)
  exact .ite (fun _ => told.trans (raisePower_untripped d₃)) fun _ => told

theorem testFlush_untripped : Untripped c c.testFlush := by
  unfold Chip.testFlush
  extract_lets z
  exact .ite (fun _ => (circ_untripped c _).trans (beginFlush_untripped _ .single z)) fun _ => .refl c

theorem releaseStarted_untripped (started : Vector Bool 12) : Untripped c (c.releaseStarted started) :=
  .water (Chip.releaseStarted_water c started)

theorem dropFlush_untripped : Untripped c c.dropFlush := .of_mode rfl

theorem closeFlush_untripped (f : Flush) : Untripped c (c.closeFlush f) := by
  have released := (Untripped.water (Chip.releaseJets_water c)).trans (releaseStarted_untripped _ f.started)
  exact (released.trans (dropFlush_untripped _)).trans (.endEvent _)

theorem paid_untripped (f : Flush) : Untripped c (if f.counts then c.payDebt.advancePointer f.zone else c) :=
  .ite (fun _ => (circ_untripped c _).trans (circ_untripped _ _)) fun _ => .refl c

theorem cutFlush_untripped : Untripped c c.cutFlush := by
  unfold Chip.cutFlush
  split
  · exact .refl c
  next f _ => exact ((paid_untripped c f).trans (releaseStarted_untripped _ f.started)).trans (dropFlush_untripped _)

theorem zoneDone_untripped (f : Flush) : Untripped c (c.zoneDone f) := by
  unfold Chip.zoneDone
  split
  · extract_lets g d₁ _ d₂
    have released : Untripped c d₁ := .water (Chip.releaseJets_water c)
    have moved : Untripped c d₂ := released.trans (circ_untripped d₁ _)
    exact ((moved.trans (.water (Chip.demandWrites_water _ _ _ _))).trans (releaseStarted_untripped _ f.started)).trans (.endEvent _)
  · exact (closeFlush_untripped c f).trans (circ_untripped _ _)

theorem endFlush_untripped (f : Flush) : Untripped c (c.endFlush f) :=
  ((closeFlush_untripped c f).trans (circ_untripped _ _)).trans (circ_untripped _ _)

theorem stallFlush_untripped (f : Flush) : Untripped c (c.stallFlush f) := by
  have closed := closeFlush_untripped c f
  exact .trans (.ite (p := f.mode = .single) (fun _ => closed.trans (circ_untripped _ _)) fun _ => closed) (.notify _ _)

theorem periodExpiry_untripped : Untripped c c.periodExpiry := by
  unfold Chip.periodExpiry
  extract_lets _ d
  have counted : Untripped c d := circ_untripped c _
  exact .ite (fun _ => counted.trans (.notify d _)) fun _ => counted

theorem toMode_untripped {m : FountainMode} (other : m ≠ .tripped) : Untripped c (c.toMode m) :=
  .ite (fun _ => .refl c) fun _ => .inr other

theorem wakeTo_untripped (w : WakeTo) : Untripped c (c.toMode w.mode) := toMode_untripped c (by cases w <;> nofun)

theorem beginWake_untripped (w : WakeTo) : Untripped c (c.beginWake w) := by
  have raised : Untripped c
      (Chip.toMode { c.raisePower with mode := { c.raisePower.mode with wake := some w } } .settling) :=
    (raisePower_untripped c).trans (.trans (.of_mode rfl) (toMode_untripped _ nofun))
  unfold Chip.beginWake
  split
  exacts [raised, raised, wakeTo_untripped c w]

theorem endWake_untripped : Untripped c c.endWake := by
  unfold Chip.endWake
  split
  next w _ _ =>
    have woken : Untripped c { c with mode := { c.mode with wake := none } } := .of_mode rfl
    exact woken.trans (wakeTo_untripped _ w)
  · exact .refl c

theorem intentStops_untripped : Untripped c (c.forEach (List.finRange 12) fun p c => c.intentStop p) :=
  .water (.forEach fun p d => Chip.intentStop_water d p)

theorem enterDormant_untripped : Untripped c c.enterDormant := by
  unfold Chip.enterDormant
  extract_lets d₁ _ d₂ d₃
  have dormant : Untripped c d₁ := toMode_untripped c (m := .dormant) nofun
  have still : Untripped c d₂ := dormant.trans (.of_mode rfl)
  exact ((still.trans (intentStops_untripped d₂)).trans (testPower_untripped d₃)).trans (.lamps (Chip.zeroFrame_lamps _))

theorem testDormancy_untripped (before : Chip) : Untripped c (Chip.testDormancy before c) :=
  .ite (fun _ => .of_mode rfl) fun _ => .ite (fun _ => .refl c) fun _ => .of_mode rfl

/-! ## The show -/

theorem image_mode (m : ShowImage) : Chip.mode { c with image := m } = c.mode := rfl
theorem run_mode (r : ShowRecord) : Chip.mode { c with run := r } = c.mode := rfl

theorem setCounter_mode (n v : Nat) : (c.setCounter n v).mode = c.mode := by
  unfold Chip.setCounter
  split
  · exact run_mode c _
  · rfl

theorem stepImage_mode (raw : RawStep) (due : Nat) : (c.stepImage raw due).mode = c.mode := by
  unfold Chip.stepImage
  split
  · exact image_mode c _
  · exact image_mode c _
  · exact image_mode c _
  · split
    · exact image_mode c _
    · rfl
  · exact (Chip.fadeShow_lamps c _ _ _ _ _).mode
  · exact setCounter_mode c _ _
  · exact setCounter_mode c _ _
  all_goals rfl

theorem expireBursts_untripped : Untripped c c.expireBursts := by
  have imaged (m : ShowImage) : Untripped c { c with image := m } := .of_mode rfl
  exact (imaged _).trans (.water (Chip.expireJetBursts_water _))

theorem stepWater_untripped (raw : RawStep) (due : Nat) : Untripped c (c.stepWater raw due) := by
  unfold Chip.stepWater
  split
  · exact (Untripped.water (Chip.demandWrites_water c _ _ _)).trans (.endEvent _)
  · extract_lets finish d
    have written : Untripped c d := .water (.forEach fun j d => Chip.demandWrite_water d _ _ _ j)
    exact .trans (.ite (fun _ => written.trans (expireBursts_untripped d)) fun _ => written) (.endEvent _)
  · exact (Untripped.moves (b := false) (cutJets_water c _)).trans (.endEvent _)
  · split
    · exact .trans (.moves (b := true) (.forEach (I := anyPump) (J := anyJet) fun _ _ _ => drive_moves trivial _)) (.endEvent _)
    · exact .refl c
  all_goals exact .refl c

theorem stepEffect_untripped (raw : RawStep) (due : Nat) : Untripped c (c.stepEffect raw due) :=
  .trans (.of_mode (by rw [stepImage_mode])) (stepWater_untripped _ raw due)

theorem enterEnding_untripped (fade origin : Nat) : Untripped c (c.enterEnding fade origin) := by
  rw [enterEnding_eq]
  have faded : Untripped c (c.fadeOut origin fade) := .lamps (Chip.fadeOut_lamps c origin fade)
  have recorded : Untripped c (endingRecorded (c.fadeOut origin fade)) := faded.trans (.of_mode rfl)
  exact ((recorded.trans (.moves (shutDown_moves (b := false) _))).trans (.audio (Chip.endAudio_audio _))).trans (.notify _ _)

theorem executeMain_untripped (i : StepIndex) (due : Nat) : Untripped c (c.executeMain i due) := by
  have acted : Untripped c (if c.stepActs (c.stepAt i) then c.stepEffect (c.stepAt i) due else c) :=
    .ite (fun _ => stepEffect_untripped c _ due) fun _ => .refl c
  unfold Chip.executeMain
  dsimp only
  split
  exacts [acted.trans (.of_mode rfl), acted.trans (enterEnding_untripped _ _ _), acted]

theorem catchUpStep_untripped (w : Written) (i : StepIndex) (due : Nat) : Untripped c (c.catchUpStep w i due).1 := by
  have imaged : Untripped c
      (if c.stepActs (c.stepAt i) && !c.burstSpent (c.stepAt i) due then c.stepImage (c.stepAt i) due else c) :=
    .ite (fun _ => .of_mode (by rw [stepImage_mode])) fun _ => .refl c
  unfold Chip.catchUpStep
  dsimp only
  split
  exacts [imaged.trans (.of_mode rfl), imaged.trans (enterEnding_untripped _ _ _), imaged]

theorem catchUpRun_untripped (fuel : Nat) (w : Written) : Untripped c (Chip.catchUpRun fuel c w).1 := by
  induction fuel generalizing c w with
  | zero => exact .refl c
  | succ n ih =>
    unfold Chip.catchUpRun
    split
    · split
      · exact (catchUpStep_untripped c w _ _).trans (ih _ _)
      · exact .refl c
    · exact .refl c

theorem catchUp_untripped : Untripped c c.catchUp := by
  unfold Chip.catchUp
  extract_lets x
  have ran : Untripped c x.1 := catchUpRun_untripped c _ _
  exact .ite (fun _ => ran) fun _ => ran.trans (.water (Chip.handOver_water _ _))

theorem executeHold_untripped (i : StepIndex) (due : Nat) : Untripped c (c.executeHold i due) := by
  have acted : Untripped c (if c.stepActs (c.stepAt i) then c.stepEffect (c.stepAt i) due else c) :=
    .ite (fun _ => stepEffect_untripped c _ due) fun _ => .refl c
  unfold Chip.executeHold
  dsimp only
  split
  · exact acted.trans (.of_mode rfl)
  · exact acted.trans (enterEnding_untripped _ _ _)
  · unfold Chip.endHold
    exact acted.trans (.trans (.of_mode rfl) (catchUp_untripped _))

theorem runSteps_untripped : Untripped c c.runSteps :=
  Chip.runCursors_keeps (P := Untripped c) _ _ (fun _ _ _ stands _ _ _ _ => stands.trans (executeMain_untripped _ _ _))
    (fun _ _ _ stands _ _ _ _ => stands.trans (executeHold_untripped _ _ _)) (.refl c)

theorem clockTook_untripped : Untripped c c.clockTook :=
  .ite (fun _ => (expireBursts_untripped c).trans (runSteps_untripped _)) fun _ => .refl c

theorem gustToShow_untripped : Untripped c c.gustToShow := by
  unfold Chip.gustToShow
  split
  next i _ _ =>
    unfold Chip.holdSwap
    refine .trans ?_ (runSteps_untripped _)
    exact .of_mode rfl
  · exact .refl c

/-! ## The requests of the show and of the panel -/

theorem releasePage_mode : c.releasePage.mode = c.mode := by
  unfold Chip.releasePage
  split <;> rfl

theorem closeShow_mode : c.closeShow.mode = c.mode := by
  unfold Chip.closeShow
  rw [Chip.notify_mode]
  exact releasePage_mode c

theorem cueShow_untripped (k : PageId) (i : StepIndex) (music : Bool) (origin : Nat) : Untripped c (c.cueShow k i music origin) := by
  unfold Chip.cueShow
  extract_lets d₁ _ d₂ _ d₃ d₄
  have cued : Untripped c d₄ := .of_mode rfl
  exact .ite (fun _ => cued.trans (beginWake_untripped d₄ _)) fun _ => cued

theorem uncue_untripped : Untripped c c.uncue := by
  have closed : Untripped c c.closeShow := .of_mode (by rw [closeShow_mode])
  exact closed.trans (.of_mode rfl)

theorem startShow_untripped : Untripped c c.startShow := by
  unfold Chip.startShow
  extract_lets d₁ _ _ d₂ d₃ d₄
  have shown : Untripped c d₁ := toMode_untripped c (m := .showMode) nofun
  have begun : Untripped c d₂ := shown.trans (.of_mode rfl)
  have shut : Untripped c d₃ := begun.trans (.water (Chip.demandWrites_water d₂ _ _ _))
  have stopped : Untripped c d₄ :=
    shut.trans (.moves (b := true) (.forEach (I := anyPump) (J := anyJet) fun _ _ _ => handDrive_moves trivial _ _ _))
  exact (((stopped.trans (cutFlush_untripped d₄)).trans (.endEvent _)).trans (.audio (Chip.startAudio_audio _))).trans
    (clockTook_untripped _)

theorem resumed_untripped : Untripped c c.startClock.resumeAudio :=
  .audio ((Chip.startClock_audio c).trans (Chip.resumeAudio_audio _))

theorem continueShow_untripped : Untripped c c.continueShow := by
  unfold Chip.continueShow
  exact .trans (.of_mode rfl) (resumed_untripped _)

theorem endRestore_untripped : Untripped c c.endRestore := by
  unfold Chip.endRestore
  exact .trans (.of_mode rfl) (resumed_untripped _)

theorem pauseShow_untripped (cause : PauseCause) : Untripped c (c.pauseShow cause) := by
  unfold Chip.pauseShow
  extract_lets d₁ _ d₂
  have held : Untripped c d₁ := .audio ((Chip.stopClock_audio c).trans (Chip.holdAudio_audio _))
  have paused : Untripped c d₂ := held.trans (.of_mode rfl)
  exact .ite (fun _ => paused) fun _ => paused.trans (.notify _ _)

theorem stopShow_untripped : Untripped c c.stopShow := by
  have dropped : Untripped c c.dropShow := by
    have dark : Untripped c c.darkenShow := .lamps (Chip.darkenShow_lamps c)
    exact dark.trans (.of_mode (by unfold Chip.dropShow; rw [closeShow_mode]; rfl))
  unfold Chip.stopShow
  split
  · exact .refl c
  · exact .refl c
  · exact uncue_untripped c
  · exact enterEnding_untripped c _ _
  · exact enterEnding_untripped c _ _
  · exact enterEnding_untripped c _ _
  · exact .ite (fun _ => dropped) fun _ => enterEnding_untripped c _ _

theorem takeShow_untripped : Untripped c c.takeShow := by
  have undone : Untripped c c.undoHold := .ite (fun _ => .of_mode rfl) fun _ => .refl c
  have paused : Untripped c
      { c.undoHold.pauseShow .take with mode := { (c.undoHold.pauseShow .take).mode with restore := none } } :=
    (undone.trans (pauseShow_untripped _ _)).trans (.of_mode rfl)
  unfold Chip.takeShow
  split
  exacts [paused, paused, paused, paused, .refl c, .refl c, .refl c]

theorem takeMode_untripped : Untripped c c.takeMode := by
  unfold Chip.takeMode
  extract_lets _ d
  have still : Untripped c d := .of_mode rfl
  have manual : Untripped c (d.toMode .manual) := still.trans (toMode_untripped d nofun)
  split
  exacts [still.trans (beginWake_untripped d .manual), still.trans (.of_mode rfl), manual, manual, manual, manual]

theorem takeFountain_untripped : Untripped c c.takeFountain := by
  have jets : Untripped c.takeShow c.takeShow.takeJets := .water (.forEach fun j d => Chip.demandWrite_water d _ _ _ j)
  have wet := (jets.trans (cutFlush_untripped _)).trans (.endEvent _)
  exact (takeShow_untripped c).trans ((wet.trans (.lamps (Chip.lampsToPanel_lamps _))).trans (takeMode_untripped _))

theorem timed_untripped (t : Option Nat) : Untripped c { c with mode := { c.mode with restore := t } } := .of_mode rfl

theorem beginRestore_untripped : Untripped c c.beginRestore := by
  unfold Chip.beginRestore
  extract_lets _ d₁ d₂ d₃ d₄ d₅ d₆
  have begun : Untripped c d₁ := .of_mode rfl
  have shown : Untripped c d₂ := begun.trans (toMode_untripped d₁ (m := .showMode) nofun)
  have shut : Untripped c d₃ := shown.trans (.water (.forEach fun j d => Chip.demandWrite_water d _ _ _ j))
  have expired : Untripped c d₄ := shut.trans (expireBursts_untripped d₃)
  have stopped : Untripped c d₅ :=
    expired.trans (.moves (b := true) (.forEach (I := anyPump) (J := anyJet) fun _ _ _ => handDrive_moves trivial _ _ _))
  have crossed : Untripped c d₆ := (stopped.trans (.endEvent d₅)).trans (.lamps (Chip.beginCrossfade_lamps _))
  exact crossed.trans (timed_untripped d₆ _)

theorem releaseFountain_untripped : Untripped c c.releaseFountain := by
  unfold Chip.releaseFountain
  extract_lets d₁ d₂
  have jets : Untripped c d₁ := .water (Chip.demandWrites_water c _ _ _)
  have crossfade : Untripped d₂.endEvent d₂.endEvent.beginCrossfade := .lamps (Chip.beginCrossfade_lamps _)
  exact (((jets.trans (intentStops_untripped d₁)).trans (.endEvent d₂)).trans crossfade).trans (toMode_untripped _ nofun)

theorem tripCleared_mode : (tripCleared c).mode.mode = .settling := by
  unfold tripCleared Chip.toMode
  dsimp only
  split
  next already => exact already
  · rfl

theorem completeEnding_untripped : Untripped c c.completeEnding := by
  have closed : Untripped c c.closeShow := .of_mode (by rw [closeShow_mode])
  exact ((closed.trans (.audio (Chip.stopClock_audio _))).trans (.lamps (Chip.darkenShow_lamps _))).trans (toMode_untripped _ nofun)

theorem settle_untripped (before : Chip) : Untripped c (Chip.settle before c) := by
  have restored : Untripped c c.testRestore := .ite (fun _ => endRestore_untripped c) fun _ => .refl c
  have ended : Untripped c.testRestore c.testRestore.testEnding := .ite (fun _ => completeEnding_untripped _) fun _ => .refl _
  exact (((restored.trans ended).trans (testFlush_untripped _)).trans (testPower_untripped _)).trans (testDormancy_untripped _ before)

end Operations

/-- Only a trip enters TRIPPED. -/
theorem fountainEffect_untripped (effect : FountainEffect may c d) : Untripped c d ∨ ∃ cause, d = c.tripCause cause := by
  have is {P : Prop} (h : Untripped c d) : Untripped c d ∨ P := .inl h
  cases effect with
  | trip cause => exact .inr ⟨cause, rfl⟩
  | cue k i music origin => exact is (cueShow_untripped c k i music origin)
  | framePeriod => exact is (.audio (Chip.framePeriod_audio c))
  | tick | hold | audio | panelLayer | mask => exact is (.of_mode rfl)
  | notify n => exact is (.notify c n)
  | uncue => exact is (uncue_untripped c)
  | start => exact is (startShow_untripped c)
  | pause => exact is (pauseShow_untripped c _)
  | continueShow => exact is (continueShow_untripped c)
  | stop => exact is (stopShow_untripped c)
  | restored => exact is (endRestore_untripped c)
  | gust => exact is (gustToShow_untripped c)
  | clockTook => exact is (clockTook_untripped c)
  | audioEnd position =>
    have cut : Untripped c (audioCut c position) := by
      have shortened (a : Playback) : Untripped c { c with playback := a } := .of_mode rfl
      exact (shortened _).trans (.audio (Chip.lowCrossing_audio _ _))
    exact is (.ite (fun _ => cut.trans (.audio (Chip.endOfMusic_audio _))) fun _ => cut)
  | take => exact is (takeFountain_untripped c)
  | restore => exact is (beginRestore_untripped c)
  | release => exact is (releaseFountain_untripped c)
  | clearTrip => exact is (.inr (by rw [tripCleared_mode]; nofun))
  | manual d mode moves => exact is (.moves moves)
  | pumps d moves => exact is (.moves moves)
  | lampFrame => exact is (.lamps (Chip.lampFrame_lamps c))
  | flushAll z => exact is (beginFlush_untripped c _ z)
  | dormant => exact is (enterDormant_untripped c)
  | wake => exact is (beginWake_untripped c _)
  | settle before => exact is (settle_untripped c before)
  | powered => exact is (((powerOn_untripped c).trans (.endEvent _)).trans (endWake_untripped _))
  | periodExpiry => exact is (periodExpiry_untripped c)
  | endFlush f => exact is (endFlush_untripped c f)
  | zoneDone f => exact is (zoneDone_untripped c f)
  | stallFlush f => exact is (stallFlush_untripped c f)

end Sys2Proof.Proofs.Tripped


/-! PROOF. TRIPPED is dark, dry and silent, and only CLEAR_TRIP, RESTART and the resets leave it (O52). -/

namespace Sys2Proof.Proofs.Tripped

open Sys2Proof Sys2Proof.Machine Sys2Proof.Proofs.StepEffects Sys2Proof.Proofs.Water Sys2Proof.Proofs.FountainMoves
  Sys2Proof.Proofs.RequestEffects Sys2Proof.Proofs.ShowHeart Sys2Proof.Proofs.RecordsKept

variable {may : Special → Prop} {c d : Chip}

/-! ## Water that is shut off -/

/-- Nothing waits to start, no pump is up and every jet is shut (R102, R118). -/
structure Parched (c : Chip) : Prop where
  queue : c.queue = []
  joining : c.joining = []
  pumps : ∀ p, (stateOf c p).up = false
  jets : ∀ j : JetId, JetShut c.jets[j]

theorem Parched.of_same (h : Parched c) (queue : d.queue = c.queue) (joining : d.joining = c.joining)
    (pumps : ∀ p, (stateOf d p).up = (stateOf c p).up) (jets : d.jets = c.jets) : Parched d :=
  ⟨queue.trans h.queue, joining.trans h.joining, fun p => (pumps p).trans (h.pumps p), fun j => by rw [jets]; exact h.jets j⟩

theorem stopRequest_parched (h : Parched c) (p : PumpId) : Parched (c.stopRequest p) := by
  have cleared : Parched (c.updPump p fun r => { r with idleExpiry := none }) :=
    h.of_same rfl rfl (fun q => by rw [stateOf_updPump_same p rfl]) rfl
  have dequeued {d : Chip} (k : Parched d) : Parched (d.dequeue p) :=
    ⟨by simp [Chip.dequeue, k.queue], by simp [Chip.dequeue, k.joining], k.pumps, k.jets⟩
  have down := h.pumps p
  unfold Chip.stopRequest
  dsimp only
  split
  · exact dequeued cleared
  · exact dequeued cleared
  next up => rw [stateOf, up] at down; cases down
  next up => rw [stateOf, up] at down; cases down
  · exact cleared
  · exact cleared

theorem releaseStarted_parched (h : Parched c) (started : Vector Bool 12) : Parched (c.releaseStarted started) := by
  unfold Chip.releaseStarted
  refine Chip.forEach_keeps (P := Parched) _ (fun p _ d k => ?_) h
  unfold Chip.stopUnlessDemanded
  split
  · exact k
  · exact stopRequest_parched k p

/-! ## Going down -/

theorem enterState_down (p q : PumpId) {st : PumpState} (fault : Option PumpFault) (down : st.up = false)
    (h : q = p ∨ (stateOf c q).up = false) : (stateOf (c.enterState p st fault) q).up = false := by
  rw [stateOf_enterState]
  split
  · exact down
  next other => exact h.resolve_left other

theorem stateOf_notify (c : Chip) (n : Notice) (p : PumpId) : stateOf (c.notify n) p = stateOf c p := rfl

theorem stateOf_setRestEnd (c : Chip) (p q : PumpId) (t : Nat) : stateOf (c.updPump p fun r => { r with restEnd := t }) q = stateOf c q :=
  stateOf_updPump_same p rfl q

theorem watchDrive_down (p q : PumpId) (h : (stateOf c q).up = false) : (stateOf (c.watchDrive p) q).up = false := by
  have faulted : (stateOf (c.enterFaulted p .drive) q).up = false := by
    unfold Chip.enterFaulted
    rw [stateOf_notify]
    exact enterState_down (c := c.dequeue p) p q _ rfl (.inr h)
  have watched : (stateOf (if c.lines.drvOk[p] then c else c.enterFaulted p .drive) q).up = false := by
    split
    · exact h
    · exact faulted
  unfold Chip.watchDrive
  split
  exacts [watched, watched, watched, watched, h, h]

theorem enterResting_down (p q : PumpId) (h : q = p ∨ (stateOf c q).up = false) : (stateOf (c.enterResting p) q).up = false := by
  unfold Chip.enterResting
  refine watchDrive_down p q ?_
  rw [stateOf_setRestEnd]
  exact enterState_down p q none rfl h

/-- Where each step makes its own and keeps that of the others, a run over a list makes all of them. -/
theorem forEach_makes {α : Type} {P : α → Chip → Prop} {f : α → Chip → Chip} (makes : ∀ a c, P a (f a c))
    (keeps : ∀ a b c, P a c → P a (f b c)) (ids : List α) (c : Chip) : ∀ a ∈ ids, P a (Chip.forEach ids f c) := by
  induction ids generalizing c with
  | nil => exact nofun
  | cons b ids ih =>
    intro a mem
    rw [Chip.forEach_cons]
    rcases List.mem_cons.mp mem with rfl | later
    · exact Chip.forEach_keeps (P := P a) _ (fun b _ d k => keeps a b d k) (makes a c)
    · exact ih _ a later

theorem stateOf_stopDrives (c : Chip) (p : PumpId) : stateOf { c with pumps := Vector.ofFn fun p =>
    { c.pumps[p] with intent := .stop, stopPending := false, idleExpiry := none } } p = stateOf c p := by
  simp [stateOf]

theorem tripPumps_down (c : Chip) (p : PumpId) : (stateOf c.tripPumps p).up = false := by
  unfold Chip.tripPumps
  extract_lets d₁ d₂
  have rests : (stateOf d₂ p).up = false := by
    refine forEach_makes (P := fun p c => (stateOf c p).up = false) (fun q d => ?_) (fun q r d down => ?_) _ d₁ p (List.mem_finRange p)
    · split
      · exact enterResting_down q q (.inl rfl)
      next is_down => exact Bool.eq_false_iff.mpr is_down
    · split
      · exact enterResting_down r q (.inr down)
      · exact down
  rw [stateOf_stopDrives]
  exact rests

theorem enterResting_queues (c : Chip) (p : PumpId) (queue : c.queue = []) (joining : c.joining = []) :
    (c.enterResting p).queue = [] ∧ (c.enterResting p).joining = [] := by
  have watched (d : Chip) (queue : d.queue = []) (joining : d.joining = []) :
      (d.watchDrive p).queue = [] ∧ (d.watchDrive p).joining = [] := by
    unfold Chip.watchDrive Chip.enterFaulted
    split <;> [split; split; split; split; skip; skip] <;> simp [Chip.enterState, Chip.dequeue, queue, joining]
  exact watched _ (by simp [Chip.enterState, queue]) (by simp [Chip.enterState, joining])

theorem tripPumps_queues (c : Chip) : c.tripPumps.queue = [] ∧ c.tripPumps.joining = [] := by
  unfold Chip.tripPumps
  extract_lets d₁ d₂
  have empty : d₂.queue = [] ∧ d₂.joining = [] :=
    Chip.forEach_keeps (P := fun d => d.queue = [] ∧ d.joining = []) _ (fun p _ d ⟨queue, joining⟩ => by
      split
      · exact enterResting_queues d p queue joining
      · exact ⟨queue, joining⟩) (show d₁.queue = [] ∧ d₁.joining = [] from ⟨rfl, rfl⟩)
  dsimp only
  exact empty

theorem closeJets_shut (c : Chip) (j : JetId) : JetShut c.closeJets.jets[j] := by
  rw [show c.closeJets.jets[j] = { c.jets[j] with
    state := .closed, owner := .none, demand := 0, burstEnd := none, waitCause := none, height := 0 } from Vector.getElem_ofFn _]
  exact ⟨rfl, rfl, rfl⟩

theorem shut_parched (c : Chip) : Parched c.tripPumps.closeJets := by
  obtain ⟨queue, joining⟩ := tripPumps_queues c
  have pumps := tripPumps_down c
  generalize c.tripPumps = d at queue joining pumps
  exact ⟨by dsimp only [Chip.closeJets]; exact queue, by dsimp only [Chip.closeJets]; exact joining,
    fun p => by dsimp only [stateOf, Chip.closeJets]; exact pumps p, closeJets_shut d⟩

/-! ## Entry into TRIPPED -/

/-- What TRIPPED keeps, but for the mode itself (R102, R118, R142, R166). -/
structure Quiet (c : Chip) : Prop extends Parched c where
  power : c.mode.power = .off
  settle : c.mode.settle = none
  wake : c.mode.wake = none
  dormancy : c.mode.dormancy = none
  restore : c.mode.restore = none
  causes : c.mode.causes ≠ []
  cue : c.run.cue = .idle
  outputs : c.outputs = darkOutputs
  line : c.lampLine = some darkOutputs
  audio : c.playback.state = .off
  ramp : c.playback.r = 0
  clock : c.clock.running = false

/-- TRIPPED as a trip leaves it. -/
structure Dark (c : Chip) : Prop extends Quiet c where
  tripped : c.mode.mode = .tripped
  flush : c.circ.flush = none

theorem darkWhileTripped_iff : c.darkWhileTripped ↔ (c.mode.mode = .tripped → Dark c) := by
  refine ⟨fun h tripped => ?_, fun h tripped => ?_⟩
  · obtain ⟨power, settle, wake, dormancy, restore, causes, cue, flush, queue, joining, pumps, jets, outputs, line, audio, ramp, clock⟩ :=
      h tripped
    exact ⟨⟨⟨queue, joining, pumps, jets⟩, power, settle, wake, dormancy, restore, causes, cue, outputs, line, audio, ramp, clock⟩,
      tripped, flush⟩
  · obtain ⟨⟨⟨queue, joining, pumps, jets⟩, power, settle, wake, dormancy, restore, causes, cue, outputs, line, audio, ramp, clock⟩,
      -, flush⟩ := h tripped
    exact ⟨power, settle, wake, dormancy, restore, causes, cue, flush, queue, joining, pumps, jets, outputs, line, audio, ramp, clock⟩

/-- A part whose water, modes, show, lamps and sound stand is as quiet. -/
theorem Quiet.of_same (h : Quiet c) (water : Parched d) (mode : d.mode = { c.mode with mode := d.mode.mode, flushRunning := d.mode.flushRunning })
    (run : d.run = c.run) (outputs : d.outputs = c.outputs) (line : d.lampLine = c.lampLine) (playback : d.playback = c.playback)
    (clock : d.clock = c.clock) : Quiet d where
  toParched := water
  power := by rw [mode]; exact h.power
  settle := by rw [mode]; exact h.settle
  wake := by rw [mode]; exact h.wake
  dormancy := by rw [mode]; exact h.dormancy
  restore := by rw [mode]; exact h.restore
  causes := by rw [mode]; exact h.causes
  cue := by rw [run]; exact h.cue
  outputs := by rw [outputs]; exact h.outputs
  line := by rw [line]; exact h.line
  audio := by rw [playback]; exact h.audio
  ramp := by rw [playback]; exact h.ramp
  clock := by rw [clock]; exact h.clock

theorem Quiet.water (h : Quiet c) (water : Parched d) (only : c.WaterOnly d) : Quiet d :=
  h.of_same water (by rw [only.mode]) only.run only.outputs only.lampLine only.playback only.clock

theorem circ_quiet (h : Quiet c) (r : Circulation) : Quiet { c with circ := r } :=
  h.of_same (h.toParched.of_same rfl rfl (fun _ => rfl) rfl) rfl rfl rfl rfl rfl rfl

theorem dropFlush_quiet (h : Quiet c) : Quiet c.dropFlush :=
  h.of_same (h.toParched.of_same rfl rfl (fun _ => rfl) rfl) rfl rfl rfl rfl rfl rfl

theorem releaseStarted_quiet (h : Quiet c) (started : Vector Bool 12) : Quiet (c.releaseStarted started) :=
  h.water (releaseStarted_parched h.toParched started) (Chip.releaseStarted_water c started)

theorem cutFlush_quiet (h : Quiet c) : Quiet c.cutFlush ∧ c.cutFlush.circ.flush = none := by
  unfold Chip.cutFlush
  split
  next none_runs => exact ⟨h, none_runs⟩
  next f _ =>
    have paid : Quiet (if f.counts then c.payDebt.advancePointer f.zone else c) := by
      split
      · exact circ_quiet (circ_quiet h _) _
      · exact h
    exact ⟨dropFlush_quiet (releaseStarted_quiet paid f.started), rfl⟩

theorem abortShow_mode (c : Chip) : c.abortShow.mode = { c.mode with restore := none } := by
  unfold Chip.abortShow
  split
  · rfl
  · rw [closeShow_mode]

theorem abortShow_cue (c : Chip) : c.abortShow.run.cue = .idle := by
  unfold Chip.abortShow
  split
  next idle => exact idle
  · rfl

theorem page_parched (h : Parched c) (k : PageId) (f : Page → Page) : Parched (c.updPage k f) := h.of_same rfl rfl (fun _ => rfl) rfl
theorem run_parched (h : Parched c) (r : ShowRecord) : Parched { c with run := r } := h.of_same rfl rfl (fun _ => rfl) rfl
theorem mode_parched (h : Parched c) (m : ModeRecord) : Parched { c with mode := m } := h.of_same rfl rfl (fun _ => rfl) rfl
theorem notify_parched (h : Parched c) (n : Notice) : Parched (c.notify n) := h.of_same rfl rfl (fun _ => rfl) rfl

theorem releasePage_parched (h : Parched c) : Parched c.releasePage := by
  unfold Chip.releasePage
  split
  · exact page_parched h _ _
  · exact h

theorem abortShow_parched (h : Parched c) : Parched c.abortShow := by
  unfold Chip.abortShow
  dsimp only
  split
  · exact mode_parched h _
  · exact notify_parched (run_parched (releasePage_parched (mode_parched h _)) _) _

theorem Parched.audio (h : Parched c) (only : c.AudioOnly d) : Parched d :=
  h.of_same only.queue only.joining (fun p => by rw [stateOf, stateOf, only.pumps]) only.jets

theorem Parched.lamps (h : Parched c) (only : c.LampsOnly d) : Parched d :=
  h.of_same only.queue only.joining (fun p => by rw [stateOf, stateOf, only.pumps]) only.jets

theorem tripLamps_outputs (c : Chip) : c.tripLamps.outputs = darkOutputs ∧ c.tripLamps.lampLine = some darkOutputs := ⟨rfl, rfl⟩

/-- A fountain that is shut off, powered down and without a wake, is quiet once its show, its sound and its lamps go. -/
theorem silenced_quiet (water : Parched c) (power : c.mode.power = .off) (settle : c.mode.settle = none) (wake : c.mode.wake = none)
    (dormancy : c.mode.dormancy = none) (causes : c.mode.causes ≠ []) : Quiet c.abortShow.tripAudio.tripLamps := by
  have mode := abortShow_mode c
  have cue := abortShow_cue c
  have water := abortShow_parched water
  generalize c.abortShow = d at mode cue water
  have silent : d.tripAudio.playback.state = .off ∧ d.tripAudio.playback.r = 0 ∧ d.tripAudio.clock.running = false := ⟨rfl, rfl, rfl⟩
  have sound := Chip.tripAudio_audio d
  generalize d.tripAudio = e at silent sound
  have lamps := Chip.tripLamps_lamps e
  obtain ⟨outputs, line⟩ := tripLamps_outputs e
  generalize e.tripLamps = f at lamps outputs line
  have mode : f.mode = { c.mode with restore := none } := lamps.mode.trans (sound.mode.trans mode)
  obtain ⟨audio, ramp, clock⟩ := silent
  exact {
    toParched := (water.audio sound).lamps lamps
    power := by rw [mode]; exact power
    settle := by rw [mode]; exact settle
    wake := by rw [mode]; exact wake
    dormancy := by rw [mode]; exact dormancy
    restore := by rw [mode]
    causes := by rw [mode]; exact causes
    cue := by rw [lamps.run, sound.run]; exact cue
    outputs := outputs
    line := line
    audio := by rw [lamps.playback]; exact audio
    ramp := by rw [lamps.playback]; exact ramp
    clock := by rw [lamps.clock]; exact clock }

theorem dropPower_mode (c : Chip) : c.dropPower.mode = { c.mode with power := .off, settle := none } := rfl

theorem tripPumps_mode (c : Chip) : c.tripPumps.mode = c.mode := by
  unfold Chip.tripPumps
  extract_lets d₁ d₂
  have rested : d₂.mode = d₁.mode :=
    (Chip.WaterOnly.forEach (ids := List.finRange 12) (c := d₁) fun p d => .ite (Chip.enterResting_water d p) (.refl d)).mode
  dsimp only
  exact rested

theorem closeJets_mode (c : Chip) : c.closeJets.mode = c.mode := by dsimp only [Chip.closeJets]

theorem toTripped_dark (h : Quiet c) (flush : c.circ.flush = none) : Dark (c.toMode .tripped) := by
  unfold Chip.toMode
  split
  next tripped => exact ⟨h, tripped, flush⟩
  · exact ⟨h.of_same (h.toParched.of_same rfl rfl (fun _ => rfl) rfl) rfl rfl rfl rfl rfl rfl, rfl, flush⟩

theorem notify_quiet (h : Quiet c) (n : Notice) : Quiet (c.notify n) :=
  h.of_same (h.toParched.of_same rfl rfl (fun _ => rfl) rfl) rfl rfl rfl rfl rfl rfl

theorem notify_dark (h : Dark c) (n : Notice) : Dark (c.notify n) := ⟨notify_quiet h.toQuiet n, h.tripped, h.flush⟩

theorem enterTripped_dark (c : Chip) (cause : TripCause) : Dark (c.enterTripped cause) := by
  unfold Chip.enterTripped
  extract_lets _ d₁ d₂
  have mode : d₁.dropPower.tripPumps.closeJets.mode = { d₁.mode with power := .off, settle := none } := by
    rw [closeJets_mode, tripPumps_mode, dropPower_mode]
  have parched : Parched d₁.dropPower.tripPumps.closeJets := shut_parched d₁.dropPower
  have quiet := silenced_quiet parched (by rw [mode]) (by rw [mode]) (by rw [mode]) (by rw [mode]) (by rw [mode]; exact List.cons_ne_nil _ _)
  obtain ⟨cut, dropped⟩ := cutFlush_quiet quiet
  exact notify_dark (toTripped_dark cut dropped) .trip

theorem mode_quiet (h : Quiet c) (m : ModeRecord) (same : m = { c.mode with
    mode := m.mode, flushRunning := m.flushRunning, causes := m.causes }) (causes : m.causes ≠ []) : Quiet { c with mode := m } where
  toParched := mode_parched h.toParched m
  power := by dsimp only; rw [same]; exact h.power
  settle := by dsimp only; rw [same]; exact h.settle
  wake := by dsimp only; rw [same]; exact h.wake
  dormancy := by dsimp only; rw [same]; exact h.dormancy
  restore := by dsimp only; rw [same]; exact h.restore
  causes := causes
  cue := h.cue
  outputs := h.outputs
  line := h.line
  audio := h.audio
  ramp := h.ramp
  clock := h.clock

theorem withCause_ne_nil (cause : TripCause) (causes : List TripCause) : withCause cause causes ≠ [] := by
  unfold withCause
  split
  next mem => exact List.ne_nil_of_mem mem
  · simp

theorem tripCause_dark (c : Chip) (cause : TripCause) (h : c.darkWhileTripped) : Dark (c.tripCause cause) := by
  unfold Chip.tripCause
  split
  next tripped =>
    obtain ⟨quiet, -, flush⟩ := darkWhileTripped_iff.mp h tripped
    have joined := mode_quiet quiet { c.mode with causes := withCause cause c.mode.causes } rfl (withCause_ne_nil _ _)
    exact notify_dark ⟨joined, tripped, flush⟩ .trip
  · exact enterTripped_dark c cause

/-! ## While TRIPPED -/

/-- A dark part whose water is shut and whose other records stand is dark. -/
theorem Dark.of_same (h : Dark c) (water : Parched d) (mode : d.mode = c.mode) (run : d.run = c.run)
    (outputs : d.outputs = c.outputs) (line : d.lampLine = c.lampLine) (playback : d.playback = c.playback)
    (clock : d.clock = c.clock) (flush : d.circ.flush = c.circ.flush) : Dark d :=
  ⟨h.toQuiet.of_same water (by rw [mode]) run outputs line playback clock, by rw [mode]; exact h.tripped, by rw [flush]; exact h.flush⟩

theorem Dark.water {b : Bool} (h : Dark c) (moves : WaterMoves noJet anyPump b c d) : Dark d := by
  have only := waterMoves_water moves
  obtain ⟨-, queue, joining, pumps, jets⟩ :=
    waterMoves_dry moves ⟨h.tripped, h.queue, h.joining, h.pumps, h.jets⟩
  obtain ⟨f, circ, -⟩ := waterMoves_flush moves
  exact h.of_same ⟨queue, joining, pumps, jets⟩ only.mode only.run only.outputs only.lampLine only.playback only.clock
    (by rw [circ, h.flush]; rfl)

theorem lampFrame_tripped (h : c.mode.mode = .tripped) :
    c.lampFrame.outputs = darkOutputs ∧ c.lampFrame.lampLine = some darkOutputs := by
  have mode : c.moveGates.mode = c.mode := (Chip.moveGates_lamps c).mode
  have out : c.moveGates.frameOutputs = darkOutputs := by
    unfold Chip.frameOutputs
    rw [mode, h]
  unfold Chip.lampFrame
  dsimp only
  rw [out, h]
  exact ⟨rfl, rfl⟩

theorem lampFrame_dark (h : Dark c) : Dark c.lampFrame := by
  have lamps := Chip.lampFrame_lamps c
  obtain ⟨outputs, line⟩ := lampFrame_tripped h.tripped
  generalize c.lampFrame = d at lamps outputs line
  exact h.of_same (h.toParched.lamps lamps) lamps.mode lamps.run (outputs.trans h.outputs.symm) (line.trans h.line.symm) lamps.playback
    lamps.clock (by rw [lamps.circ])

/-- Where no music sounds and the clock stands, a period leaves the silence as it is. -/
theorem musicFramed_silent {a : Playback} {k : ShowClock} (now : Nat) (off : a.state = .off) (ramp : a.r = 0)
    (stands : k.running = false) : musicFramed a k now = (a, k) := by
  have played : framePlayed a = a := by
    obtain ⟨state, music, p, p0, endAt, held, r, buffer⟩ := a
    cases off
    cases ramp
    rfl
  have followed : clockFollowed a k = k := if_neg (by simp [stands])
  rw [musicFramed, played, followed]
  simp only [frameTested, off]

theorem framePeriod_dark (h : Dark c) : Dark c.framePeriod := by
  have audio := Chip.framePeriod_audio c
  have heart := framePeriod_heart c
  rw [musicFramed_silent c.now h.audio h.ramp h.clock] at heart
  have playback := congrArg Heart.playback heart
  have clock := congrArg Heart.clock heart
  exact h.of_same (h.toParched.audio audio) audio.mode audio.run audio.outputs audio.lampLine playback clock (by rw [audio.circ])

/-- The tests that follow a command find nothing to do while TRIPPED. -/
theorem settle_tripped (before : Chip) (tripped : c.mode.mode = .tripped) (idle : c.run.cue = .idle) :
    Chip.settle before c = { c with mode := { c.mode with dormancy := none } } := by
  have restored : c.testRestore = c := if_neg fun h => by rw [idle] at h; cases h.1
  have ended : c.testEnding = c := if_neg fun h => by rw [idle] at h; cases h.1
  have flushed : c.testFlush = c := if_neg (by simp [Chip.flushDue, tripped])
  have powered : c.testPower = c := if_neg fun h => by rw [tripped] at h; cases h.1
  rw [Chip.settle, restored, ended, flushed, powered, Chip.testDormancy, if_pos (by simp [Chip.unattended, tripped])]

theorem settle_dark (h : Dark c) (before : Chip) : Dark (Chip.settle before c) := by
  rw [settle_tripped before h.tripped h.cue]
  exact h.of_same (mode_parched h.toParched _) (by rw [← h.dormancy]) rfl rfl rfl rfl rfl rfl

theorem periodExpiry_dark (h : Dark c) : Dark c.periodExpiry := by
  unfold Chip.periodExpiry
  dsimp only
  split
  · refine notify_dark ?_ _
    exact ⟨circ_quiet h.toQuiet _, h.tripped, h.flush⟩
  · exact ⟨circ_quiet h.toQuiet _, h.tripped, h.flush⟩

/-- While TRIPPED an effect leaves the fountain dark, or clears the trip. -/
theorem fountainEffect_dark (h : Dark c) (effect : FountainEffect may c d) : Dark d ∨ may .clearTrip ∧ d.mode.mode ≠ .tripped := by
  have tripped := h.tripped
  have idle := h.cue
  have off := h.audio
  have never {P : Prop} {m : FountainMode} (mode : c.mode.mode = m) (other : m ≠ .tripped) : P :=
    absurd (mode.symm.trans tripped) other
  have no_show {P : Prop} {q : CueState} (cue : c.run.cue = q) (shown : q ≠ .idle) : P := absurd (cue.symm.trans idle) shown
  have no_flush {P : Prop} (runs : c.circ.flush.isSome = true) : P := by
    rw [h.flush] at runs
    cases runs
  cases effect with
  | notify n => exact .inl (notify_dark h n)
  | trip cause => exact .inl (tripCause_dark c cause (darkWhileTripped_iff.mpr fun _ => h))
  | clearTrip special => exact .inr ⟨special, by rw [tripCleared_mode]; nofun⟩
  | pumps _ moves => exact .inl (h.water moves)
  | panelLayer fades =>
    exact .inl (h.of_same (h.toParched.of_same rfl rfl (fun _ => rfl) rfl) rfl rfl rfl rfl rfl rfl rfl)
  | lampFrame => exact .inl (lampFrame_dark h)
  | mask => exact .inl ⟨circ_quiet h.toQuiet _, tripped, h.flush⟩
  | settle before => exact .inl (settle_dark h before)
  | periodExpiry => exact .inl (periodExpiry_dark h)
  | framePeriod => exact .inl (framePeriod_dark h)
  | gust =>
    have none_swaps : c.gustToShow = c := by simp [Chip.gustToShow, idle]
    rw [none_swaps]
    exact .inl h
  | clockTook =>
    have none_runs : c.clockTook = c := if_neg (by simp [idle])
    rw [none_runs]
    exact .inl h
  | cue _ _ _ _ _ _ mode => rw [tripped] at mode; cases mode
  | start _ mode => exact never mode nofun
  | uncue cue => exact no_show cue nofun
  | pause cue => exact no_show cue nofun
  | continueShow cue => exact no_show cue nofun
  | restored cue => exact no_show cue nofun
  | hold _ cue => rw [idle] at cue; cases cue
  | stop shown => exact absurd idle shown
  | audio _ _ loud => exact absurd off loud
  | audioEnd _ loud => exact absurd off loud
  | tick _ _ runs => rw [h.clock] at runs; cases runs
  | take mode => exact absurd tripped mode
  | restore mode => exact never mode nofun
  | release mode => exact never mode nofun
  | manual _ mode => exact never mode nofun
  | flushAll _ mode => exact mode.elim (fun mode => never mode nofun) fun mode => never mode nofun
  | dormant mode => exact never mode nofun
  | wake mode => exact never mode nofun
  | powered settling => exact absurd h.settle settling
  | endFlush _ runs => exact no_flush runs
  | zoneDone _ runs => exact no_flush runs
  | stallFlush _ runs => exact no_flush runs

/-! ## The effects -/

/-- The effects that may end TRIPPED. -/
def Clears (may : Special → Prop) : Prop := may .clearTrip ∨ may .restart ∨ may .powerOn ∨ may .lineReset

theorem resetValues_dormant {e : Chip} (h : ResetValues c e) : e.mode.mode = .dormant := by
  cases h <;> rfl

theorem senseStop_dark {e : Chip} (h : e.darkWhileTripped) : e.senseStop.darkWhileTripped := by
  unfold Chip.senseStop
  split
  · exact darkWhileTripped_iff.mpr fun _ => tripCause_dark e _ h
  · exact h

theorem reset_dark {e : Chip} (h : ResetValues c e) : e.senseStop.darkWhileTripped :=
  senseStop_dark (darkWhileTripped_iff.mpr fun tripped => by rw [resetValues_dormant h] at tripped; cases tripped)

theorem writeSection_dark (h : Dark c) (x : LimitSection) : Dark (c.writeSection x) := by
  have ended {d : Chip} (k : Dark d) : Dark d.endEvent := k.water (b := false) (endEvent_moves (.refl d))
  have limited (k : Limits) (s : Sensing) : Dark { c with limits := k, sense := s } :=
    h.of_same (h.toParched.of_same rfl rfl (fun _ => rfl) rfl) rfl rfl rfl rfl rfl rfl rfl
  cases x with
  | pumps es =>
    have served := endEvent_moves (b := false) (J := noJet) (I := anyPump) (.forEach (ids := List.finRange 12)
      (c := { c with limits := { c.limits with pumps := es } }) fun p _ d => changeService_moves c.limits.pumps p d)
    exact (limited { c.limits with pumps := es } c.sense).water served
  | jets es => exact ended (limited { c.limits with jets := es } c.sense)
  | site e => exact ended (limited { c.limits with site := e } c.sense)
  | wind es => exact ended (limited { c.limits with wind := es } _)
  | lums es => exact ended (limited { c.limits with lums := es } c.sense)

theorem hydraulics_parched (h : Parched c) : Parched c.hydraulics where
  queue := by dsimp only [Chip.hydraulics]; exact h.queue
  joining := by dsimp only [Chip.hydraulics]; exact h.joining
  pumps p := by
    have state : stateOf c.hydraulics p = stateOf c p := by simp [stateOf, Chip.hydraulics]
    rw [state]
    exact h.pumps p
  jets j := by
    have jet : c.hydraulics.jets[j] = { c.jets[j] with height := c.effectiveHeight j } := Vector.getElem_ofFn _
    rw [jet]
    exact h.jets j

theorem hydraulics_dark (h : Dark c) : Dark { c.hydraulics with hydTimer := 0 } := by
  have updated : Dark c.hydraulics := h.of_same (hydraulics_parched h.toParched) rfl rfl rfl rfl rfl rfl rfl
  generalize c.hydraulics = d at updated
  exact updated.of_same (updated.toParched.of_same rfl rfl (fun _ => rfl) rfl) rfl rfl rfl rfl rfl rfl rfl

theorem advance_dark (h : Dark c) (k : Nat) : Dark (c.advance k) :=
  h.of_same (h.toParched.of_same rfl rfl (fun _ => rfl) rfl) rfl rfl rfl rfl rfl rfl (by
    show c.circ.flush.map _ = _
    rw [h.flush]
    rfl)

theorem recauseJets_parched (h : Parched c) : Parched c.recauseJets := by
  have jet (j : JetId) : c.recauseJets.jets[j] = c.jets[j] := by
    have recaused : c.recauseJets.jets[j] =
        if (c.jets[j]).state = .waiting then { c.jets[j] with waitCause := some (c.waitCauseOn (c.pumpOf j)) } else c.jets[j] :=
      Vector.getElem_ofFn _
    rw [recaused, if_neg (by rw [(h.jets j).1]; nofun)]
  exact ⟨by dsimp only [Chip.recauseJets]; exact h.queue, by dsimp only [Chip.recauseJets]; exact h.joining,
    fun p => by dsimp only [stateOf, Chip.recauseJets]; exact h.pumps p, fun j => by rw [jet]; exact h.jets j⟩

theorem emptied_dark (h : Dark c) (f : Link → Link) : Dark (Chip.updLinks { c with resetHeld := true } f) :=
  h.of_same (h.toParched.of_same rfl rfl (fun _ => rfl) rfl) rfl rfl rfl rfl rfl rfl rfl

theorem dropPower_dark (h : Dark c) : Dark c.dropPower := by
  have off : Dark { c with mode := { c.mode with power := .off, settle := none } } :=
    h.of_same (mode_parched h.toParched _) (by rw [← h.power, ← h.settle]) rfl rfl rfl rfl rfl rfl
  have only := Chip.recauseJets_water { c with mode := { c.mode with power := .off, settle := none } }
  exact off.of_same (recauseJets_parched off.toParched) only.mode only.run only.outputs only.lampLine only.playback only.clock rfl

theorem effect_dark (h : Dark c) (effect : Effect may c d) : Dark d ∨ Clears may ∧ d.darkWhileTripped := by
  cases effect with
  | fountain effect =>
    refine (fountainEffect_dark h effect).imp_right fun ⟨special, cleared⟩ => ⟨.inl special, darkWhileTripped_iff.mpr fun tripped => ?_⟩
    exact absurd tripped cleared
  | restart special => exact .inr ⟨.inr (.inl special), reset_dark .restart⟩
  | powerOn lines special => exact .inr ⟨.inr (.inr (.inl special)), reset_dark (c := c) (.powerOn lines)⟩
  | lineReset straps special => exact .inr ⟨.inr (.inr (.inr special)), reset_dark (.lineReset straps)⟩
  | writeSection x => exact .inl (writeSection_dark h x)
  | hydraulics => exact .inl (hydraulics_dark h)
  | assertReset => exact .inl (emptied_dark (dropPower_dark h) _)
  | gainStep =>
    unfold Chip.gainStep
    split
    · exact .inl (h.of_same (h.toParched.of_same rfl rfl (fun _ => rfl) rfl) rfl rfl rfl rfl rfl rfl rfl)
    · exact .inl h
  | advance k => exact .inl (advance_dark h k)
  | reply | owe | receive | sent | told | gain | countPeriod | page | validated | protect | lines | stopLine | pulse | closeGate | switch
  | level | dusk =>
    exact .inl (h.of_same (h.toParched.of_same rfl rfl (fun _ => rfl) rfl) rfl rfl rfl rfl rfl rfl rfl)

theorem writeSection_mode (c : Chip) (x : LimitSection) : (c.writeSection x).mode = c.mode := by
  have ended (d : Chip) : d.endEvent.mode = d.mode := (Chip.endEvent_water d).mode
  cases x with
  | pumps es =>
    exact (ended _).trans (Chip.WaterOnly.forEach (ids := List.finRange 12) (c := { c with limits := { c.limits with pumps := es } })
      fun p d => changeService_water d c.limits.pumps p).mode
  | jets es => exact ended _
  | site e => exact ended _
  | wind es => exact ended _
  | lums es => exact ended _

/-- Only a trip enters TRIPPED, and a trip leaves the fountain dark. -/
theorem effect_enters (effect : Effect may c d) (other : c.mode.mode ≠ .tripped) : d.darkWhileTripped := by
  have untripped (h : Untripped c d) : d.darkWhileTripped := darkWhileTripped_iff.mpr fun tripped => absurd tripped (h.ne other)
  have lit : c.darkWhileTripped := darkWhileTripped_iff.mpr fun tripped => absurd tripped other
  cases effect with
  | fountain effect =>
    rcases fountainEffect_untripped effect with stands | ⟨cause, rfl⟩
    · exact untripped stands
    · exact darkWhileTripped_iff.mpr fun _ => tripCause_dark c cause lit
  | restart => exact reset_dark .restart
  | powerOn lines => exact reset_dark (c := c) (.powerOn lines)
  | lineReset straps => exact reset_dark (.lineReset straps)
  | writeSection x => exact untripped (.of_mode (by rw [writeSection_mode]))
  | assertReset => exact untripped ((dropPower_untripped c).trans (.of_mode rfl))
  | gainStep => exact untripped (.of_mode (by unfold Chip.gainStep; split <;> rfl))
  | reply | owe | receive | sent | told | gain | countPeriod | page | validated | protect | lines | stopLine | pulse | closeGate | switch
  | level | dusk | advance | hydraulics => exact untripped (.of_mode rfl)

theorem effect_darkWhileTripped (effect : Effect may c d) (h : c.darkWhileTripped) : d.darkWhileTripped := by
  by_cases tripped : c.mode.mode = .tripped
  · exact (effect_dark (darkWhileTripped_iff.mp h tripped) effect).elim (fun dark => darkWhileTripped_iff.mpr fun _ => dark) And.right
  · exact effect_enters effect tripped

/-- The kinds that may end TRIPPED are CLEAR_TRIP and RESTART. -/
theorem kindMakes_clears {kind : Nat} (clears : kindMakes kind .clearTrip ∨ kindMakes kind .restart) : kind = 20 ∨ kind = 21 := by
  unfold kindMakes at clears
  split at clears <;> simp_all

/-- The commands that may end TRIPPED. -/
theorem clears_command {i : Instr} (clears : Clears (mayMake i)) :
    (∃ l : LinkId, i = .clearTrip l ∨ i = .restart l ∨
      ∃ (kind : Byte) (payload : List Byte) (crc : BitVec 16), i = .frameReceived l kind payload crc ∧
        (kind.toNat = 20 ∨ kind.toNat = 21)) ∨
    (∃ lines : Lines, i = .powerOnReset lines) ∨ (∃ straps : Vector StrapPins 3, i = .lineResetRelease straps) := by
  have of_kind (clears : mayMake i .clearTrip ∨ mayMake i .restart) : ∃ l : LinkId, i = .clearTrip l ∨ i = .restart l ∨
      ∃ (kind : Byte) (payload : List Byte) (crc : BitVec 16), i = .frameReceived l kind payload crc ∧
        (kind.toNat = 20 ∨ kind.toNat = 21) := by
    cases i with
    | clearTrip l => exact ⟨l, .inl rfl⟩
    | restart l => exact ⟨l, .inr (.inl rfl)⟩
    | frameReceived l kind payload crc => exact ⟨l, .inr (.inr ⟨kind, payload, crc, rfl, kindMakes_clears clears⟩)⟩
    | powerOnReset | lineResetRelease | audioFramePeriod | showClockTick => rcases clears with clears | clears <;> cases clears
    | _ =>
      rcases clears with ⟨_, _, _, frame, makes⟩ | ⟨_, _, _, frame, makes⟩ <;> cases frame
      all_goals cases makes
  rcases clears with clear | restart | power | line
  · exact .inl (of_kind (.inl clear))
  · exact .inl (of_kind (.inr restart))
  · exact .inr (.inl (mayMake_powerOn power))
  · exact .inr (.inr (mayMake_lineReset line))

/-- Settles O52: every effect keeps a tripped fountain dark or clears the trip, and only a trip, which leaves it dark, enters
TRIPPED. -/
theorem trippedIsDark : Obligations.TrippedIsDark := by
  refine ⟨fun _ _ dark next => step_keeps effect_darkWhileTripped dark next, fun i s t dark next tripped left => clears_command ?_⟩
  by_contra stays
  have still : Dark t.chip := (exec_effects next).keeps (P := Dark)
    (fun effect h => (effect_dark h effect).resolve_right fun ⟨clears, _⟩ => stays clears) (darkWhileTripped_iff.mp dark tripped)
  exact left still.tripped

end Sys2Proof.Proofs.Tripped


/-! PROOF. The part right after a power-on reset meets every invariant (O50). -/

namespace Sys2Proof.Proofs.Reset

open Sys2Proof Sys2Proof.Machine Sys2Proof.Proofs.Water Sys2Proof.Proofs.FountainMoves Sys2Proof.Proofs.RecordsKept
  Sys2Proof.Proofs.ShowHeart Sys2Proof.Proofs.LinksKept Sys2Proof.Proofs.Tripped

/-- The links of `State.reset` are those that its straps give. -/
theorem usualLinks_eq : usualLinks = strapLinks usualLines.straps := by decide

/-- `State.reset` is what a power-on reset leaves, whatever stood before. -/
theorem reset_values (c : Chip) : ResetValues c State.reset.chip := by
  have powered : State.reset.chip = poweredChip usualLines (strapLinks usualLines.straps) := by rw [← usualLinks_eq]; rfl
  rw [powered]
  exact .powerOn usualLines

theorem poweredChip_queueKept (lines : Lines) (links : Vector Link 3) : (poweredChip lines links).queueKept :=
  ⟨rfl, List.nodup_nil, nofun, Nat.zero_le _⟩

theorem poweredChip_pumpsKept (lines : Lines) (links : Vector Link 3) : (poweredChip lines links).pumpsKept := by
  refine pumpsKept_iff.mpr fun p => ?_
  rw [show (poweredChip lines links).pumps[p] = resetPump from Vector.getElem_replicate _]
  exact ⟨fun _ => ⟨rfl, rfl, rfl⟩, nofun, nofun, nofun, nofun⟩

theorem poweredChip_tableKept (lines : Lines) (links : Vector Link 3) : (poweredChip lines links).tableKept :=
  tableKept_iff.mpr ⟨defaultLimits_fit, ⟨fun _ => rfl, fun _ => rfl⟩, nofun⟩

/-- Settles O50. -/
theorem resetMeetsTheInvariants : Obligations.ResetMeetsTheInvariants := by
  have values := reset_values State.reset.chip
  have heart := resetValues_heart values
  have dark : State.reset.chip.darkWhileTripped := darkWhileTripped_iff.mpr fun tripped => by
    rw [resetValues_dormant values] at tripped
    cases tripped
  exact ⟨resetValues_follow values, dark, (showKept_iff _).mpr (reset_showFits heart), poweredChip_queueKept _ _,
    strapLinks_kept usualLinks_eq, (audioKept_iff _).mpr ⟨reset_playbackFits heart, resetValues_gains values⟩,
    (clockKept_iff _).mpr (reset_clockFits heart), poweredChip_pumpsKept _ _, resetValues_circKept values, resetValues_sensing values,
    poweredChip_tableKept _ _⟩

end Sys2Proof.Proofs.Reset


/-! PROOF. What the demand writes and the drives leave on the jets and pumps they name, and that the other operations of HYD leave
those standing (R82, R100, R106, R107). -/

namespace Sys2Proof.Proofs.Orders

open Sys2Proof Sys2Proof.Machine Sys2Proof.Proofs.StepEffects Sys2Proof.Proofs.Water Sys2Proof.Proofs.Tripped

variable {J : JetId → Prop} {I : PumpId → Prop} {b : Bool} {c d : Chip}

/-- No pump. -/
abbrev noPump : PumpId → Prop := fun _ => False

/-! ## What jets and pumps are told -/

/-- What the last demand write has put on a jet (R106). -/
def orderOf (c : Chip) (j : JetId) : Owner × Nat × Option Nat := ((c.jets[j]).owner, (c.jets[j]).demand, (c.jets[j]).burstEnd)

/-- The intent and the policy of a pump (R79). -/
def driveOf (c : Chip) (p : PumpId) : Intent × Policy := ((c.pumps[p]).intent, (c.pumps[p]).policy)

theorem orderOf_iff {j : JetId} {owner : Owner} {demand : Nat} {burstEnd : Option Nat} : orderOf c j = (owner, demand, burstEnd) ↔
    (c.jets[j]).owner = owner ∧ (c.jets[j]).demand = demand ∧ (c.jets[j]).burstEnd = burstEnd := by
  simp [orderOf]

theorem orderOf_eq_iff {j : JetId} : orderOf d j = orderOf c j ↔
    (d.jets[j]).owner = (c.jets[j]).owner ∧ (d.jets[j]).demand = (c.jets[j]).demand ∧ (d.jets[j]).burstEnd = (c.jets[j]).burstEnd :=
  orderOf_iff

theorem driveOf_iff {p : PumpId} {intent : Intent} {policy : Policy} : driveOf c p = (intent, policy) ↔
    (c.pumps[p]).intent = intent ∧ (c.pumps[p]).policy = policy := by
  simp [driveOf]

theorem orderOf_of_jets (h : d.jets = c.jets) (j : JetId) : orderOf d j = orderOf c j := by rw [orderOf, orderOf, h]

theorem driveOf_of_pumps (h : d.pumps = c.pumps) (p : PumpId) : driveOf d p = driveOf c p := by rw [driveOf, driveOf, h]

theorem enterState_order (c : Chip) (p : PumpId) (st : PumpState) (fault : Option PumpFault) (j : JetId) :
    orderOf (c.enterState p st fault) j = orderOf c j := by
  have followed := followPump_jet (c.updPump p fun _ => entered c p st fault) p j
  rw [show c.enterState p st fault = (c.updPump p fun _ => entered c p st fault).followPump p from rfl, orderOf, followed]
  split
  · simp only [Chip.settleJet_owner, Chip.settleJet_demand, Chip.settleJet_burstEnd, Chip.updPump_jets]; rfl
  · rfl

theorem jetWritten_order (c : Chip) (owner : Owner) (demand : Nat) (burstEnd : Option Nat) (j : JetId) :
    ((jetWritten c owner demand burstEnd j).owner, (jetWritten c owner demand burstEnd j).demand,
      (jetWritten c owner demand burstEnd j).burstEnd) = (owner, demand, burstEnd) := by
  unfold jetWritten
  split
  next zero => rw [zero]
  next => simp only [Chip.settleJet_owner, Chip.settleJet_demand, Chip.settleJet_burstEnd]

theorem demandWritten_order (c : Chip) (owner : Owner) (demand : Nat) (burstEnd : Option Nat) (j k : JetId) :
    orderOf (demandWritten c owner demand burstEnd j) k = if k = j then (owner, demand, burstEnd) else orderOf c k := by
  rw [orderOf, demandWritten_jet]
  split
  · exact jetWritten_order c owner demand burstEnd j
  · rfl

/-- Only a demand write on the jet changes what it is told. -/
theorem waterMoves_order {j : JetId} (h : WaterMoves J I b c d) (out : ¬J j) : orderOf d j = orderOf c j := by
  refine h.rel (R := fun c d => orderOf d j = orderOf c j) (fun _ => rfl) (fun h k => k.trans h) (fun {_ c d} m => ?_) fun _ => rfl
  cases m with
  | enter _ p st fault => exact enterState_order c p st fault j
  | grant _ e =>
    exact granted_rel (R := fun c d => orderOf d j = orderOf c j) (fun h k => k.trans h) c e rfl
      (fun d => enterState_order d _ _ _ j) fun _ _ => rfl
  | write _ owner demand burstEnd k named =>
    rw [demandWritten_order, if_neg fun same : j = k => out (same ▸ named)]
  | dequeue | join | drive | timers | faultNotice | count => rfl

theorem updPump_drive (c : Chip) (p q : PumpId) (f : Pump → Pump) : driveOf (c.updPump p f) q =
    if q = p then ((f c.pumps[p]).intent, (f c.pumps[p]).policy) else driveOf c q := by
  simp only [driveOf, Fin.getElem_fin, Chip.updPump_pump]
  split <;> rfl

theorem updPump_drive_same (c : Chip) (p q : PumpId) {f : Pump → Pump}
    (same : ((f c.pumps[p]).intent, (f c.pumps[p]).policy) = driveOf c p) : driveOf (c.updPump p f) q = driveOf c q := by
  rw [updPump_drive]
  split
  next e => rw [e, same]
  next => rfl

theorem enterState_drive (c : Chip) (p q : PumpId) (st : PumpState) (fault : Option PumpFault) :
    driveOf (c.enterState p st fault) q = driveOf c q := by
  rw [driveOf, enterState_pump]
  split
  next e => rw [e]; rfl
  next => rfl

/-- Only a drive of the pump changes its intent and policy. -/
theorem waterMoves_drive {p : PumpId} (h : WaterMoves J I b c d) (out : ¬I p) : driveOf d p = driveOf c p := by
  refine h.rel (R := fun c d => driveOf d p = driveOf c p) (fun _ => rfl) (fun h k => k.trans h) (fun {_ c d} m => ?_) fun _ => rfl
  cases m with
  | enter _ q st fault => exact enterState_drive c q p st fault
  | grant _ e =>
    rw [driveOf, granted_pump]
    split
    next same => rw [same]; rfl
    next => rfl
  | drive _ q f named writes => rw [updPump_drive, if_neg fun same : p = q => out (same ▸ named)]
  | timers _ q f writes => exact updPump_drive_same c q p (by rw [writes]; rfl)
  | write => exact driveOf_of_pumps (demandWritten_pumps _ _ _ _ _) p
  | dequeue | join | faultNotice | count => rfl

/-- From `c` to `d` the jet has stood, if it was CLOSED. -/
def StaysShut (j : JetId) (c d : Chip) : Prop := (c.jets[j]).state = .closed → d.jets[j] = c.jets[j]

theorem StaysShut.trans {j : JetId} {e : Chip} (h : StaysShut j c d) (k : StaysShut j d e) : StaysShut j c e := fun shut =>
  (k (by rw [h shut]; exact shut)).trans (h shut)

/-- A CLOSED jet stays as it is until a demand is written on it. -/
theorem waterMoves_closed {j : JetId} (h : WaterMoves J I b c d) (out : ¬J j) : StaysShut j c d := by
  refine h.rel (fun _ _ => rfl) .trans (fun {_ x y} m shut => ?_) fun _ _ => rfl
  cases m with
  | enter _ p st fault => exact enterState_jet x p st fault shut
  | grant _ e =>
    exact granted_rel (R := StaysShut j) .trans x e (fun _ => rfl) (fun d shut => enterState_jet d _ _ _ shut) (fun _ _ _ => rfl) shut
  | write _ owner demand burstEnd k named => rw [demandWritten_jet, if_neg fun same : j = k => out (same ▸ named)]
  | dequeue | join | drive | timers | faultNotice | count => rfl

/-! ## The demand writes -/

theorem demandWrite_after (c : Chip) (owner : Owner) (demand : Nat) (burstEnd : Option Nat) (j : JetId) :
    WaterMoves noJet noPump true (demandWritten c owner demand burstEnd j) (c.demandWrite owner demand burstEnd j) := by
  rw [demandWrite_eq]
  exact .ite (.ite (.refl _) (demandAppears_moves _ _ _)) (.ite (demandLost_moves _ _ _) (.refl _))

theorem demandWrite_order (c : Chip) (owner : Owner) (demand : Nat) (burstEnd : Option Nat) (j k : JetId) :
    orderOf (c.demandWrite owner demand burstEnd j) k = if k = j then (owner, demand, burstEnd) else orderOf c k := by
  rw [waterMoves_order (demandWrite_after c owner demand burstEnd j) not_false, demandWritten_order]

/-- A demand of 0 shuts the jet. -/
theorem demandWrite_shut (c : Chip) (owner : Owner) (burstEnd : Option Nat) (j : JetId) :
    (c.demandWrite owner 0 burstEnd j).jets[j] = ⟨.closed, owner, 0, burstEnd, none, 0⟩ := by
  have written : (demandWritten c owner 0 burstEnd j).jets[j] = ⟨.closed, owner, 0, burstEnd, none, 0⟩ := by
    rw [demandWritten_jet, if_pos rfl]; rfl
  rw [waterMoves_closed (demandWrite_after c owner 0 burstEnd j) not_false (by rw [written]), written]

theorem demandWrite_other (c : Chip) (owner : Owner) (demand : Nat) (burstEnd : Option Nat) {j k : JetId} (other : k ≠ j)
    (closed : (c.jets[k]).state = .closed) : (c.demandWrite owner demand burstEnd j).jets[k] = c.jets[k] :=
  waterMoves_closed (demandWrite_moves (J := (· = j)) (I := noPump) c owner demand burstEnd rfl) other closed

theorem mem_jetsIn {set : JetSet} {j : JetId} : j ∈ jetsIn set ↔ set.getLsbD j.val = true := by simp [jetsIn]

theorem mem_pumpsIn {set : PumpSet} {p : PumpId} : p ∈ pumpsIn set ↔ set.getLsbD p.val = true := by simp [pumpsIn]

/-- Demand writes that put the same on a jet each time put it on the jets of the list, and leave the other jets. -/
theorem forEach_order (js : List JetId) (owner : JetId → Owner) (demand : JetId → Nat) (burstEnd : JetId → Option Nat) (c : Chip)
    (j : JetId) : orderOf (c.forEach js fun j c => c.demandWrite (owner j) (demand j) (burstEnd j) j) j =
      if j ∈ js then (owner j, demand j, burstEnd j) else orderOf c j := by
  split
  next mem =>
    refine forEach_makes (P := fun j c => orderOf c j = (owner j, demand j, burstEnd j)) (fun k d => ?_) (fun k i d same => ?_)
      js c j mem
    · rw [demandWrite_order, if_pos rfl]
    · rw [demandWrite_order]
      split
      next e => rw [e]
      next => exact same
  next out =>
    refine Chip.forEach_keeps (P := fun d => orderOf d j = orderOf c j) js (fun k mem d same => ?_) rfl
    rw [demandWrite_order, if_neg fun e : j = k => out (e ▸ mem)]
    exact same

theorem demandWrites_order (js : List JetId) (owner : Owner) (demand : Nat) (c : Chip) (j : JetId) :
    orderOf (c.demandWrites js owner demand) j = if j ∈ js then (owner, demand, none) else orderOf c j :=
  forEach_order js (fun _ => owner) (fun _ => demand) (fun _ => none) c j

/-- The jets of the list are shut by demands of 0. -/
theorem demandWrites_shut (js : List JetId) (owner : Owner) (c : Chip) : ∀ j ∈ js,
    (c.demandWrites js owner 0).jets[j] = ⟨.closed, owner, 0, none, none, 0⟩ := by
  refine forEach_makes (P := fun j c => c.jets[j] = ⟨.closed, owner, 0, none, none, 0⟩) (fun j d => demandWrite_shut d owner none j)
    (fun j k d shut => ?_) js c
  by_cases same : j = k
  · subst same
    exact demandWrite_shut d owner none j
  · rw [demandWrite_other d owner 0 none same (by rw [shut]), shut]

theorem demandWrites_all_shut (owner : Owner) (c : Chip) :
    (c.demandWrites (List.finRange 48) owner 0).jets = Vector.replicate 48 ⟨.closed, owner, 0, none, none, 0⟩ := by
  refine Vector.ext fun n inside => ?_
  rw [Vector.getElem_replicate]
  exact demandWrites_shut _ owner c ⟨n, inside⟩ (List.mem_finRange _)

/-! ## The drives -/

section Drives

variable (c) (p : PumpId)

theorem intentRun_after (r : Requester) :
    WaterMoves noJet noPump true (c.updPump p fun q => { q with intent := .run }) (c.intentRun p r) := by
  unfold Chip.intentRun
  exact .trans (.ite (.refl _) (demandAppears_moves _ p r)) (startRequest_moves _ p r)

theorem intentStop_after : WaterMoves noJet noPump b (c.updPump p fun q => { q with intent := .stop }) (c.intentStop p) :=
  stopUnlessDemanded_moves _ p

theorem setPolicy_after (policy : Policy) :
    WaterMoves noJet noPump true (c.updPump p fun q => { q with policy := policy }) (c.setPolicy p policy) := by
  unfold Chip.setPolicy
  exact .ite (.ite (.refl _) (demandAppears_moves _ p _)) (.ite (stopRequest_moves _ p) (.refl _))

theorem handDrive_after (intent : Intent) (policy : Policy) (atOnce : Bool) : WaterMoves noJet noPump true
    (c.updPump p fun q => { q with intent := intent, policy := policy }) (c.handDrive p intent policy atOnce) := by
  unfold Chip.handDrive
  exact .ite (.trans (.ite (.refl _) (demandAppears_moves _ p _)) (startRequest_moves _ p _))
    (.ite (stopRequest_moves _ p) (.refl _))

variable (q : PumpId)

theorem intentRun_drive (r : Requester) :
    driveOf (c.intentRun p r) q = if q = p then (.run, (c.pumps[p]).policy) else driveOf c q := by
  rw [waterMoves_drive (intentRun_after c p r) not_false, updPump_drive]

theorem intentStop_drive : driveOf (c.intentStop p) q = if q = p then (.stop, (c.pumps[p]).policy) else driveOf c q := by
  rw [waterMoves_drive (intentStop_after (b := true) c p) not_false, updPump_drive]

theorem setPolicy_drive (policy : Policy) :
    driveOf (c.setPolicy p policy) q = if q = p then ((c.pumps[p]).intent, policy) else driveOf c q := by
  rw [waterMoves_drive (setPolicy_after c p policy) not_false, updPump_drive]

theorem handDrive_drive (intent : Intent) (policy : Policy) (atOnce : Bool) :
    driveOf (c.handDrive p intent policy atOnce) q = if q = p then (intent, policy) else driveOf c q := by
  rw [waterMoves_drive (handDrive_after c p intent policy atOnce) not_false, updPump_drive]

end Drives

/-- Drives that turn what a pump is told into `told` each time turn it so on the pumps of the list, and leave the other pumps. -/
theorem forEach_drive {f : PumpId → Chip → Chip} (told : PumpId → Intent × Policy → Intent × Policy)
    (idempotent : ∀ p x, told p (told p x) = told p x)
    (step : ∀ p c q, driveOf (f p c) q = if q = p then told p (driveOf c p) else driveOf c q) (ps : List PumpId) (c : Chip) (p : PumpId) :
    driveOf (c.forEach ps f) p = if p ∈ ps then told p (driveOf c p) else driveOf c p := by
  induction ps generalizing c with
  | nil => simp
  | cons q ps ih =>
    rw [Chip.forEach_cons, ih, step]
    by_cases same : p = q
    · subst same
      simp [idempotent]
    · simp [same]

end Sys2Proof.Proofs.Orders


/-! PROOF. The tests that follow a command (`settle`): when each of them does nothing, and what the flush they may begin leaves
standing (R45, R123, R156, R161, R164). -/

namespace Sys2Proof.Proofs.Settling

open Sys2Proof Sys2Proof.Machine Sys2Proof.Proofs.StepEffects Sys2Proof.Proofs.Water Sys2Proof.Proofs.Tripped Sys2Proof.Proofs.Orders

variable {J : JetId → Prop} {b : Bool} {c d e before : Chip}

/-! ## Tests that do nothing -/

theorem testRestore_stands (h : c.run.cue ≠ .restoring ∨ c.waterRestored = false) : c.testRestore = c :=
  if_neg fun ⟨restoring, restored⟩ => h.elim (absurd restoring) (by simp [restored])

theorem testEnding_stands (h : c.run.cue ≠ .ending ∨ c.pumpsDown = false ∨ c.lampsDark = false) : c.testEnding = c :=
  if_neg fun ⟨ending, down, dark⟩ => by
    rcases h with other | up | lit
    · exact other ending
    · rw [up] at down; cases down
    · rw [lit] at dark; cases dark

theorem testFlush_stands (h : c.flushDue = false) : c.testFlush = c := if_neg (by rw [h]; exact Bool.false_ne_true)

theorem testPower_stands (h : c.mode.mode ≠ .dormant) : c.testPower = c := if_neg fun ⟨dormant, _⟩ => h dormant

theorem flushDue_iff : c.flushDue = true ↔ 0 < c.circ.debt ∧ c.circ.flush = none ∧ c.mayFlush ∧ ∃ z : ZoneId, c.flushable z = true := by
  simp [Chip.flushDue, and_assoc]

theorem not_flushDue_of_debt (h : c.circ.debt = 0) : c.flushDue = false := by simp [Chip.flushDue, h]

theorem not_flushDue_of_mode (dormant : c.mode.mode ≠ .dormant) (standby : c.mode.mode ≠ .standby) : c.flushDue = false := by
  simp [Chip.flushDue, dormant, standby]

theorem not_flushDue_of_cue (idle : c.run.cue ≠ .idle) (cued : c.run.cue ≠ .cued) : c.flushDue = false := by
  simp [Chip.flushDue, idle, cued]

/-- The dormancy timer after a command (R161). -/
def dormancyAfter (before c : Chip) : Option Timer :=
  if !c.unattended then none
  else if before.unattended then c.mode.dormancy
  else if c.limits.site.dormancy = 0 then none else some ⟨c.now, c.limits.site.dormancy⟩

theorem testDormancy_eq (before c : Chip) :
    Chip.testDormancy before c = { c with mode := { c.mode with dormancy := dormancyAfter before c } } := by
  unfold Chip.testDormancy dormancyAfter
  split
  · rfl
  · split <;> rfl

theorem dormancyAfter_attended (h : c.mode.mode ≠ .standby ∨ c.run.cue ≠ .idle ∨ c.mode.flushRunning = true) :
    dormancyAfter before c = none := by
  have attended : c.unattended = false := by
    rcases h with mode | cue | flush
    · simp [Chip.unattended, mode]
    · simp [Chip.unattended, cue]
    · simp [Chip.unattended, flush]
  rw [dormancyAfter, attended]
  rfl

/-- The tests are CUE's and CIR's, then MOD's on the power and the timer. -/
theorem settle_eq (before c : Chip) :
    Chip.settle before c = Chip.testDormancy before (c.testRestore.testEnding.testFlush.testPower) := rfl

/-- Where no test finds its condition, only the dormancy timer is set. -/
theorem settle_stands (restore : c.run.cue ≠ .restoring ∨ c.waterRestored = false)
    (ending : c.run.cue ≠ .ending ∨ c.pumpsDown = false ∨ c.lampsDark = false) (flush : c.flushDue = false)
    (mode : c.mode.mode ≠ .dormant) :
    Chip.settle before c = { c with mode := { c.mode with dormancy := dormancyAfter before c } } := by
  rw [settle_eq, testRestore_stands restore, testEnding_stands ending, testFlush_stands flush, testPower_stands mode, testDormancy_eq]

/-- In SHOW and MANUAL, outside RESTORING and ENDING, the dormancy timer stops and that is all. -/
theorem settle_attended (restore : c.run.cue ≠ .restoring ∨ c.waterRestored = false)
    (ending : c.run.cue ≠ .ending ∨ c.pumpsDown = false ∨ c.lampsDark = false) (dormant : c.mode.mode ≠ .dormant)
    (standby : c.mode.mode ≠ .standby) : Chip.settle before c = { c with mode := { c.mode with dormancy := none } } := by
  rw [settle_stands restore ending (not_flushDue_of_mode dormant standby) dormant, dormancyAfter_attended (.inl standby)]

/-! ## What a flush leaves standing -/

/-- From `c` to `d` the water, the power, the flush and the dormancy timer alone have changed, no pump's intent and policy, and
PUMP_FAULT alone has been raised. -/
structure Calm (c d : Chip) : Prop where
  frame : d = { c with
    pumps := d.pumps, queue := d.queue, joining := d.joining, history := d.history, jets := d.jets
    circ := d.circ, mode := d.mode, links := d.links }
  mode : d.mode = { c.mode with
    power := d.mode.power, settle := d.mode.settle, flushRunning := d.mode.flushRunning, dormancy := d.mode.dormancy }
  drives : ∀ p, driveOf d p = driveOf c p
  noted : Noted [.pumpFault] c d

namespace Calm

theorem refl (c : Chip) : Calm c c := ⟨rfl, rfl, fun _ => rfl, .refl c⟩

theorem trans (h : Calm c d) (k : Calm d e) : Calm c e where
  frame := by
    refine k.frame.trans ?_
    rw [h.frame]
  mode := by
    refine k.mode.trans ?_
    rw [h.mode]
  drives p := (k.drives p).trans (h.drives p)
  noted := h.noted.trans k.noted

theorem moves (h : WaterMoves J noPump b c d) : Calm c d where
  frame := by
    have water := waterMoves_water h
    refine water.1.trans ?_
    rw [water.mode]
  mode := by rw [(waterMoves_water h).mode]
  drives _ := waterMoves_drive h not_false
  noted := waterMoves_noted h

theorem circ (c : Chip) (r : Circulation) : Calm c { c with circ := r } := ⟨rfl, rfl, fun _ => rfl, .of_links rfl⟩

theorem setMode (c : Chip) (m : ModeRecord) (same : m = { c.mode with
    power := m.power, settle := m.settle, flushRunning := m.flushRunning, dormancy := m.dormancy }) : Calm c { c with mode := m } :=
  ⟨rfl, same, fun _ => rfl, .of_links rfl⟩

theorem circ_mode (c : Chip) (r : Circulation) (m : ModeRecord) (same : m = { c.mode with
    power := m.power, settle := m.settle, flushRunning := m.flushRunning, dormancy := m.dormancy }) :
    Calm c { c with circ := r, mode := m } :=
  ⟨rfl, same, fun _ => rfl, .of_links rfl⟩

theorem jets (c : Chip) (js : Vector Jet 48) : Calm c { c with jets := js } := ⟨rfl, rfl, fun _ => rfl, .of_links rfl⟩

theorem ite {p : Prop} [Decidable p] (h : p → Calm c d) (k : ¬p → Calm c e) : Calm c (if p then d else e) := by
  split
  next yes => exact h yes
  next no => exact k no

theorem endEvent (c : Chip) : Calm c c.endEvent := moves (J := noJet) (b := false) (endEvent_moves (.refl c))

theorem run (h : Calm c d) : d.run = c.run := by rw [h.frame]
theorem limits (h : Calm c d) : d.limits = c.limits := by rw [h.frame]
theorem now (h : Calm c d) : d.now = c.now := by rw [h.frame]
theorem image (h : Calm c d) : d.image = c.image := by rw [h.frame]
theorem clock (h : Calm c d) : d.clock = c.clock := by rw [h.frame]
theorem pages (h : Calm c d) : d.pages = c.pages := by rw [h.frame]
theorem playback (h : Calm c d) : d.playback = c.playback := by rw [h.frame]
theorem outputs (h : Calm c d) : d.outputs = c.outputs := by rw [h.frame]
theorem lampLine (h : Calm c d) : d.lampLine = c.lampLine := by rw [h.frame]
theorem modeIs (h : Calm c d) : d.mode.mode = c.mode.mode := by rw [h.mode]
theorem wake (h : Calm c d) : d.mode.wake = c.mode.wake := by rw [h.mode]
theorem restore (h : Calm c d) : d.mode.restore = c.mode.restore := by rw [h.mode]

end Calm

section Operations

variable (c)

theorem recaused_calm (m : ModeRecord) (same : m = { c.mode with
    power := m.power, settle := m.settle, flushRunning := m.flushRunning, dormancy := m.dormancy }) :
    Calm c (Chip.recauseJets { c with mode := m }) := by
  unfold Chip.recauseJets
  exact (Calm.setMode c m same).trans (.jets _ _)

theorem raisePower_calm : Calm c c.raisePower := .ite (fun _ => recaused_calm c _ rfl) fun _ => .refl c
theorem dropPower_calm : Calm c c.dropPower := recaused_calm c _ rfl
theorem powerOn_calm : Calm c c.powerOn := recaused_calm c _ rfl
theorem testPower_calm : Calm c c.testPower := .ite (fun _ => dropPower_calm c) fun _ => .refl c

/-- The jets written for a flush of the zone `z`, before MOD hears of it. -/
def flushWritten (mode : FlushMode) (z : ZoneId) : Chip :=
  Chip.endEvent (Chip.demandWrites
    { c with circ := { c.circ with flush := some ⟨mode, z, c.now, c.limits.site.flushHeight, c.limits.site.flushDuration, 0, 0,
        Vector.replicate 12 false⟩ } } (c.zoneJets z) .flush c.limits.site.flushHeight)

/-- MOD hears that a flush runs, and raises the power in DORMANT (R129). -/
def flushTold : Chip :=
  let d := { c with mode := { c.mode with flushRunning := true } }
  if d.mode.mode = .dormant then d.raisePower else d

theorem beginFlush_eq (mode : FlushMode) (z : ZoneId) : c.beginFlush mode z = flushTold (flushWritten c mode z) := rfl

theorem flushWritten_calm (mode : FlushMode) (z : ZoneId) : Calm c (flushWritten c mode z) := by
  have begun := Calm.circ c { c.circ with flush := some ⟨mode, z, c.now, c.limits.site.flushHeight, c.limits.site.flushDuration, 0, 0,
    Vector.replicate 12 false⟩ }
  exact begun.trans (.moves (J := anyJet) (b := false) (endEvent_moves (demandWrites_moves _ _ _ fun _ _ => trivial)))

theorem flushTold_calm : Calm c (flushTold c) := by
  have told : Calm c { c with mode := { c.mode with flushRunning := true } } := .setMode c _ rfl
  exact .ite (fun _ => told.trans (raisePower_calm _)) fun _ => told

theorem beginFlush_calm (mode : FlushMode) (z : ZoneId) : Calm c (c.beginFlush mode z) := by
  rw [beginFlush_eq]
  exact (flushWritten_calm c mode z).trans (flushTold_calm _)

theorem testFlush_calm : Calm c c.testFlush := by
  unfold Chip.testFlush
  extract_lets z
  exact .ite (fun _ => (Calm.circ c _).trans (beginFlush_calm _ .single z)) fun _ => .refl c

theorem testDormancy_calm (before : Chip) : Calm c (Chip.testDormancy before c) := by
  rw [testDormancy_eq]
  exact .setMode c _ rfl

theorem releaseStarted_calm (started : Vector Bool 12) : Calm c (c.releaseStarted started) :=
  .moves (J := noJet) (b := false) (.forEach fun p _ d => stopUnlessDemanded_moves d p)

theorem releaseJets_calm : Calm c c.releaseJets :=
  .moves (J := anyJet) (b := false) (demandWrites_zero_moves _ _ fun _ _ => trivial)

theorem dropFlush_calm : Calm c c.dropFlush := .circ_mode c _ _ rfl

theorem closeFlush_calm (f : Flush) : Calm c (c.closeFlush f) :=
  (((releaseJets_calm c).trans (releaseStarted_calm _ f.started)).trans (dropFlush_calm _)).trans (.endEvent _)

theorem cutFlush_calm : Calm c c.cutFlush := by
  have paid (f : Flush) : Calm c (if f.counts then c.payDebt.advancePointer f.zone else c) :=
    .ite (fun _ => (Calm.circ c _).trans (.circ _ _)) fun _ => .refl c
  unfold Chip.cutFlush
  split
  · exact .refl c
  next f _ => exact ((paid f).trans (releaseStarted_calm _ f.started)).trans (dropFlush_calm _)

end Operations

/-- In IDLE and CUED the tests change the water, the power, the flush and the dormancy timer alone. -/
theorem settle_calm (before : Chip) (cue : c.run.cue = .idle ∨ c.run.cue = .cued) : Calm c (Chip.settle before c) := by
  have not_restoring : c.run.cue ≠ .restoring := by rcases cue with h | h <;> rw [h] <;> nofun
  have not_ending : c.run.cue ≠ .ending := by rcases cue with h | h <;> rw [h] <;> nofun
  rw [settle_eq, testRestore_stands (.inl not_restoring), testEnding_stands (.inl not_ending)]
  exact ((testFlush_calm c).trans (testPower_calm _)).trans (testDormancy_calm _ before)

/-! ## Notices heard -/

/-- The notices a command raises, of all that it may have raised. -/
theorem noticed_of_noted {raised may all : List Notice} (h : Noted all c d)
    (heard : ∀ n ∈ raised, ∀ m : LinkId, n ∈ (d.links[m]).notices) (only : ∀ n ∈ all, n ∈ raised ∨ n ∈ may) :
    c.noticed d raised may := fun m =>
  ⟨by rw [List.append_nil]; exact (h m).rest, (h m).kept, fun n mem => heard n mem m,
    fun n mem => ((h m).gained n mem).imp_right (only n)⟩

theorem Noted.keeps {may : List Notice} (h : Noted may c d) {n : Notice} (heard : ∀ m : LinkId, n ∈ (c.links[m]).notices) (m : LinkId) :
    n ∈ (d.links[m]).notices := (h m).kept n (heard m)

theorem notify_heard (c : Chip) (n : Notice) (m : LinkId) : n ∈ ((c.notify n).links[m]).notices := by
  rw [show (c.notify n).links[m] = { c.links[m] with notices := withNotice n (c.links[m]).notices } by simp]
  exact mem_withNotice n _

end Sys2Proof.Proofs.Settling


/-! PROOF. Requests of the panel and of the show that write one record (O12, O34). -/

namespace Sys2Proof.Proofs.Requests

open Sys2Proof Sys2Proof.Machine Sys2Proof.Proofs.Water Sys2Proof.Proofs.Settling
  Sys2Proof.Proofs.ShowHeart

variable {i : Instr} {s : State} {l : LinkId} {kind : Nat} {c d : Chip}

/-! ## The gate of the manual requests (R100, R113, R135) -/

section Gate

variable {valid : Bool} {act : Chip → Chip}

theorem manualStages_dormant (h : c.mode.mode = .dormant) : manualStages valid act c = c.refuse .state := if_pos h

theorem manualStages_other (dormant : c.mode.mode ≠ .dormant) (manual : c.mode.mode ≠ .manual) :
    manualStages valid act c = c.refuse .notOwner := by
  rw [manualStages, if_neg dormant, if_pos manual]

theorem manualStages_invalid (h : c.mode.mode = .manual) (bad : valid = false) : manualStages valid act c = c.refuse .badArg := by
  rw [manualStages, if_neg (by rw [h]; nofun), if_neg (not_not_intro h), if_pos (by rw [bad]; rfl)]

theorem manualStages_act (h : c.mode.mode = .manual) (good : valid = true) : manualStages valid act c = (act c).taken := by
  rw [manualStages, if_neg (by rw [h]; nofun), if_neg (not_not_intro h), if_neg (by rw [good]; exact Bool.false_ne_true)]

theorem Reacts.refuses_dormant (h : Reacts i s l kind (manualStages valid act)) (dormant : s.chip.mode.mode = .dormant) :
    Refuses i s l kind .state := h.refuses (manualStages_dormant dormant)

theorem Reacts.refuses_notOwner (h : Reacts i s l kind (manualStages valid act)) (dormant : s.chip.mode.mode ≠ .dormant)
    (manual : s.chip.mode.mode ≠ .manual) : Refuses i s l kind .notOwner := h.refuses (manualStages_other dormant manual)

end Gate

/-! ## LIGHT_SET (R135) -/

theorem inLights_channelOf (lums : LumSet) (mask : ChannelMask) (u : LumId) (k : ColourId) :
    inLights lums mask (channelOf u k) = true ↔ lums.getLsbD u.val = true ∧ mask.getLsbD k.val = true := by
  simp only [inLights, lumOf_channelOf, colourOf_channelOf, Bool.and_eq_true]

/-- The panel layer after fades on real time (R135). -/
def panelFaded (c : Chip) (lums : LumSet) (mask : ChannelMask) (level : ColourId → Nat) (duration : Nat) : Vector Fade 128 :=
  Vector.ofFn fun i => if inLights lums mask i then ⟨c.panelLevel i, level (colourOf i), c.now, duration, .localTime⟩ else c.panelLayer[i]

theorem fadePanel_eq (c : Chip) (lums : LumSet) (mask : ChannelMask) (level : ColourId → Nat) (duration : Nat) :
    c.fadePanel lums mask level duration = { c with panelLayer := panelFaded c lums mask level duration } := by
  rw [Chip.fadePanel, panelFaded]

theorem panelFaded_channel (c : Chip) (lums : LumSet) (mask : ChannelMask) (level : ColourId → Nat) (duration : Nat) (u : LumId)
    (k : ColourId) : (panelFaded c lums mask level duration)[channelOf u k] =
      if lums.getLsbD u.val = true ∧ mask.getLsbD k.val = true then
        ⟨c.panelLevel (channelOf u k), level k, c.now, duration, .localTime⟩
      else c.panelLayer[channelOf u k] := by
  simp only [panelFaded, Fin.getElem_fin, Vector.getElem_ofFn, Fin.eta, inLights_channelOf, colourOf_channelOf]

/-- A layer written for the panel, and the reply to that. -/
theorem panelLayer_takes {rule : Rule} {fades : Vector Fade 128} (h : Reacts i s l kind rule)
    (ruled : rule s.chip = Chip.taken { s.chip with panelLayer := fades }) :
    Takes i s l kind [] [] fun d => d = { s.chip with panelLayer := d.panelLayer, links := d.links } ∧ d.panelLayer = fades :=
  h.takes ruled (noticed_of_links rfl) ⟨rfl, rfl⟩

theorem lightLevel_eq (red green blue white : Nat) (k : ColourId) :
    lightLevel red green blue white k = min 4095 (#v[red, green, blue, white])[k] := by
  fin_cases k <;> rfl

/-- Settles O34. -/
theorem lightSetFadesThePanelLayer : Obligations.LightSetFadesThePanelLayer := by
  rintro s l lums mask red green blue white fade heard _ rfl
  have reacts : Reacts (.lightSet l lums mask red green blue white fade) s l 27
      (manualStages (true && decide (lums ≠ 0) && decide (mask ≠ 0)) fun c =>
        c.fadePanel lums mask (lightLevel red green blue white) fade) := reacts_of_hears rfl rfl heard
  refine ⟨reacts.refuses_dormant, reacts.refuses_notOwner, fun manual empty => reacts.refuses (manualStages_invalid manual ?_),
    fun manual some_lum some_channel => ?_⟩
  · rcases empty with rfl | rfl <;> simp
  · have ruled := manualStages_act (c := s.chip) (act := fun c => c.fadePanel lums mask (lightLevel red green blue white) fade) manual
      (show (true && decide (lums ≠ 0) && decide (mask ≠ 0)) = true by rw [decide_eq_true some_lum, decide_eq_true some_channel]; rfl)
    rw [fadePanel_eq] at ruled
    obtain ⟨d, next, answered, frame, layer⟩ := panelLayer_takes reacts ruled
    refine ⟨d, next, answered, frame, fun u k => ?_⟩
    rw [layer, panelFaded_channel, lightLevel_eq]

/-! ## PAUSE and CONTINUE (R41, R42) -/

theorem holdAudio_eq (c : Chip) : c.holdAudio = { c with playback :=
    if c.playback.state = .playing ∨ c.playback.state = .starved then { c.playback with state := .held } else c.playback } := by
  unfold Chip.holdAudio
  split
  next h => rw [if_pos (.inl h)]
  next h => rw [if_pos (.inr h)]
  all_goals
    next h => rw [if_neg (by rw [h]; simp)]

/-- A show that is not PAUSED pauses, and SHOW_STATE is noticed. -/
theorem pauseShow_eq (cause : PauseCause) (h : c.run.cue ≠ .paused) : c.pauseShow cause = Chip.notify { c with
    run := { c.run with cue := .paused, pauseCause := some cause }
    clock := { c.clock with running := false }
    playback := if c.playback.state = .playing ∨ c.playback.state = .starved then { c.playback with state := .held } else c.playback }
    .showState := by
  unfold Chip.pauseShow
  rw [holdAudio_eq, if_neg h]
  rfl

theorem pause_takes (heard : s.chip.hears l 10) (running : s.chip.run.cue = .running) :
    Takes (.pause l) s l 10 [.showState] [] fun d =>
      d = { s.chip with
        run := { s.chip.run with cue := .paused, pauseCause := some .program }
        clock := { s.chip.clock with running := false }
        playback :=
          if s.chip.playback.state = .playing ∨ s.chip.playback.state = .starved then { s.chip.playback with state := .held }
          else s.chip.playback
        links := d.links } := by
  have reacts : Reacts (.pause l) s l 10 rulePause := reacts_of_hears rfl rfl heard
  have ruled : rulePause s.chip = (s.chip.pauseShow .program).taken := if_pos running
  rw [pauseShow_eq .program (by rw [running]; nofun)] at ruled
  refine reacts.takes ruled (noticed_of_noted (all := [.showState]) ?_ ?_ (by simp)) rfl
  · exact .trans (.of_links rfl) (.notify (by simp) _)
  · exact List.forall_mem_singleton.mpr (notify_heard _ _)

/-- Music that goes on writes the playback and the clock, and may raise AUDIO_STARVED (R70). -/
theorem resumeAudio_eq (c : Chip) : c.resumeAudio = { c with
    playback := (musicResumed c.playback c.clock c.now).1
    clock := (musicResumed c.playback c.clock c.now).2
    links := c.resumeAudio.links } := by
  unfold Chip.resumeAudio musicResumed
  split
  · rfl
  split
  · rfl
  split <;> rfl

theorem resumeAudio_noted (c : Chip) : Noted [.audioStarved] c c.resumeAudio :=
  .ite (.refl c) (.ite (.of_links rfl) (.ite (.of_links rfl) (.trans (.of_links rfl) (.notify (by simp) _))))

theorem fill_pos {a : Playback} (h : a.buffer ≠ []) : 0 < a.fill := List.length_pos_iff.mpr h

theorem musicResumed_other {a : Playback} {k : ShowClock} {now : Nat} (h : a.state ≠ .held) : musicResumed a k now = (a, k) := if_pos h

theorem musicResumed_over {a : Playback} {k : ShowClock} {now : Nat} (held : a.state = .held) (ended : a.streamEnd ≤ a.p) :
    musicResumed a k now = musicOver a k now := by
  rw [musicResumed, if_neg (not_not_intro held), if_pos ended]

theorem musicResumed_plays {a : Playback} {k : ShowClock} {now : Nat} (held : a.state = .held) (before : a.p < a.streamEnd)
    (filled : a.buffer ≠ []) : musicResumed a k now = ({ a with state := .playing }, k) := by
  rw [musicResumed, if_neg (not_not_intro held), if_neg (Nat.not_le.mpr before), if_pos (fill_pos filled)]

theorem musicResumed_starves {a : Playback} {k : ShowClock} {now : Nat} (held : a.state = .held) (before : a.p < a.streamEnd)
    (empty : a.buffer = []) : musicResumed a k now = ({ a with state := .starved }, k) := by
  rw [musicResumed, if_neg (not_not_intro held), if_neg (Nat.not_le.mpr before), if_neg (by simp [Playback.fill, empty])]

theorem resumeAudio_starves {c : Chip} (held : c.playback.state = .held) (before : c.playback.p < c.playback.streamEnd)
    (empty : c.playback.buffer = []) (m : LinkId) : .audioStarved ∈ (c.resumeAudio.links[m]).notices := by
  have starved : c.resumeAudio = c.starve := by
    rw [Chip.resumeAudio, if_neg (not_not_intro held), if_neg (Nat.not_le.mpr before), if_neg (by simp [Playback.fill, empty])]
  rw [starved]
  exact notify_heard _ _ m

/-- A clock that an end of the music has left keeps its value and whether it runs. -/
theorem musicResumed_clock (a : Playback) (k : ShowClock) (now : Nat) :
    (musicResumed a k now).2.value = k.value ∧ (musicResumed a k now).2.running = k.running := by
  have ended : (musicOver a k now).2.value = k.value ∧ (musicOver a k now).2.running = k.running := by
    unfold musicOver
    dsimp only
    split <;> exact ⟨rfl, rfl⟩
  unfold musicResumed
  split
  · exact ⟨rfl, rfl⟩
  split
  · exact ended
  split <;> exact ⟨rfl, rfl⟩

/-- The clock that runs from now goes on with its stamp, whatever becomes of the music. -/
theorem musicResumed_clock_eq (a : Playback) (k : ShowClock) (now : Nat) (running : k.running = true) (stamp : k.stamp = now) :
    (musicResumed a k now).2 = ⟨k.value, (musicResumed a k now).2.source, true, now⟩ := by
  have same : k = ⟨k.value, k.source, true, now⟩ := by rw [← running, ← stamp]
  have ended : (musicOver a k now).2 = ⟨k.value, (musicOver a k now).2.source, true, now⟩ := by
    unfold musicOver
    dsimp only
    split
    · rw [running]
    · exact same
  unfold musicResumed
  split
  · exact same
  split
  · exact ended
  split <;> exact same

/-- A PAUSED show as CONTINUE sets it RUNNING, before its music goes on (R42). -/
def continued (c : Chip) : Chip :=
  (Chip.notify { c with run := { c.run with cue := .running, pauseCause := none } } .showState).startClock

theorem continueShow_eq (c : Chip) : c.continueShow = (continued c).resumeAudio := rfl

theorem continued_resumes (c : Chip) : ∃ d : Chip, d = (continued c).resumeAudio ∧ Noted [.showState, .audioStarved] c d ∧
    (∀ m : LinkId, .showState ∈ (d.links[m]).notices) ∧
    (c.playback.state = .held → c.playback.p < c.playback.streamEnd → c.playback.buffer = [] →
      ∀ m : LinkId, .audioStarved ∈ (d.links[m]).notices) ∧
    d = { c with
      run := { c.run with cue := .running, pauseCause := none }
      playback := d.playback, clock := d.clock, links := d.links } ∧
    d.playback = (musicResumed c.playback { c.clock with running := true, stamp := c.now } c.now).1 ∧
    d.clock = (musicResumed c.playback { c.clock with running := true, stamp := c.now } c.now).2 := by
  have started : Noted [.showState] c (continued c) := .trans (.of_links rfl) (.trans (.notify (by simp) _) (.of_links rfl))
  have shown (m : LinkId) : .showState ∈ ((continued c).links[m]).notices :=
    notify_heard { c with run := { c.run with cue := .running, pauseCause := none } } _ m
  have frame := resumeAudio_eq (continued c)
  refine ⟨_, rfl, (started.mono (by simp)).trans ((resumeAudio_noted _).mono (by simp)), Noted.keeps (resumeAudio_noted _) shown,
    fun held before empty => resumeAudio_starves (c := continued c) held before empty, ?_, ?_, ?_⟩
  all_goals rw [frame]; rfl

/-- A reply takes no notice away. -/
theorem reply_heard {n : Notice} {code : ReplyCode} {data : ReplyData} (h : ∀ m : LinkId, n ∈ (d.links[m]).notices) (m : LinkId) :
    n ∈ ((d.reply l kind code data).links[m]).notices := by
  have link : (d.reply l kind code data).links[m] =
      if m = l then { d.links[l] with replies := (d.links[l]).replies ++ [⟨kind, code, data⟩] } else d.links[m] :=
    Chip.updLink_link d l m _
  rw [link]
  split
  · exact h l
  · exact h m

/-- The reply writes a link alone. -/
theorem reply_frame {run : ShowRecord} (frame : d = { c with
      run := run, playback := d.playback, clock := d.clock, links := d.links }) (code : ReplyCode) (data : ReplyData) :
    d.reply l kind code data = { c with
      run := run, playback := d.playback, clock := d.clock, links := (d.reply l kind code data).links } := by
  show { d with links := (d.reply l kind code data).links } = _
  generalize (d.reply l kind code data).links = links
  rw [frame]

theorem continue_takes (heard : s.chip.hears l 11) (paused : s.chip.run.cue = .paused)
    (program : s.chip.run.pauseCause = some .program) :
    Takes (.continueShow l) s l 11 [.showState] [.audioStarved] fun d =>
      d = { s.chip with
        run := { s.chip.run with cue := .running, pauseCause := none }
        clock := ⟨s.chip.clock.value, d.clock.source, true, s.chip.now⟩
        playback := d.playback, links := d.links } ∧
      (s.chip.playback.state ≠ .held → d.playback = s.chip.playback ∧ d.clock.source = s.chip.clock.source) ∧
      (s.chip.playback.state = .held →
        (s.chip.playback.streamEnd ≤ s.chip.playback.p →
          d.playback = { s.chip.playback with state := .finished, buffer := [] } ∧ d.clock.source = .localTime) ∧
        (s.chip.playback.p < s.chip.playback.streamEnd →
          d.clock.source = s.chip.clock.source ∧
          (s.chip.playback.buffer ≠ [] → d.playback = { s.chip.playback with state := .playing }) ∧
          (s.chip.playback.buffer = [] →
            d.playback = { s.chip.playback with state := .starved } ∧
            ∀ m : LinkId, .audioStarved ∈ (d.links[m]).notices))) := by
  have reacts : Reacts (.continueShow l) s l 11 ruleContinue := reacts_of_hears rfl rfl heard
  have ruled : ruleContinue s.chip = ((continued s.chip).resumeAudio).taken := by
    rw [ruleContinue, if_pos paused, program, continueShow_eq]
  obtain ⟨d, is, noted, shown, starves, frame, playback, clock⟩ := continued_resumes s.chip
  rw [← is] at ruled
  refine ⟨_, reacts.answers ruled, noticed_reply (r := ⟨11, .ok, .none⟩)
    (noticed_of_noted noted (List.forall_mem_singleton.mpr shown) (by simp)), ?_, ?_, fun held => ⟨fun ended => ?_, fun before => ?_⟩⟩
  · have started := musicResumed_clock_eq s.chip.playback { s.chip.clock with running := true, stamp := s.chip.now } s.chip.now rfl rfl
    rw [← clock] at started
    rw [reply_frame frame, ← started]
  · rw [Chip.reply_playback, Chip.reply_clock, playback, clock]
    intro other
    rw [musicResumed_other other]
    exact ⟨rfl, rfl⟩
  · rw [Chip.reply_playback, Chip.reply_clock, playback, clock, musicResumed_over held ended]
    refine ⟨rfl, ?_⟩
    cases source : s.chip.clock.source <;> simp [musicOver, source]
  · rw [Chip.reply_playback, Chip.reply_clock, playback, clock]
    refine ⟨?_, fun filled => by rw [musicResumed_plays held before filled], fun empty =>
      ⟨by rw [musicResumed_starves held before empty], fun m => ?_⟩⟩
    · by_cases empty : s.chip.playback.buffer = []
      · rw [musicResumed_starves held before empty]
      · rw [musicResumed_plays held before empty]
    · exact reply_heard (starves held before empty) m

/-! ## HOLD_SET (R49) -/

theorem live_eq {k : PageId} (live : c.run.livePage = some k) : c.live = c.pages[k] := by rw [Chip.live, live]

theorem sceneStart_empty {k : PageId} (live : c.run.livePage = some k) {n : Fin 16} (h : (c.pages[k]).scenes[n] = none) :
    c.sceneStart n.val = none := by
  rw [Chip.sceneStart, dif_pos n.isLt, live_eq live]
  simp only [Fin.getElem_fin] at h ⊢
  rw [h]

theorem sceneStart_start {k : PageId} (live : c.run.livePage = some k) {n : Fin 16} {i : StepIndex}
    (h : (c.pages[k]).scenes[n] = some i.val) : c.sceneStart n.val = some i := by
  rw [Chip.sceneStart, dif_pos n.isLt, live_eq live]
  simp only [Fin.getElem_fin] at h ⊢
  rw [h]
  exact dif_pos i.isLt

theorem mayHoldSet_iff (x : CueState) : x.mayHoldSet = true ↔ x = .cued ∨ x = .running ∨ x = .paused ∨ x = .restoring := by
  cases x <;> simp [CueState.mayHoldSet]

theorem ruleHoldSet_number (cue : c.run.cue.mayHoldSet = true) (n : Nat) : ruleHoldSet (some n) true c =
    if 16 ≤ n then c.refuse .badArg
    else (c.sceneStart n).elim (c.refuse .badScene) fun i => (c.setHold (some i)).taken := by
  rw [ruleHoldSet, if_neg (by simp [cue]), if_neg (by simp)]
  split
  · rfl
  · cases c.sceneStart n <;> rfl

theorem holdSet_answers (heard : s.chip.hears l 12) :
    (s.chip.run.cue = .idle ∨ s.chip.run.cue = .holding ∨ s.chip.run.cue = .ending →
      ∀ scene : Option Nat, Refuses (.holdSet l scene) s l 12 .state) ∧
    (s.chip.run.cue = .cued ∨ s.chip.run.cue = .running ∨ s.chip.run.cue = .paused ∨ s.chip.run.cue = .restoring →
      Answers (.holdSet l none) s l 12 { s.chip with run := { s.chip.run with holdCursor := none } } .ok .none ∧
      (∀ n : Nat, 16 ≤ n → Refuses (.holdSet l (some n)) s l 12 .badArg) ∧
      (∀ k : PageId, s.chip.run.livePage = some k → ∀ n : Fin 16,
        ((s.chip.pages[k]).scenes[n] = none → Refuses (.holdSet l (some n.val)) s l 12 .badScene) ∧
        (∀ i : StepIndex, (s.chip.pages[k]).scenes[n] = some i.val →
          Answers (.holdSet l (some n.val)) s l 12
            { s.chip with run := { s.chip.run with holdCursor := some i } } .ok .none))) := by
  have reacts (scene : Option Nat) : Reacts (.holdSet l scene) s l 12 (ruleHoldSet scene true) := reacts_of_hears rfl rfl heard
  refine ⟨fun other scene => (reacts scene).refuses (if_pos ?_), fun cue => ?_⟩
  · rcases other with h | h | h <;> rw [h] <;> rfl
  · have may := (mayHoldSet_iff _).mpr cue
    have inside (n : Fin 16) : ¬16 ≤ n.val := Nat.not_le.mpr n.isLt
    refine ⟨(reacts none).answers ?_, fun n beyond => (reacts _).refuses ?_, fun k live n => ⟨fun empty => (reacts _).refuses ?_,
      fun i start => (reacts _).answers (code := .ok) ?_⟩⟩
    · rw [ruleHoldSet, if_neg (by simp [may]), if_neg (by simp)]
      rfl
    · rw [ruleHoldSet_number may, if_pos beyond]
    · rw [ruleHoldSet_number may, if_neg (inside n), sceneStart_empty live empty]
      rfl
    · rw [ruleHoldSet_number may, if_neg (inside n), sceneStart_start live start]
      rfl

/-- Settles O12. -/
theorem pauseContinueAndHoldSet : Obligations.PauseContinueAndHoldSet := by
  refine ⟨fun s l => ⟨fun heard => ⟨fun other => ?_, pause_takes heard⟩, fun heard => ⟨fun other => ?_, fun paused taken => ?_,
    continue_takes heard⟩⟩, fun s l heard => holdSet_answers heard⟩
  · have reacts : Reacts (.pause l) s l 10 rulePause := reacts_of_hears rfl rfl heard
    exact reacts.refuses (if_neg other)
  · have reacts : Reacts (.continueShow l) s l 11 ruleContinue := reacts_of_hears rfl rfl heard
    exact reacts.refuses (if_neg other)
  · have reacts : Reacts (.continueShow l) s l 11 ruleContinue := reacts_of_hears rfl rfl heard
    exact reacts.refuses (by rw [ruleContinue, if_pos paused, taken])

end Sys2Proof.Proofs.Requests


/-! PROOF. One pump while HYD works on another: its record and its entry in the start queue stand (R83 to R95). -/

namespace Sys2Proof.Proofs.OnePump

open Sys2Proof Sys2Proof.Machine Sys2Proof.Proofs.StepEffects Sys2Proof.Proofs.Water Sys2Proof.Proofs.Orders

variable {c d e : Chip} {p q : PumpId}

/-- An entry of the start queue, or one that joins it at the end of the event. -/
def Waiting (c : Chip) (x : StartEntry) : Prop := x ∈ c.queue ++ c.joining

/-- From `c` to `d` the pump's record and its entries have stood. -/
structure Aside (p : PumpId) (c d : Chip) : Prop where
  record : d.pumps[p] = c.pumps[p]
  entries : ∀ x : StartEntry, x.pump = p → (Waiting d x ↔ Waiting c x)

namespace Aside

theorem refl (p : PumpId) (c : Chip) : Aside p c c := ⟨rfl, fun _ _ => .rfl⟩

theorem trans (h : Aside p c d) (k : Aside p d e) : Aside p c e :=
  ⟨k.record.trans h.record, fun x of => (k.entries x of).trans (h.entries x of)⟩

theorem of_same (pumps : d.pumps[p] = c.pumps[p]) (queue : d.queue = c.queue) (joining : d.joining = c.joining) : Aside p c d :=
  ⟨pumps, fun x _ => by rw [Waiting, Waiting, queue, joining]⟩

theorem ite {b : Prop} [Decidable b] (h : Aside p c d) (k : Aside p c e) : Aside p c (if b then d else e) := by
  split <;> assumption

theorem forEach {α : Type} {ids : List α} {f : α → Chip → Chip} (h : ∀ a ∈ ids, ∀ d : Chip, Aside p d (f a d)) :
    Aside p c (Chip.forEach ids f c) :=
  Chip.forEach_rel ids (.refl p) (fun _ _ _ => .trans) h

theorem state (h : Aside p c d) : stateOf d p = stateOf c p := by rw [stateOf, h.record]; rfl

theorem joined (h : Aside p c d) : (∃ x, Waiting d x ∧ x.pump = p) ↔ ∃ x, Waiting c x ∧ x.pump = p :=
  exists_congr fun x => and_congr_left fun of => h.entries x of

end Aside

/-! ## Work on another pump -/

section Other

variable (c)

theorem updPump_other (other : p ≠ q) (f : Pump → Pump) : (c.updPump q f).pumps[p] = c.pumps[p] := by
  rw [show (c.updPump q f).pumps[p] = if p = q then f c.pumps[q] else c.pumps[p] from Chip.updPump_pump c q p f, if_neg other]

theorem notify_aside (p : PumpId) (n : Notice) : Aside p c (c.notify n) := .of_same rfl rfl rfl

theorem countStarted_aside (p : PumpId) (x : StartEntry) : Aside p c (c.countStarted x) := .ite (.of_same rfl rfl rfl) (.refl p c)

variable (other : p ≠ q)
include other

theorem updPump_aside (f : Pump → Pump) : Aside p c (c.updPump q f) := .of_same (updPump_other c other f) rfl rfl

theorem dequeue_aside : Aside p c (c.dequeue q) :=
  ⟨rfl, fun x of => by
    have kept : x.pump ≠ q := by rw [of]; exact other
    simp [Waiting, Chip.dequeue, kept]⟩

theorem enterState_aside (st : PumpState) (fault : Option PumpFault) : Aside p c (c.enterState q st fault) :=
  .of_same (by rw [enterState_pump, if_neg other]) (by simp [Chip.enterState]) (by simp [Chip.enterState])

theorem enterFaulted_aside (cause : PumpFault) : Aside p c (c.enterFaulted q cause) := by
  have entered := (dequeue_aside c other).trans (enterState_aside _ other .faulted (some cause))
  exact entered.trans (notify_aside _ p _)

theorem watchDrive_aside : Aside p c (c.watchDrive q) := by
  have watched : Aside p c (if c.lines.drvOk[q] then c else c.enterFaulted q .drive) := .ite (.refl p c) (enterFaulted_aside c other _)
  unfold Chip.watchDrive
  split
  exacts [watched, watched, watched, watched, .refl p c, .refl p c]

theorem startRequest_aside (r : Requester) : Aside p c (c.startRequest q r) := by
  have joins : Aside p c (if c.queued q then c else { c with joining := insertEntry ⟨q, r, c.now⟩ c.joining }) := by
    refine .ite (.refl p c) ⟨rfl, fun x of => ?_⟩
    have not_new : x ≠ ⟨q, r, c.now⟩ := fun same => other (by rw [← of, same])
    simp [Waiting, (insertEntry_perm _ _).mem_iff, not_new]
  unfold Chip.startRequest
  split
  · exact .refl p c
  · split
    exacts [joins, joins, .refl p c, .refl p c, .refl p c, .refl p c]

theorem enterResting_aside : Aside p c (c.enterResting q) :=
  ((enterState_aside c other _ _).trans (updPump_aside _ other _)).trans (watchDrive_aside _ other)

theorem enterStopped_aside : Aside p c (c.enterStopped q) := by
  have stopped : Aside p c ((c.enterState q .stopped none).watchDrive q) :=
    (enterState_aside c other _ _).trans (watchDrive_aside _ other)
  unfold Chip.enterStopped
  exact .ite (stopped.trans (startRequest_aside _ other _)) stopped

theorem stopRequest_aside : Aside p c (c.stopRequest q) := by
  have cleared := updPump_aside c other fun r => { r with idleExpiry := none }
  unfold Chip.stopRequest
  dsimp only
  split
  · exact cleared.trans (dequeue_aside _ other)
  · exact cleared.trans (dequeue_aside _ other)
  · exact cleared.trans (updPump_aside _ other _)
  · exact .ite (cleared.trans (enterResting_aside _ other)) (cleared.trans (updPump_aside _ other _))
  · exact cleared
  · exact cleared

theorem demandAppears_aside (r : Requester) : Aside p c (c.demandAppears q r) := by
  unfold Chip.demandAppears
  split
  exacts [startRequest_aside c other r, startRequest_aside c other r, updPump_aside c other _, updPump_aside c other _, .refl p c,
    .refl p c]

theorem idleOut_aside : Aside p c (c.idleOut q) :=
  .ite (.ite (.refl p c) (.ite (stopRequest_aside c other) (updPump_aside c other _))) (stopRequest_aside c other)

theorem demandLost_aside (was : Owner) : Aside p c (c.demandLost q was) :=
  .ite (.ite (.refl p c) (.ite (idleOut_aside c other) (stopRequest_aside c other))) (idleOut_aside c other)

theorem stopUnlessDemanded_aside : Aside p c (c.stopUnlessDemanded q) := .ite (.refl p c) (stopRequest_aside c other)

theorem intentRun_aside (r : Requester) : Aside p c (c.intentRun q r) := by
  have written := updPump_aside c other fun r => { r with intent := .run }
  unfold Chip.intentRun
  exact .trans (.ite written (written.trans (demandAppears_aside _ other _))) (startRequest_aside _ other _)

theorem intentStop_aside : Aside p c (c.intentStop q) :=
  (updPump_aside c other _).trans (stopUnlessDemanded_aside _ other)

omit other in
theorem grant_aside (x : StartEntry) (other : p ≠ x.pump) : Aside p c (c.grant x) := by
  have left : Aside p c { c.dequeue x.pump with history := lastEight (c.history ++ [c.now]) } :=
    (dequeue_aside c other).trans (.of_same rfl rfl rfl)
  have primed : Aside p c (granted c x) := (left.trans (enterState_aside _ other .priming none)).trans (updPump_aside _ other _)
  rw [grant_eq]
  exact (primed.trans (countStarted_aside _ p x)).trans (watchDrive_aside _ other)

end Other

/-! ## The arbiter -/

theorem eligible_stopped {x : StartEntry} (h : c.grantable = some x) : stateOf c x.pump = .stopped := by
  have eligible := (Chip.grantable_mem c h).2.1
  rw [Chip.eligible, Bool.and_eq_true, decide_eq_true_eq] at eligible
  exact eligible.1

/-- A pump that is not STOPPED is granted nothing. -/
theorem grants_aside (fuel : Nat) (h : stateOf c p ≠ .stopped) : Aside p c (Chip.grants fuel c) := by
  induction fuel generalizing c with
  | zero => exact .refl p c
  | succ n ih =>
    unfold Chip.grants
    split
    next x grantable =>
      have other : p ≠ x.pump := fun same => h (by rw [same]; exact eligible_stopped grantable)
      have stood := grant_aside c x other
      exact stood.trans (ih (by rw [stood.state]; exact h))
    next => exact .refl p c

theorem collected_aside (p : PumpId) (c : Chip) : Aside p c (collected c) :=
  ⟨rfl, fun x _ => by simp [Waiting, collected]⟩

theorem testQueue_aside (h : stateOf c p ≠ .stopped) : Aside p c c.testQueue := grants_aside _ h

theorem endEvent_aside (h : stateOf c p ≠ .stopped) : Aside p c c.endEvent :=
  (collected_aside p c).trans (testQueue_aside h)

/-- After an event the entries that wait stand in the queue. -/
theorem endEvent_joining (c : Chip) : c.endEvent.joining = [] :=
  waterMoves_joined (J := noJet) (I := noPump) (testQueue_moves (collected c)) (b := false) rfl rfl

theorem endEvent_waiting (c : Chip) {x : StartEntry} : Waiting c.endEvent x ↔ x ∈ c.endEvent.queue := by
  rw [Waiting, endEvent_joining, List.append_nil]

end Sys2Proof.Proofs.OnePump


/-! PROOF. What HYD's operations leave of the record of the pump they name (R88 to R102). -/

namespace Sys2Proof.Proofs.OnePump

open Sys2Proof Sys2Proof.Machine Sys2Proof.Proofs.StepEffects Sys2Proof.Proofs.Water Sys2Proof.Proofs.Orders

variable {c d e : Chip} {p q : PumpId}

/-! ## A pump faults, rests or stops -/

/-- The record of a pump that enters FAULTED. -/
def faulted (r : Pump) (now : Nat) (cause : PumpFault) : Pump :=
  { r with state := .faulted, stateEntry := now, faultCause := some cause, setpoint := 0, idleExpiry := none, stopPending := false }

theorem updPump_own (c : Chip) (p : PumpId) (f : Pump → Pump) : (c.updPump p f).pumps[p] = f c.pumps[p] :=
  (Chip.updPump_pump c p p f).trans (if_pos rfl)

theorem enterState_own (c : Chip) (p : PumpId) (st : PumpState) (fault : Option PumpFault) :
    (c.enterState p st fault).pumps[p] = entered c p st fault := (enterState_pump c p p st fault).trans (if_pos rfl)

theorem notify_pump (c : Chip) (n : Notice) (p : PumpId) : (c.notify n).pumps[p] = c.pumps[p] := rfl

theorem enterFaulted_own (c : Chip) (p : PumpId) (cause : PumpFault) :
    (c.enterFaulted p cause).pumps[p] = faulted c.pumps[p] c.now cause := by
  rw [Chip.enterFaulted, notify_pump, enterState_own]
  rfl

/-- The states in which a pump's drive is watched (R97). -/
def Watched (c : Chip) (p : PumpId) : Prop := stateOf c p ≠ .outOfService ∧ stateOf c p ≠ .faulted

theorem watchDrive_low (watched : Watched c p) (low : c.lines.drvOk[p] = false) : c.watchDrive p = c.enterFaulted p .drive := by
  have no : ¬c.lines.drvOk[p] = true := by rw [low]; exact Bool.false_ne_true
  obtain ⟨out, fault⟩ := watched
  unfold Chip.watchDrive
  split
  iterate 4 exact if_neg no
  next h => exact absurd h out
  next h => exact absurd h fault

theorem watchDrive_high (high : c.lines.drvOk[p] = true) : c.watchDrive p = c := by
  unfold Chip.watchDrive
  split
  iterate 4 exact if_pos high
  all_goals rfl

theorem watchDrive_unwatched (h : stateOf c p = .outOfService ∨ stateOf c p = .faulted) : c.watchDrive p = c := by
  unfold Chip.watchDrive
  unfold stateOf at h
  split <;> simp_all

/-- The record of a pump whose drive is watched. -/
def driven (c : Chip) (p : PumpId) (r : Pump) : Pump := if c.lines.drvOk[p] then r else faulted r c.now .drive

theorem watchDrive_own (watched : Watched c p) : (c.watchDrive p).pumps[p] = driven c p c.pumps[p] := by
  unfold driven
  split
  next high => rw [watchDrive_high high]
  next low => rw [watchDrive_low watched (Bool.eq_false_iff.mpr low), enterFaulted_own]

theorem driven_of_lines {r : Pump} (lines : d.lines = c.lines) (now : d.now = c.now) : driven d p r = driven c p r := by
  rw [driven, driven, lines, now]

/-- The record that entry into RESTING leaves, before the drive is looked at (R96). -/
def rested (c : Chip) (p : PumpId) : Pump :=
  { entered c p .resting none with restEnd := c.now + (c.limits.pumps[p]).rest * 1000 }

theorem enterResting_own (c : Chip) (p : PumpId) : (c.enterResting p).pumps[p] = driven c p (rested c p) := by
  have water : c.WaterOnly ((c.enterState p .resting none).updPump p fun r => { r with restEnd := c.now + (c.limits.pumps[p]).rest * 1000 }) :=
    (Chip.enterState_water c p _ _).trans (Chip.updPump_water _ p _)
  have record : ((c.enterState p .resting none).updPump p fun r =>
      { r with restEnd := c.now + (c.limits.pumps[p]).rest * 1000 }).pumps[p] = rested c p := by
    rw [updPump_own, enterState_own]
    rfl
  have watched : Watched ((c.enterState p .resting none).updPump p fun r =>
      { r with restEnd := c.now + (c.limits.pumps[p]).rest * 1000 }) p := by
    rw [Watched, stateOf, record]
    exact ⟨nofun, nofun⟩
  rw [Chip.enterResting, watchDrive_own watched, record, driven_of_lines water.lines water.now]

/-! ## One pump of a run over pumps -/

/-- In a run over pumps, one pump stands until its turn, and stands after it. -/
theorem forEach_turn {R : Chip → Chip → Prop} {f : PumpId → Chip → Chip} (refl : ∀ d, R d d)
    (trans : ∀ x y z, R x y → R y z → R x z) (step : ∀ q d, R d (f q d)) (others : ∀ q d, p ≠ q → Aside p d (f q d))
    {ps : List PumpId} (once : ps.Nodup) (mem : p ∈ ps) (c : Chip) :
    ∃ x, R c x ∧ Aside p c x ∧ R (f p x) (Chip.forEach ps f c) ∧ Aside p (f p x) (Chip.forEach ps f c) := by
  obtain ⟨ahead, behind, rfl⟩ := List.append_of_mem mem
  have not_in (q : PumpId) (among : q ∈ ahead ∨ q ∈ behind) : p ≠ q := by
    rintro rfl
    rw [List.nodup_middle, List.nodup_cons] at once
    exact once.1 (List.mem_append.mpr among)
  refine ⟨Chip.forEach ahead f c, Chip.forEach_rel _ refl trans fun q _ d => step q d,
    .forEach fun q h d => others q d (not_in q (.inl h)), ?_⟩
  rw [Chip.forEach_append, Chip.forEach_cons]
  exact ⟨Chip.forEach_rel _ refl trans fun q _ d => step q d, .forEach fun q h d => others q d (not_in q (.inr h))⟩

/-- A pump that is not in the list stands through a run over the list. -/
theorem forEach_aside {f : PumpId → Chip → Chip} {ps : List PumpId} (others : ∀ q d, p ≠ q → Aside p d (f q d)) (out : p ∉ ps) (c : Chip) :
    Aside p c (Chip.forEach ps f c) :=
  .forEach fun q mem d => others q d fun same => out (same ▸ mem)

end Sys2Proof.Proofs.OnePump


/-! PROOF. Entry into TRIPPED, stage by stage (R102, R118, R126, R142, R166). -/

namespace Sys2Proof.Proofs.Trips

open Sys2Proof Sys2Proof.Machine Sys2Proof.Proofs.StepEffects Sys2Proof.Proofs.Water Sys2Proof.Proofs.Tripped
open Sys2Proof.Proofs.Orders Sys2Proof.Proofs.Settling Sys2Proof.Proofs.OnePump

variable {c d e : Chip} {p : PumpId}

/-! ## The pumps (R102) -/

theorem watchDrive_history (c : Chip) (p : PumpId) : (c.watchDrive p).history = c.history := by
  have faulted (d : Chip) : (d.enterFaulted p .drive).history = d.history := by
    rw [Chip.enterFaulted, Chip.notify_history, enterState_history]
    rfl
  unfold Chip.watchDrive
  split
  iterate 4
    split
    · rfl
    · exact faulted c
  all_goals rfl

theorem enterResting_history (c : Chip) (p : PumpId) : (c.enterResting p).history = c.history := by
  rw [Chip.enterResting, watchDrive_history, Chip.updPump_history, enterState_history]

/-- What the pumps' part of a trip leaves on one pump. -/
structure PumpTripped (c : Chip) (p : PumpId) (r : Pump) : Prop where
  intent : r.intent = .stop
  policy : r.policy = (c.pumps[p]).policy
  pending : r.stopPending = false
  expiry : r.idleExpiry = none
  granted : r.lastGrant = (c.pumps[p]).lastGrant
  down : (c.pumps[p]).state.up = false → r.state = (c.pumps[p]).state
  stopped : (c.pumps[p]).state.up = true → r.setpoint = 0
  rests : (c.pumps[p]).state.up = true → c.lines.drvOk[p] = true →
    r.state = .resting ∧ r.restEnd = c.now + (c.limits.pumps[p]).rest * 1000
  faults : (c.pumps[p]).state.up = true → c.lines.drvOk[p] = false → r.state = .faulted ∧ r.faultCause = some .drive

/-- The record of a pump that a trip has stopped. -/
def tripDriven (r : Pump) : Pump := { r with intent := .stop, stopPending := false, idleExpiry := none }

theorem pumpTripped_of_own (c d : Chip) (p : PumpId) (record : d.pumps[p] = c.pumps[p]) (lines : d.lines = c.lines)
    (now : d.now = c.now) (limits : d.limits = c.limits) :
    PumpTripped c p (tripDriven (if (d.pumps[p]).state.up then d.enterResting p else d).pumps[p]) := by
  by_cases up : (c.pumps[p]).state.up = true
  · have own : (if (d.pumps[p]).state.up then d.enterResting p else d).pumps[p] = driven d p (rested d p) := by
      rw [record, if_pos up, enterResting_own]
    have policy : (rested d p).policy = (c.pumps[p]).policy := by rw [show (rested d p).policy = (d.pumps[p]).policy from rfl, record]
    have granted : (rested d p).lastGrant = (c.pumps[p]).lastGrant := by rw [show (rested d p).lastGrant = (d.pumps[p]).lastGrant from rfl, record]
    rw [own, driven, lines]
    by_cases ok : c.lines.drvOk[p] = true
    · rw [if_pos ok]
      exact ⟨rfl, policy, rfl, rfl, granted, fun no => absurd (up.symm.trans no) nofun,
        fun _ => rfl, fun _ _ => ⟨rfl, by simp [tripDriven, rested, now, limits]⟩, fun _ no => absurd (ok.symm.trans no) nofun⟩
    · rw [if_neg ok]
      exact ⟨rfl, policy, rfl, rfl, granted, fun no => absurd (up.symm.trans no) nofun,
        fun _ => rfl, fun _ yes => absurd yes ok, fun _ _ => ⟨rfl, rfl⟩⟩
  · have own : (if (d.pumps[p]).state.up then d.enterResting p else d).pumps[p] = c.pumps[p] := by
      rw [record, if_neg up, record]
    rw [own]
    exact ⟨rfl, rfl, rfl, rfl, rfl, fun _ => rfl, fun yes => absurd yes up, fun yes => absurd yes up, fun yes => absurd yes up⟩

/-- The part while the pumps of a trip go down one after another. -/
structure Resting (c d : Chip) : Prop where
  water : c.WaterOnly d
  history : d.history = c.history
  noted : Noted [.pumpFault] c d
  flush : FlushStands c d

namespace Resting

theorem refl (c : Chip) : Resting c c := ⟨.refl c, rfl, .refl c, .refl c⟩

theorem trans (h : Resting c d) (k : Resting d e) : Resting c e :=
  ⟨h.water.trans k.water, k.history.trans h.history, h.noted.trans k.noted, h.flush.trans k.flush⟩

theorem turn (c : Chip) (p : PumpId) : Resting c (if (c.pumps[p]).state.up then c.enterResting p else c) := by
  split
  · have moves : WaterMoves noJet noPump false c (c.enterResting p) := enterResting_moves c p
    exact ⟨waterMoves_water moves, enterResting_history c p, waterMoves_noted moves, waterMoves_flush moves⟩
  · exact refl c

end Resting

theorem flushStands_none (h : FlushStands c d) (none_runs : c.circ.flush = none) : d.circ = c.circ := by
  obtain ⟨f, circ, -⟩ := h
  rw [circ, none_runs, Option.map_none, ← none_runs]

/-- The pumps of a trip gone down, the queue emptied first. -/
def tripRested (c : Chip) : Chip :=
  Chip.forEach (List.finRange 12) (fun p c => if (c.pumps[p]).state.up then c.enterResting p else c) { c with queue := [], joining := [] }

theorem tripPumps_eq (c : Chip) :
    c.tripPumps = { tripRested c with pumps := Vector.ofFn fun p => tripDriven (tripRested c).pumps[p] } := rfl

theorem tripRested_rests (c : Chip) : Resting { c with queue := [], joining := [] } (tripRested c) :=
  Chip.forEach_rel _ .refl (fun _ _ _ => .trans) fun q _ d => Resting.turn d q

theorem tripRested_pump (c : Chip) (p : PumpId) : PumpTripped c p (tripDriven (tripRested c).pumps[p]) := by
  obtain ⟨x, before, aside, -, after⟩ := forEach_turn (p := p) (R := Resting) Resting.refl (fun _ _ _ => .trans)
    (fun q d => Resting.turn d q) (fun q d other => .ite (enterResting_aside d other) (.refl p d)) (List.nodup_finRange 12)
    (List.mem_finRange p) { c with queue := [], joining := [] }
  rw [show (tripRested c).pumps[p] = _ from after.record]
  exact pumpTripped_of_own c x p aside.record before.water.lines before.water.now before.water.limits

/-- The pumps and the start queue at a trip. -/
theorem tripPumps_is (c : Chip) :
    c.tripPumps = { c with
      pumps := c.tripPumps.pumps, queue := [], joining := [], jets := c.tripPumps.jets, circ := c.tripPumps.circ
      links := c.tripPumps.links } ∧
    Noted [.pumpFault] c c.tripPumps ∧ (c.circ.flush = none → c.tripPumps.circ = c.circ) ∧
    ∀ p : PumpId, PumpTripped c p c.tripPumps.pumps[p] := by
  obtain ⟨queue, joining⟩ := tripPumps_queues c
  have rested := tripRested_rests c
  have pumps := tripRested_pump c
  rw [tripPumps_eq] at queue joining ⊢
  generalize tripRested c = d at rested pumps queue joining ⊢
  refine ⟨?_, fun m => rested.noted m, flushStands_none rested.flush, fun p => ?_⟩
  · have frame := rested.water.1
    have history := rested.history
    dsimp only at queue joining history
    rw [queue, joining, history] at frame
    rw [frame]
  · rw [show (Vector.ofFn fun p : PumpId => tripDriven d.pumps[p])[p] = tripDriven d.pumps[p] from Vector.getElem_ofFn _]
    exact pumps p

/-! ## The jets and the power (R118, R166) -/

theorem shutJets_eq (js : Vector Jet 48) : (Vector.ofFn fun j : JetId =>
    { js[j] with state := .closed, owner := .none, demand := 0, burstEnd := none, waitCause := none, height := 0 }) =
    Vector.replicate 48 idleJet := by
  ext j hj : 1
  rw [Vector.getElem_ofFn, Vector.getElem_replicate]

theorem closeJets_eq (c : Chip) : c.closeJets = { c with jets := Vector.replicate 48 idleJet } := by
  rw [Chip.closeJets, shutJets_eq c.jets]

theorem dropPower_is (c : Chip) :
    ∃ js, c.dropPower = { c with mode := { c.mode with power := .off, settle := none }, jets := js } := ⟨_, rfl⟩

/-- The water of a trip shut off, with the power (R102, R118, R166). -/
def tripShut (c : Chip) (cause : TripCause) : Chip :=
  Chip.closeJets (Chip.tripPumps (Chip.dropPower { c with mode := { c.mode with causes := [cause], wake := none, dormancy := none } }))

theorem tripShut_is (c : Chip) (cause : TripCause) :
    tripShut c cause = { c with
      mode := ⟨c.mode.mode, .off, none, none, c.mode.flushRunning, none, c.mode.restore, [cause]⟩
      pumps := (tripShut c cause).pumps, queue := [], joining := [], jets := Vector.replicate 48 idleJet
      circ := (tripShut c cause).circ, links := (tripShut c cause).links } ∧
    Noted [.pumpFault] c (tripShut c cause) ∧ (c.circ.flush = none → (tripShut c cause).circ = c.circ) ∧
    ∀ p : PumpId, PumpTripped c p (tripShut c cause).pumps[p] := by
  unfold tripShut
  obtain ⟨js, dropped⟩ := dropPower_is { c with mode := { c.mode with causes := [cause], wake := none, dormancy := none } }
  rw [dropped, closeJets_eq]
  obtain ⟨frame, noted, circ, pumps⟩ := tripPumps_is
    { c with mode := ⟨c.mode.mode, .off, none, none, c.mode.flushRunning, none, c.mode.restore, [cause]⟩, jets := js }
  generalize Chip.tripPumps _ = d at frame noted circ pumps
  refine ⟨?_, fun m => noted m, circ, fun p => ?_⟩
  · rw [frame]
  · obtain ⟨intent, policy, pending, expiry, granted, down, stopped, rests, faults⟩ := pumps p
    exact ⟨intent, policy, pending, expiry, granted, down, stopped, rests, faults⟩

/-! ## The show, the sound and the lamps (R142, R166, R71) -/

theorem releasePage_is (c : Chip) : ∃ ps, c.releasePage = { c with pages := ps } ∧ ∀ k : PageId,
    ps[k] = if c.run.livePage = some k then { c.pages[k] with state := .ready } else c.pages[k] := by
  unfold Chip.releasePage
  split
  next k live =>
    refine ⟨_, rfl, fun m => ?_⟩
    have page := Chip.updPage_page c k m fun pg => { pg with state := .ready }
    rw [Fin.getElem_fin]
    refine page.trans ?_
    rw [live]
    by_cases same : m = k
    · subst same
      rw [if_pos rfl, if_pos rfl]
    · rw [if_neg same, if_neg fun h => same (Option.some.inj h).symm]
  next none_live => exact ⟨c.pages, rfl, fun k => by rw [none_live, if_neg nofun]⟩

/-- The show at a trip. -/
theorem abortShow_is (c : Chip) : ∃ ps ls, c.abortShow = { c with
      mode := { c.mode with restore := none }, run := if c.run.cue = .idle then c.run else c.run.over, pages := ps, links := ls } ∧
    Noted [.showState] c c.abortShow ∧
    (∀ k : PageId, ps[k] =
      if c.run.cue ≠ .idle ∧ c.run.livePage = some k then { c.pages[k] with state := .ready } else c.pages[k]) ∧
    (c.run.cue ≠ .idle → ∀ m : LinkId, .showState ∈ (c.abortShow.links[m]).notices) := by
  unfold Chip.abortShow
  dsimp only
  split
  next idle => exact ⟨c.pages, c.links, rfl, .of_links rfl, fun k => by rw [if_neg fun h => h.1 idle], fun other => absurd idle other⟩
  next other =>
    obtain ⟨ps, released, page⟩ := releasePage_is { c with mode := { c.mode with restore := none } }
    unfold Chip.closeShow
    rw [released]
    refine ⟨ps, _, rfl, .trans (.of_links rfl) (.notify (List.mem_singleton.mpr rfl) _), fun k => ?_, fun _ => notify_heard _ _⟩
    rw [page k]
    simp only [ne_eq, other, not_false_iff, true_and]

theorem tripAudio_eq (c : Chip) : c.tripAudio = { c with
    playback := { c.playback with state := .off, buffer := [], endAt := none, r := 0, held := ⟨0, 0⟩ }
    clock := { c.clock with running := false } } := rfl

theorem tripLamps_is (c : Chip) : c.tripLamps = { c with
      showLayer := c.tripLamps.showLayer, panelLayer := c.tripLamps.panelLayer, lums := c.tripLamps.lums
      outputs := darkOutputs, lampLine := some darkOutputs } := by
  obtain ⟨outputs, line⟩ := tripLamps_outputs c
  have timer : c.tripLamps.lampTimer = c.lampTimer := by dsimp only [Chip.tripLamps, Chip.zeroFrame, Chip.darkenPanel, Chip.darkenShow]
  refine Eq.trans (Chip.tripLamps_lamps c) ?_
  rw [outputs, line, timer]

theorem zeroFrame_lums (c : Chip) :
    c.zeroFrame.lums = Vector.ofFn fun l : LumId => { c.lums[l] with active := .showLayer, crossfade := none } := by
  unfold Chip.zeroFrame
  rfl

theorem darkenPanel_panel (c : Chip) : c.darkenPanel.panelLayer =
    Vector.ofFn fun i : Fin 128 => { (c.panelLayer[i]).settled 0 with clock := .localTime } := by
  unfold Chip.darkenPanel
  rfl

theorem darkenShow_show (c : Chip) : c.darkenShow.showLayer =
    Vector.ofFn fun i : Fin 128 => { (c.showLayer[i]).settled 0 with clock := .showTime } := by
  unfold Chip.darkenShow
  rfl

theorem tripLamps_layers (c : Chip) : c.tripLamps.showLayer = c.darkenShow.showLayer ∧
    c.tripLamps.panelLayer = c.darkenShow.darkenPanel.panelLayer ∧ c.tripLamps.lums = c.darkenShow.darkenPanel.zeroFrame.lums := by
  refine ⟨?_, ?_, rfl⟩ <;> dsimp only [Chip.tripLamps, Chip.zeroFrame, Chip.darkenPanel]

theorem tripLamps_dark (c : Chip) (i : Fin 128) :
    ((c.tripLamps.showLayer[i]).start, (c.tripLamps.showLayer[i]).target, (c.tripLamps.showLayer[i]).duration) = (0, 0, 0) ∧
    ((c.tripLamps.panelLayer[i]).start, (c.tripLamps.panelLayer[i]).target, (c.tripLamps.panelLayer[i]).duration) = (0, 0, 0) := by
  obtain ⟨shown, panel, -⟩ := tripLamps_layers c
  rw [shown, panel, darkenPanel_panel, darkenShow_show]
  simp only [Fin.getElem_fin, Vector.getElem_ofFn]
  exact ⟨rfl, rfl⟩

theorem tripLamps_lum (c : Chip) (l : LumId) : c.tripLamps.lums[l] = ⟨(c.lums[l]).gate, .showLayer, none⟩ := by
  obtain ⟨-, -, lums⟩ := tripLamps_layers c
  rw [lums, zeroFrame_lums]
  simp only [Fin.getElem_fin, Vector.getElem_ofFn]
  dsimp only [Chip.darkenPanel, Chip.darkenShow]

end Sys2Proof.Proofs.Trips


/-! PROOF. The trip causes, CLEAR_TRIP and the resets (O26, O27, O30, O31). -/

namespace Sys2Proof.Proofs.Trips

open Sys2Proof Sys2Proof.Machine Sys2Proof.Proofs.StepEffects Sys2Proof.Proofs.Water Sys2Proof.Proofs.Tripped
open Sys2Proof.Proofs.Orders Sys2Proof.Proofs.Settling Sys2Proof.Proofs.OnePump Sys2Proof.Proofs.Requests

variable {c d e : Chip} {p : PumpId} {cause : TripCause}

/-! ## The cut of a flush in dry water (R126) -/

theorem updPump_stands {f : Pump → Pump} (h : f c.pumps[p] = c.pumps[p]) : c.updPump p f = c := by
  have stands : c.pumps.set p (f c.pumps[p]) = c.pumps := by
    rw [h]
    exact Vector.set_getElem_self _
  rw [Chip.updPump, stands]

theorem dequeue_stands (queue : c.queue = []) (joining : c.joining = []) : c.dequeue p = c := by
  rw [Chip.dequeue, queue, joining, List.filter_nil, ← queue]
  nth_rw 2 [queue]
  rw [← joining]

theorem stopRequest_dry (dry : Parched c) (expiry : (c.pumps[p]).idleExpiry = none) : c.stopRequest p = c := by
  have cleared : (c.updPump p fun r => { r with idleExpiry := none }) = c := updPump_stands (by rw [← expiry])
  have gone : c.dequeue p = c := dequeue_stands dry.queue dry.joining
  have down := dry.pumps p
  unfold Chip.stopRequest
  dsimp only
  rw [cleared]
  split
  · exact gone
  · exact gone
  next up => rw [stateOf, up] at down; cases down
  next up => rw [stateOf, up] at down; cases down
  · rfl
  · rfl

theorem releaseStarted_dry (dry : Parched c) (expiry : ∀ p : PumpId, (c.pumps[p]).idleExpiry = none) (started : Vector Bool 12) :
    c.releaseStarted started = c := by
  unfold Chip.releaseStarted
  refine Chip.forEach_keeps (P := fun d => d = c) _ (fun p _ d k => ?_) rfl
  subst k
  unfold Chip.stopUnlessDemanded
  rw [stopRequest_dry dry (expiry p), ite_self]

theorem cutFlush_dry (dry : Parched c) (expiry : ∀ p : PumpId, (c.pumps[p]).idleExpiry = none) :
    ∃ r b, c.cutFlush = { c with circ := r, mode := { c.mode with flushRunning := b } } ∧ r.flush = none ∧
      (c.circ.flush = none → r = c.circ) := by
  have paid (f : Flush) : ∃ r, (if f.counts then c.payDebt.advancePointer f.zone else c) = { c with circ := r } := by
    split
    · exact ⟨_, rfl⟩
    · exact ⟨c.circ, rfl⟩
  unfold Chip.cutFlush
  split
  next none_runs => exact ⟨c.circ, c.mode.flushRunning, rfl, none_runs, fun _ => rfl⟩
  next f runs =>
    obtain ⟨r, is⟩ := paid f
    dsimp only
    rw [is, releaseStarted_dry (c := { c with circ := r }) (dry.of_same rfl rfl (fun _ => rfl) rfl) expiry]
    exact ⟨{ r with flush := none }, false, rfl, rfl, fun none_runs => absurd (none_runs.symm.trans runs) nofun⟩

/-! ## Entry into TRIPPED -/

theorem tripShut_parched (c : Chip) (cause : TripCause) : Parched (tripShut c cause) := shut_parched _

/-- A show, its sound and its lamps gone at a trip. -/
theorem tripSilenced_is (c : Chip) : ∃ ps ls, c.abortShow.tripAudio.tripLamps = { c with
      mode := { c.mode with restore := none }, run := if c.run.cue = .idle then c.run else c.run.over, pages := ps, links := ls
      playback := { c.playback with state := .off, buffer := [], endAt := none, r := 0, held := ⟨0, 0⟩ }
      clock := { c.clock with running := false }
      showLayer := c.abortShow.tripAudio.tripLamps.showLayer, panelLayer := c.abortShow.tripAudio.tripLamps.panelLayer
      lums := c.abortShow.tripAudio.tripLamps.lums, outputs := darkOutputs, lampLine := some darkOutputs } ∧
    Noted [.showState] c c.abortShow.tripAudio.tripLamps ∧
    (∀ k : PageId, ps[k] =
      if c.run.cue ≠ .idle ∧ c.run.livePage = some k then { c.pages[k] with state := .ready } else c.pages[k]) ∧
    (∀ l : LumId, c.abortShow.tripAudio.tripLamps.lums[l] = ⟨(c.lums[l]).gate, .showLayer, none⟩) ∧
    (c.run.cue ≠ .idle → ∀ m : LinkId, .showState ∈ (c.abortShow.tripAudio.tripLamps.links[m]).notices) := by
  obtain ⟨ps, ls, aborted, noted, page, heard⟩ := abortShow_is c
  generalize c.abortShow = d at aborted noted heard
  have links : d.tripAudio.tripLamps.links = d.links := by
    rw [tripLamps_is, tripAudio_eq]
  refine ⟨ps, ls, ?_, noted.trans (.of_links links), page, fun l => ?_, ?_⟩
  · have lamps := tripLamps_is d.tripAudio
    generalize d.tripAudio.tripLamps = e at lamps
    rw [lamps, tripAudio_eq, aborted]
  · rw [tripLamps_lum, (Chip.tripAudio_audio d).lums, aborted]
  · rw [links]
    exact heard

/-- Entry into TRIPPED, before the mode changes. -/
def tripEntered (c : Chip) (cause : TripCause) : Chip := (tripShut c cause).abortShow.tripAudio.tripLamps.cutFlush

theorem enterTripped_eq (c : Chip) (cause : TripCause) :
    c.enterTripped cause = ((tripEntered c cause).toMode .tripped).notify .trip := rfl

theorem toMode_other {m : FountainMode} (other : c.mode.mode ≠ m) :
    c.toMode m = Chip.notify { c with mode := { c.mode with mode := m } } .mode := if_neg other

/-- What a trip leaves before the mode changes; the notices it raises then change the links alone. -/
theorem tripEntered_trips (c : Chip) (cause : TripCause) :
    (tripEntered c cause).mode.mode = c.mode.mode ∧ Noted [.showState, .pumpFault] c (tripEntered c cause) ∧
    ∀ links : Vector Link 3,
      (∀ n (m : LinkId), n ∈ ((tripEntered c cause).links[m]).notices → n ∈ (links[m]).notices) →
      c.tripsTo { tripEntered c cause with mode := { (tripEntered c cause).mode with mode := .tripped }, links := links } cause := by
  obtain ⟨shut, wet, circ, pumps⟩ := tripShut_is c cause
  have dry := tripShut_parched c cause
  unfold tripEntered
  generalize tripShut c cause = d at shut wet circ pumps dry
  obtain ⟨ps, ls, silenced, noted, page, lum, heard⟩ := tripSilenced_is d
  have dark := tripLamps_dark d.abortShow.tripAudio
  have quiet : Parched d.abortShow.tripAudio.tripLamps :=
    ((abortShow_parched dry).audio (Chip.tripAudio_audio _)).lamps (Chip.tripLamps_lamps _)
  generalize d.abortShow.tripAudio.tripLamps = e at silenced noted lum heard dark quiet
  have same (p : PumpId) : e.pumps[p] = d.pumps[p] := by rw [silenced]
  obtain ⟨r, b, cut, gone, stood⟩ := cutFlush_dry quiet fun p => by rw [same]; exact (pumps p).expiry
  have run : d.run = c.run := by rw [shut]
  have pages : d.pages = c.pages := by rw [shut]
  have lums : d.lums = c.lums := by rw [shut]
  have mode : e.mode = ⟨c.mode.mode, .off, none, none, c.mode.flushRunning, none, none, [cause]⟩ := by
    rw [silenced]
    dsimp only
    rw [shut]
  rw [cut]
  refine ⟨by rw [mode], .trans (wet.mono (by simp)) (noted.mono (by simp)), fun links more => ⟨?_, fun p => ?_, fun k => ?_, fun i => dark i, fun l => ?_, gone, ?_, ?_⟩⟩
  · dsimp only
    rw [mode]
    rw [silenced]
    rw [shut]
  · obtain ⟨intent, policy, pending, expiry, granted, down, stopped, rests, faults⟩ := pumps p
    dsimp only
    rw [same]
    exact ⟨intent, policy, pending, expiry, granted, down, fun up => ⟨stopped up, rests up, faults up⟩⟩
  · have is : e.pages[k] = ps[k] := by rw [silenced]
    dsimp only
    rw [is, page k, run, pages]
  · rw [← lums]
    exact lum l
  · intro none_runs
    have kept : e.circ = d.circ := by rw [silenced]
    exact (stood (by rw [kept, circ none_runs]; exact none_runs)).trans (kept.trans (circ none_runs))
  · intro shows m
    exact more _ m (heard (by rw [run]; exact shows) m)

theorem enterTripped_trips (c : Chip) (cause : TripCause) (other : c.mode.mode ≠ .tripped) :
    c.noticed (c.enterTripped cause) [.mode, .trip] [.showState, .pumpFault] ∧
    ∀ e : Chip, e = { c.enterTripped cause with links := e.links } →
      (∀ n (m : LinkId), n ∈ ((c.enterTripped cause).links[m]).notices → n ∈ (e.links[m]).notices) → c.tripsTo e cause := by
  obtain ⟨mode, noted, trips⟩ := tripEntered_trips c cause
  rw [enterTripped_eq, toMode_other (by rw [mode]; exact other)]
  generalize tripEntered c cause = d at mode noted trips
  have moved : Noted [.mode] d (Chip.notify { d with mode := { d.mode with mode := .tripped } } .mode) :=
    .trans (.of_links rfl) (.notify (List.mem_singleton.mpr rfl) _)
  have raised := Noted.notify (may := [.trip]) (List.mem_singleton.mpr rfl) (Chip.notify { d with mode := { d.mode with mode := .tripped } } .mode)
  have all : Noted [.mode, .trip, .showState, .pumpFault] c _ :=
    .trans (noted.mono (by simp)) (.trans (moved.mono (by simp)) (raised.mono (by simp)))
  refine ⟨noticed_of_noted all (fun n mem m => ?_) (by simp), fun e is more => ?_⟩
  · simp only [List.mem_cons, List.not_mem_nil, or_false] at mem
    rcases mem with rfl | rfl
    · exact (raised m).kept _ (notify_heard _ _ m)
    · exact notify_heard _ _ m
  · have entered := trips e.links fun n m mem => more n m ((raised m).kept _ ((moved m).kept _ mem))
    rwa [show e = { d with mode := { d.mode with mode := .tripped }, links := e.links } from is]

/-- A cause that joins the set in TRIPPED (R167). -/
theorem tripCause_joins (cause : TripCause) (tripped : c.mode.mode = .tripped) :
    c.tripCause cause = Chip.notify
      { c with mode := { c.mode with causes := if cause ∈ c.mode.causes then c.mode.causes else c.mode.causes ++ [cause] } } .trip :=
  if_pos tripped

theorem tripCause_enters (cause : TripCause) (other : c.mode.mode ≠ .tripped) : c.tripCause cause = c.enterTripped cause := if_neg other

end Sys2Proof.Proofs.Trips


/-! PROOF. The trip causes and CLEAR_TRIP (O26, O27). -/

namespace Sys2Proof.Proofs.Trips

open Sys2Proof Sys2Proof.Machine Sys2Proof.Proofs.StepEffects Sys2Proof.Proofs.Water Sys2Proof.Proofs.Links
open Sys2Proof.Proofs.Orders Sys2Proof.Proofs.Settling Sys2Proof.Proofs.Requests Sys2Proof.Proofs.Sensing

variable {i : Instr} {s : State} {l : LinkId} {c d : Chip} {cause : TripCause}

/-! ## The trip causes (R166, R167) -/

/-- A notice alone has been raised. -/
theorem noticed_notify (n : Notice) (links : d.links = c.links) : c.noticed (d.notify n) [n] [] := by
  have raised : Noted [n] c (d.notify n) := .trans (.of_links links) (.notify (List.mem_singleton.mpr rfl) _)
  exact noticed_of_noted raised (List.forall_mem_singleton.mpr fun m => notify_heard _ _ m) (by simp)

theorem reply_notices {kind : Nat} (c : Chip) (l m : LinkId) (code : ReplyCode) (data : ReplyData) :
    ((c.reply l kind code data).links[m]).notices = (c.links[m]).notices := by
  have link : (c.reply l kind code data).links[m] =
      if m = l then { c.links[l] with replies := (c.links[l]).replies ++ [⟨kind, code, data⟩] } else c.links[m] :=
    Chip.updLink_link c l m _
  rw [link]
  split
  next same => rw [same]
  · rfl

/-- An event by which a cause trips the fountain. -/
theorem trips_enter (run : exec i s = .next { s with chip := c.tripCause cause }) (links : c.links = s.chip.links)
    (other : c.mode.mode ≠ .tripped) :
    Becomes i s [.mode, .trip] [.showState, .pumpFault] fun d => c.tripsTo d cause := by
  obtain ⟨noticed, trips⟩ := enterTripped_trips c cause other
  rw [tripCause_enters cause other] at run
  generalize c.enterTripped cause = d at noticed trips run
  refine ⟨d, run, fun m => ?_, trips d rfl fun _ _ mem => mem⟩
  rw [← links]
  exact noticed m

/-- An event by which a cause joins the set of a tripped fountain. -/
theorem trips_join (run : exec i s = .next { s with chip := c.tripCause cause }) (links : c.links = s.chip.links)
    (tripped : c.mode.mode = .tripped) :
    Becomes i s [.trip] [] fun d => d = { c with
      mode := { c.mode with causes := if cause ∈ c.mode.causes then c.mode.causes else c.mode.causes ++ [cause] }
      links := d.links } := by
  rw [tripCause_joins cause tripped] at run
  exact ⟨_, run, noticed_notify .trip links, rfl⟩

theorem panel_trips (heard : s.chip.hears l 19) :
    (s.chip.mode.mode ≠ .tripped →
      Takes (.trip l) s l 19 [.mode, .trip] [.showState, .pumpFault] fun d => s.chip.tripsTo d .panel) ∧
    (s.chip.mode.mode = .tripped →
      Takes (.trip l) s l 19 [.trip] [] fun d =>
        d = { s.chip with
          mode := { s.chip.mode with
            causes := if .panel ∈ s.chip.mode.causes then s.chip.mode.causes else s.chip.mode.causes ++ [.panel] }
          links := d.links }) := by
  have reacts : Reacts (.trip l) s l 19 ruleTrip := reacts_of_hears rfl rfl heard
  refine ⟨fun other => ?_, fun tripped => ?_⟩
  · obtain ⟨noticed, trips⟩ := enterTripped_trips s.chip .panel other
    refine reacts.takes (d := s.chip.enterTripped .panel) (by rw [ruleTrip, tripCause_enters _ other]) noticed ?_
    refine trips _ rfl fun n m mem => ?_
    rw [reply_notices]
    exact mem
  · exact reacts.takes (congrArg Chip.taken (tripCause_joins _ tripped)) (noticed_notify .trip rfl) rfl

/-- Settles O26: the three causes, each entering TRIPPED or joining the set. -/
theorem tripsEnterTripped : Obligations.TripsEnterTripped := by
  refine ⟨fun s l => panel_trips, fun s free clear => ?_, fun s free low was level c is => ?_⟩
  · have pressed : exec .eStopAssert s = .next { s with chip := (Chip.tripCause
        { s.chip with lines := { s.chip.lines with eStop := true }, sense := { s.chip.sense with eStop := true } } .eStop) } :=
      act_next (f := Chip.stopPressed) rfl ((if_neg (by rw [clear]; exact Bool.false_ne_true)).trans (lineEvent_free free))
    exact ⟨fun other => trips_enter pressed rfl other, fun tripped => trips_join pressed rfl tripped⟩
  · have changes : lineLevel s.chip.lines .lowTrip ≠ (s.chip.sense.switch .lowTrip).state := by
      rw [show lineLevel s.chip.lines .lowTrip = true from low, show (s.chip.sense.switch .lowTrip).state = false from was]
      nofun
    have two : levelOfSwitches (debounced s.chip .lowTrip).lowTrip.state (debounced s.chip .lowTrip).lowWarn.state = 2 := by
      rw [show (debounced s.chip .lowTrip).lowTrip.state = true from low]; rfl
    have taken : levelTaken s.chip .lowTrip =
        { c with sense := { c.sense with lowTrip := { c.sense.lowTrip with state := true }, level := 2 } } := by
      rw [levelTaken, two, debounced, show lineLevel s.chip.lines .lowTrip = true from low, is]
      rfl
    have expires : exec (.levelDebounceExpiry .lowTrip) s = .next { s with chip := (Chip.tripCause
        { c with sense := { c.sense with lowTrip := { c.sense.lowTrip with state := true }, level := 2 } } .level) } :=
      event_next (f := Chip.levelExpiry .lowTrip) rfl free (by
        rw [levelExpiry_takes changes, if_pos ⟨two, level⟩, taken])
    have links : c.links = s.chip.links := by rw [is]; rfl
    have mode : c.mode = s.chip.mode := by rw [is]; rfl
    refine ⟨fun other => trips_enter expires links (by rw [show _ = s.chip.mode.mode from congrArg ModeRecord.mode mode]; exact other), fun tripped => ?_⟩
    have joined := trips_join expires links (by rw [show _ = s.chip.mode.mode from congrArg ModeRecord.mode mode]; exact tripped)
    rw [← mode]
    exact joined

/-! ## CLEAR_TRIP (R168) -/

theorem recauseJets_stands (h : ∀ j : JetId, (c.jets[j]).state ≠ .waiting) : c.recauseJets = c := by
  have jets : (Vector.ofFn fun j : JetId =>
      if (c.jets[j]).state = .waiting then { c.jets[j] with waitCause := some (c.waitCauseOn (c.pumpOf j)) } else c.jets[j]) = c.jets := by
    ext j hj : 1
    rw [Vector.getElem_ofFn]
    exact if_neg (h ⟨j, hj⟩)
  rw [Chip.recauseJets, jets]

theorem raisePower_closed (off : c.mode.power = .off) (closed : ∀ j : JetId, (c.jets[j]).state ≠ .waiting) :
    c.raisePower = { c with mode := { c.mode with power := .settling, settle := some ⟨c.now, c.limits.site.settle⟩ } } :=
  (if_pos off).trans (recauseJets_stands (c := { c with mode := _ }) closed)

/-- Settles O27: the two refusals, and the wake. -/
theorem clearTripWakesTheFountain : Obligations.ClearTripWakesTheFountain := by
  intro s l heard
  have reacts : Reacts (.clearTrip l) s l 20 ruleClearTrip := reacts_of_hears rfl rfl heard
  refine ⟨fun other => reacts.refuses (if_pos other), fun tripped => ⟨fun stands => reacts.answers ?_, fun stop level off closed => ?_⟩⟩
  · exact (if_neg (not_not_intro tripped)).trans (if_pos stands)
  · have raised := raisePower_closed (c := { s.chip with mode := { s.chip.mode with causes := [] } }) off
      fun j => by rw [show (_ : Jet).state = .closed from closed j]; nofun
    have clear : ¬(s.chip.sense.eStop = true ∨ s.chip.sense.level = 2) := by simp [stop, level]
    refine reacts.takes (d := Chip.notify { s.chip with mode := { s.chip.mode with
      mode := .settling, power := .settling, settle := some ⟨s.chip.now, s.chip.limits.site.settle⟩
      wake := some .standby, causes := [] } } .mode) ?_ (noticed_notify .mode rfl) rfl
    rw [ruleClearTrip, if_neg (not_not_intro tripped), if_neg clear]
    dsimp only
    rw [raised, toMode_other (by dsimp only; rw [tripped]; nofun)]

end Sys2Proof.Proofs.Trips


/-! PROOF. The resets and RESTART (O30, O31). -/

namespace Sys2Proof.Proofs.Trips

open Sys2Proof Sys2Proof.Machine Sys2Proof.Proofs.StepEffects Sys2Proof.Proofs.Water Sys2Proof.Proofs.Links
open Sys2Proof.Proofs.Orders Sys2Proof.Proofs.Settling Sys2Proof.Proofs.Requests Sys2Proof.Proofs.Sensing

variable {i : Instr} {s : State} {l : LinkId} {c d : Chip} {cause : TripCause}

/-! ## An emergency stop held through a reset (R151, R169) -/

/-- Where no pump is up, a trip raises nothing as it stops them. -/
theorem tripPumps_down_links (down : ∀ p : PumpId, (c.pumps[p]).state.up = false) : c.tripPumps.links = c.links := by
  have stands : tripRested c = { c with queue := [], joining := [] } :=
    Chip.forEach_keeps (P := fun d => d = { c with queue := [], joining := [] }) _ (fun p _ d k => by
      subst k
      exact if_neg (by rw [show _ = false from down p]; exact Bool.false_ne_true)) rfl
  rw [tripPumps_eq, stands]

theorem tripEntered_links (down : ∀ p : PumpId, (c.pumps[p]).state.up = false) (idle : c.run.cue = .idle) :
    (tripEntered c cause).links = c.links := by
  have dry := tripShut_parched c cause
  have shut : (tripShut c cause).links = c.links ∧ (tripShut c cause).run = c.run ∧
      ∀ p : PumpId, ((tripShut c cause).pumps[p]).idleExpiry = none := by
    obtain ⟨frame, -, -, pumps⟩ := tripShut_is c cause
    refine ⟨?_, by rw [frame], fun p => (pumps p).expiry⟩
    obtain ⟨js, dropped⟩ := dropPower_is { c with mode := { c.mode with causes := [cause], wake := none, dormancy := none } }
    have rested := tripPumps_down_links
      (c := { c with mode := ⟨c.mode.mode, .off, none, none, c.mode.flushRunning, none, c.mode.restore, [cause]⟩, jets := js }) down
    rw [tripShut, dropped, closeJets_eq]
    dsimp only at rested ⊢
    exact rested
  unfold tripEntered
  generalize tripShut c cause = d at dry shut
  obtain ⟨links, run, expiry⟩ := shut
  have aborted : d.abortShow = { d with mode := { d.mode with restore := none } } := if_pos (by rw [run]; exact idle)
  have quiet : Tripped.Parched d.abortShow.tripAudio.tripLamps :=
    ((Tripped.abortShow_parched dry).audio (Chip.tripAudio_audio _)).lamps (Chip.tripLamps_lamps _)
  have silent : d.abortShow.tripAudio.tripLamps.links = d.links ∧ d.abortShow.tripAudio.tripLamps.pumps = d.pumps := by
    rw [tripLamps_is, tripAudio_eq, aborted]
    exact ⟨rfl, rfl⟩
  obtain ⟨r, b, cut, -, -⟩ := cutFlush_dry quiet fun p => by rw [silent.2]; exact expiry p
  rw [cut, ← links]
  exact silent.1

/-- A fountain at rest that trips raises MODE and TRIP alone. -/
theorem enterTripped_noticed (down : ∀ p : PumpId, (c.pumps[p]).state.up = false) (idle : c.run.cue = .idle)
    (other : c.mode.mode ≠ .tripped) : c.noticed (c.enterTripped cause) [.mode, .trip] [] := by
  have links := tripEntered_links (cause := cause) down idle
  obtain ⟨mode, -, -⟩ := tripEntered_trips c cause
  rw [enterTripped_eq, toMode_other (by rw [mode]; exact other)]
  generalize tripEntered c cause = d at links
  have moved : Noted [.mode] c (Chip.notify { d with mode := { d.mode with mode := .tripped } } .mode) :=
    .trans (.of_links links) (.notify (List.mem_singleton.mpr rfl) _)
  have raised := Noted.notify (may := [.trip]) (List.mem_singleton.mpr rfl) (Chip.notify { d with mode := { d.mode with mode := .tripped } } .mode)
  refine noticed_of_noted (all := [.mode, .trip]) ((moved.mono (by simp)).trans (raised.mono (by simp))) (fun n mem m => ?_) (by simp)
  simp only [List.mem_cons, List.not_mem_nil, or_false] at mem
  rcases mem with rfl | rfl
  · exact (raised m).kept _ (notify_heard _ _ m)
  · exact notify_heard _ _ m

/-- What a reset leaves, where an emergency stop is held through it and where none is. -/
theorem senseStop_cases (down : ∀ p : PumpId, (d.pumps[p]).state.up = false) (idle : d.run.cue = .idle)
    (mode : d.mode.mode = .dormant) (run : exec i s = .next { s with chip := d.senseStop }) :
    (d.lines.eStop = false → exec i s = .next { s with chip := d }) ∧
    (d.lines.eStop = true → ∃ t : Chip, exec i s = .next { s with chip := t } ∧ d.noticed t [.mode, .trip] [] ∧ d.tripsTo t .eStop) := by
  have other : d.mode.mode ≠ .tripped := by rw [mode]; nofun
  refine ⟨fun clear => ?_, fun asserted => ?_⟩
  · rwa [Chip.senseStop, if_neg (by rw [clear]; exact Bool.false_ne_true)] at run
  · rw [Chip.senseStop, if_pos asserted, tripCause_enters _ other] at run
    have noticed := enterTripped_noticed (cause := .eStop) down idle other
    obtain ⟨-, trips⟩ := enterTripped_trips d .eStop other
    generalize d.enterTripped .eStop = t at run noticed trips
    exact ⟨t, run, noticed, trips t rfl fun _ _ mem => mem⟩

/-! ## The straps (R170) -/

theorem resolveRole_iff (straps : Vector StrapPins 3) (l : LinkId) {r : Role} (named : r ≠ .observer) :
    resolveRole straps l = r ↔ strapSelects straps[l] = r ∧ ∀ m : LinkId, m < l → strapSelects straps[m] ≠ r := by
  unfold resolveRole
  dsimp only
  split
  next taken =>
    refine iff_of_false named.symm ?_
    rintro ⟨selects, free⟩
    simp only [List.any_eq_true, List.mem_finRange, true_and, Bool.and_eq_true, decide_eq_true_eq] at taken
    obtain ⟨m, lower, same⟩ := taken
    exact free m lower (same.trans selects)
  next free =>
    refine ⟨fun selects => ⟨selects, fun m lower same => free ?_⟩, fun h => h.1⟩
    simp only [List.any_eq_true, List.mem_finRange, true_and, Bool.and_eq_true, decide_eq_true_eq]
    exact ⟨m, lower, same.trans selects.symm⟩

theorem strapLinks_link (straps : Vector StrapPins 3) (l : LinkId) :
    (strapLinks straps)[l] = resetLink (resolveRole straps l) (straps[l]).fast := Vector.getElem_ofFn _

/-! ## Power-on reset (R169) -/

theorem resetPump_down (now : Nat) (p : PumpId) :
    ((Vector.replicate 12 { resetPump with stateEntry := now } : Vector Pump 12)[p]) = { resetPump with stateEntry := now } :=
  Vector.getElem_replicate _

theorem poweredChip_down (lines : Lines) (links : Vector Link 3) (p : PumpId) :
    ((poweredChip lines links).pumps[p]) = resetPump := Vector.getElem_replicate _

/-- What a power-on reset leaves where no emergency stop is held. -/
theorem powerOn_values (lines : Lines) {d : Chip} (is : d = poweredChip lines (strapLinks lines.straps)) (clear : lines.eStop = false) :
    d.mode = ⟨.dormant, .off, none, none, false, none, none, []⟩ ∧ d.resetHeld = false ∧ d.lines = lines ∧
    d.pages = Vector.replicate 4
      ⟨.free, Vector.replicate 1024 0, Vector.replicate 16 none, Vector.replicate 8 ⟨0, 0, 0⟩, none⟩ ∧
    d.run = ⟨.idle, none, none, none, none, none, #v[0, 0, 0, 0], none, none, none, none⟩ ∧
    d.image = clearedImage ∧ d.playback = ⟨.off, false, 0, 0, none, ⟨0, 0⟩, 0, []⟩ ∧ d.gain = ⟨256, 256, 0⟩ ∧
    (d.clock.value, d.clock.source, d.clock.running) = (0, .localTime, false) ∧
    (∀ p : PumpId, (d.pumps[p]).state = .outOfService ∧ (d.pumps[p]).intent = .stop ∧ (d.pumps[p]).policy = .follow ∧
      (d.pumps[p]).stopPending = false ∧ (d.pumps[p]).lastGrant = none ∧ (d.pumps[p]).idleExpiry = none ∧
      (d.pumps[p]).faultCause = none ∧ (d.pumps[p]).target = 0 ∧ (d.pumps[p]).setpoint = 0) ∧
    d.queue = [] ∧ d.history = [] ∧ d.jets = Vector.replicate 48 idleJet ∧
    (d.circ.debt, d.circ.periodTimer, d.circ.pointer, d.circ.mask, d.circ.flush) = (0, 0, 0, 0, none) ∧
    d.showLayer = Vector.replicate 128 ⟨0, 0, 0, 0, .showTime⟩ ∧
    d.panelLayer = Vector.replicate 128 ⟨0, 0, 0, 0, .localTime⟩ ∧
    d.lums = Vector.replicate 32 ⟨0, .showLayer, none⟩ ∧ d.outputs = darkOutputs ∧
    d.sense = resetSensing 0 false ∧ d.limits = defaultLimits ∧ d.protection = .opened ∧ d.siteCode = none ∧
    (∀ l : LinkId, d.links[l] = ⟨(d.links[l]).role, (lines.straps[l]).fast, .hunt, false, none, [], [], []⟩ ∧
      ((d.links[l]).role = .program ↔
        strapSelects lines.straps[l] = .program ∧ ∀ m : LinkId, m < l → strapSelects lines.straps[m] ≠ .program) ∧
      ((d.links[l]).role = .panel ↔
        strapSelects lines.straps[l] = .panel ∧ ∀ m : LinkId, m < l → strapSelects lines.straps[m] ≠ .panel)) := by
  subst is
  have sense : (poweredChip lines (strapLinks lines.straps)).sense = resetSensing 0 false := by rw [← clear]; rfl
  refine ⟨rfl, rfl, rfl, rfl, rfl, rfl, rfl, rfl, rfl, fun p => ?_, rfl, rfl, rfl, rfl, rfl, rfl, rfl, rfl, sense, rfl, rfl, rfl,
    fun l => ?_⟩
  · rw [poweredChip_down]
    exact ⟨rfl, rfl, rfl, rfl, rfl, rfl, rfl, rfl, rfl⟩
  · rw [show (poweredChip lines (strapLinks lines.straps)).links[l] = _ from strapLinks_link lines.straps l]
    exact ⟨rfl, resolveRole_iff _ l nofun, resolveRole_iff _ l nofun⟩

theorem powerOn_resets (s : State) (lines : Lines) :
    (lines.eStop = false → exec (.powerOnReset lines) s = .next { s with chip := poweredChip lines (strapLinks lines.straps) }) ∧
    (lines.eStop = true → ∃ d : Chip, exec (.powerOnReset lines) s = .next { s with chip := d } ∧
      d.mode.mode = .tripped ∧ d.mode.causes = [.eStop] ∧ d.sense.eStop = true ∧ d.limits = defaultLimits ∧
      ∀ l : LinkId, .mode ∈ (d.links[l]).notices ∧ .trip ∈ (d.links[l]).notices) := by
  obtain ⟨clear, stopped⟩ := senseStop_cases (i := .powerOnReset lines) (s := s) (d := poweredChip lines (strapLinks lines.straps))
    (fun p => by rw [poweredChip_down]; rfl) rfl rfl rfl
  refine ⟨clear, fun asserted => ?_⟩
  obtain ⟨t, run, noticed, frame, -⟩ := stopped asserted
  refine ⟨t, run, by rw [frame], by rw [frame], by rw [frame]; exact asserted, by rw [frame]; rfl, fun l => ?_⟩
  obtain ⟨-, -, raised, -⟩ := noticed l
  exact ⟨raised _ (by simp), raised _ (by simp)⟩

/-! ## Line reset (R169, R20) -/

theorem assertReset_is (c : Chip) : ∃ js, c.assertReset = { c with
    resetHeld := true, mode := { c.mode with power := .off, settle := none }, jets := js, links := c.assertReset.links } ∧
    ∀ l : LinkId, c.assertReset.links[l] =
      { c.links[l] with receive := .hunt, discarding := false, owed := none, replies := [], notices := [] } := by
  obtain ⟨js, dropped⟩ := dropPower_is c
  unfold Chip.assertReset
  rw [dropped]
  exact ⟨js, rfl, fun l => Chip.updLinks_link _ l _⟩

theorem assertReset_forces (s : State) : ∃ d : Chip, exec .lineResetAssert s = .next { s with chip := d } ∧
    d.resetHeld = true ∧ d.mode.power = .off ∧ d.pwrEn = false ∧ (∀ p : PumpId, d.runLine p = false) ∧
    (∀ j : JetId, d.valve j = false) ∧ d.audioLine = ⟨0, 0⟩ ∧ d.pages = s.chip.pages ∧
    ∀ l : LinkId, d.attn l = false ∧ d.links[l] =
      ⟨(s.chip.links[l]).role, (s.chip.links[l]).fast, .hunt, false, none, [], [], (s.chip.links[l]).sent⟩ := by
  have run : exec .lineResetAssert s = .next { s with chip := s.chip.assertReset } := rfl
  obtain ⟨js, frame, links⟩ := assertReset_is s.chip
  generalize s.chip.assertReset = d at run frame links
  have held : d.resetHeld = true := by rw [frame]
  refine ⟨d, run, held, by rw [frame], by simp [Chip.pwrEn, held], fun p => by simp [Chip.runLine, held],
    fun j => by simp [Chip.valve, held], by rw [Chip.audioLine, if_pos held]; rfl, by rw [frame], fun l => ⟨by simp [Chip.attn, held], links l⟩⟩

theorem afterReset_kept {pg : Page} (h : pg.state = .free ∨ pg.state = .ready ∨ pg.state = .invalid) : pg.afterReset = pg := by
  unfold Page.afterReset
  rcases h with h | h | h <;> rw [h]

theorem afterReset_live {pg : Page} (h : pg.state = .live) : pg.afterReset = { pg with state := .ready } := by
  unfold Page.afterReset
  rw [h]

theorem afterReset_interrupted {pg : Page} (h : pg.state = .loading ∨ pg.state = .checking) :
    pg.afterReset = { pg with state := .invalid, fault := some ⟨none, none, .interrupted⟩ } := by
  unfold Page.afterReset
  rcases h with h | h <;> rw [h] <;> rfl

theorem lineResetValues_page (c : Chip) (straps : Vector StrapPins 3) (k : PageId) :
    (c.lineResetValues straps).pages[k] = (c.pages[k]).afterReset := Vector.getElem_ofFn _

theorem lineResetValues_pump (c : Chip) (straps : Vector StrapPins 3) (p : PumpId) :
    (c.lineResetValues straps).pumps[p] = { resetPump with stateEntry := c.now } := Vector.getElem_replicate _

theorem lineReset_values (s : State) (straps : Vector StrapPins 3) : ∃ d : Chip, d = s.chip.lineResetValues straps ∧
    (s.chip.lines.eStop = false → exec (.lineResetRelease straps) s = .next { s with chip := d }) ∧
    (s.chip.lines.eStop = true → ∃ t : Chip, exec (.lineResetRelease straps) s = .next { s with chip := t } ∧
      d.noticed t [.mode, .trip] [] ∧ d.tripsTo t .eStop) ∧
    d.resetHeld = false ∧ d.lines = { s.chip.lines with straps := straps } ∧
    d.mode = ⟨.dormant, .off, none, none, false, none, none, []⟩ ∧
    (∀ k : PageId,
      ((s.chip.pages[k]).state = .free ∨ (s.chip.pages[k]).state = .ready ∨ (s.chip.pages[k]).state = .invalid →
        d.pages[k] = s.chip.pages[k]) ∧
      ((s.chip.pages[k]).state = .live → d.pages[k] = { s.chip.pages[k] with state := .ready }) ∧
      ((s.chip.pages[k]).state = .loading ∨ (s.chip.pages[k]).state = .checking →
        d.pages[k] = { s.chip.pages[k] with state := .invalid, fault := some ⟨none, none, .interrupted⟩ })) ∧
    d.run = ⟨.idle, none, none, none, none, none, #v[0, 0, 0, 0], none, none, none, none⟩ ∧
    d.image = clearedImage ∧ d.playback = ⟨.off, false, 0, 0, none, ⟨0, 0⟩, 0, []⟩ ∧ d.gain = ⟨256, 256, 0⟩ ∧
    (∀ p : PumpId, (d.pumps[p]).state = .outOfService ∧ (d.pumps[p]).lastGrant = none) ∧ d.queue = [] ∧
    d.history = [] ∧ d.jets = Vector.replicate 48 idleJet ∧ d.limits = defaultLimits ∧ d.protection = .opened ∧
    d.siteCode = none ∧ d.links = strapLinks straps ∧ d.clock = ⟨0, .localTime, false, s.chip.now⟩ ∧
    (d.circ.debt, d.circ.periodTimer, d.circ.pointer, d.circ.mask, d.circ.flush) = (0, 0, 0, 0, none) ∧
    d.sense = resetSensing s.chip.now s.chip.lines.eStop ∧ d.outputs = darkOutputs ∧
    d.showLayer = Vector.replicate 128 ⟨0, 0, 0, 0, .showTime⟩ ∧
    d.panelLayer = Vector.replicate 128 ⟨0, 0, 0, 0, .localTime⟩ ∧
    d.lums = Vector.replicate 32 ⟨0, .showLayer, none⟩ := by
  obtain ⟨clear, stopped⟩ := senseStop_cases (i := .lineResetRelease straps) (s := s) (d := s.chip.lineResetValues straps)
    (fun p => by rw [lineResetValues_pump]; rfl) rfl rfl rfl
  refine ⟨_, rfl, clear, stopped, rfl, rfl, rfl, fun k => ?_, rfl, rfl, rfl, rfl, fun p => ?_, rfl, rfl, rfl, rfl, rfl, rfl, rfl, rfl,
    rfl, rfl, rfl, rfl, rfl, rfl⟩
  · rw [lineResetValues_page]
    exact ⟨afterReset_kept, afterReset_live, afterReset_interrupted⟩
  · rw [lineResetValues_pump]
    exact ⟨rfl, rfl⟩

/-- Settles O30: the power-on reset, the assertion and the release of a line reset. -/
theorem resetValues : Obligations.ResetValues := by
  refine ⟨fun s lines => ?_, fun s => ⟨assertReset_forces s, lineReset_values s⟩⟩
  obtain ⟨resets, trips⟩ := powerOn_resets s lines
  exact ⟨fun clear => ⟨_, resets clear, powerOn_values lines rfl clear⟩, trips⟩

/-! ## RESTART (R169, R103, R18) -/

theorem pumpAfterRestart_down (c : Chip) (p : PumpId) (down : (c.pumps[p]).state.up = false) : c.pumpAfterRestart p =
    { c.pumps[p] with
      intent := .stop, policy := .follow, stopPending := false, idleExpiry := none, target := 0, setpoint := 0 } := by
  unfold Chip.pumpAfterRestart
  dsimp only
  rw [if_neg (by rw [down]; exact Bool.false_ne_true)]

theorem pumpAfterRestart_up (c : Chip) (p : PumpId) (up : (c.pumps[p]).state.up = true) : c.pumpAfterRestart p =
    { c.pumps[p] with
      state := .resting, stateEntry := c.now, restEnd := c.now + (c.limits.pumps[p]).rest * 1000
      intent := .stop, policy := .follow, stopPending := false, idleExpiry := none, target := 0, setpoint := 0 } := by
  unfold Chip.pumpAfterRestart
  dsimp only
  rw [if_pos up]

theorem restartValues_pump (c : Chip) (p : PumpId) : c.restartValues.pumps[p] = c.pumpAfterRestart p := Vector.getElem_ofFn _

theorem restartValues_link (c : Chip) (l : LinkId) : c.restartValues.links[l] = (c.links[l]).afterRestart := Vector.getElem_ofFn _

theorem restartValues_page (c : Chip) (k : PageId) : c.restartValues.pages[k] = (c.pages[k]).afterReset := Vector.getElem_ofFn _

theorem restartValues_down (c : Chip) (p : PumpId) : ((c.restartValues.pumps[p]).state).up = false := by
  rw [restartValues_pump]
  by_cases up : (c.pumps[p]).state.up = true
  · rw [pumpAfterRestart_up c p up]
    rfl
  · rw [pumpAfterRestart_down c p (Bool.eq_false_iff.mpr up)]
    exact Bool.eq_false_iff.mpr up

/-- Settles O31: the values RESTART leaves, record by record. -/
theorem restartValues : Obligations.RestartValues := by
  intro s l heard
  have run : exec (.restart l) s = .next { s with chip := (s.chip.reply l 21 .ok .none).restartValues.senseStop } := by
    have reacts : Reacts (.restart l) s l 21 (ruleRestart l) := reacts_of_hears rfl rfl heard
    exact reacts
  obtain ⟨clear, stopped⟩ := senseStop_cases (d := (s.chip.reply l 21 .ok .none).restartValues)
    (fun p => restartValues_down _ p) rfl rfl run
  refine ⟨_, rfl, clear, stopped, rfl, rfl, rfl, rfl, rfl, rfl, rfl, rfl, rfl, rfl, rfl, rfl, rfl, rfl, fun m => ?_, fun p => ?_,
    fun k => ?_, rfl, rfl, rfl, rfl, rfl, rfl⟩
  · have link : (s.chip.reply l 21 .ok .none).links[m] =
        if m = l then { s.chip.links[l] with replies := (s.chip.links[l]).replies ++ [⟨21, .ok, .none⟩] } else s.chip.links[m] :=
      Chip.updLink_link s.chip l m _
    rw [restartValues_link, link]
    by_cases same : m = l
    · subst same
      rw [if_pos rfl, if_pos rfl]
      unfold Link.afterRestart
      cases (s.chip.links[m]).owed <;> simp [resetLink, interrupted]
    · rw [if_neg same, if_neg same]
      unfold Link.afterRestart
      cases (s.chip.links[m]).owed <;> simp [resetLink, interrupted]
  · rw [restartValues_pump]
    by_cases up : (s.chip.pumps[p]).state.up = true
    · rw [pumpAfterRestart_up (s.chip.reply l 21 .ok .none) p up]
      exact ⟨rfl, rfl, rfl, rfl, rfl, rfl, rfl, rfl, fun down => absurd (up.symm.trans down) nofun, fun _ => ⟨rfl, rfl⟩⟩
    · rw [pumpAfterRestart_down (s.chip.reply l 21 .ok .none) p (Bool.eq_false_iff.mpr up)]
      exact ⟨rfl, rfl, rfl, rfl, rfl, rfl, rfl, rfl, fun _ => ⟨rfl, rfl⟩, fun yes => absurd yes up⟩
  · rw [restartValues_page]
    unfold Page.afterReset
    rw [Chip.reply_pages]
    cases (s.chip.pages[k]).state <;> rfl

end Sys2Proof.Proofs.Trips


/-! PROOF. A jet follows its pump from its first demand write on (R107 to R109), and JET_SET (O32). -/

namespace Sys2Proof.Proofs.ManualJets

open Sys2Proof Sys2Proof.Machine Sys2Proof.Proofs.StepEffects Sys2Proof.Proofs.Water Sys2Proof.Proofs.Orders
open Sys2Proof.Proofs.Tripped Sys2Proof.Proofs.Settling Sys2Proof.Proofs.Requests Sys2Proof.Proofs.Trips

variable {J : JetId → Prop} {I : PumpId → Prop} {b : Bool} {i : Instr} {s : State} {l : LinkId} {c d : Chip} {j : JetId}

/-! ## One jet follows its pump -/

/-- The jet stands as its demand and its pump give it. -/
def Follows (c : Chip) (j : JetId) : Prop := FitsOn c (c.pumpOf j) c.jets[j]

theorem follows_of_same (h : Follows c j) (limits : d.limits.jets = c.limits.jets) (power : d.mode.power = c.mode.power)
    (pumps : ∀ p : PumpId, stateOf d p = stateOf c p) (jets : d.jets = c.jets) : Follows d j := by
  have same : d.pumpOf j = c.pumpOf j := by simp only [Chip.pumpOf, limits]
  rw [Follows, jets, same, fitsOn_congr (pumps _) power]
  exact h

theorem updPump_follows (h : Follows c j) (p : PumpId) (f : Pump → Pump) (state : (f c.pumps[p]).state = stateOf c p) :
    Follows (c.updPump p f) j :=
  follows_of_same h rfl rfl (fun q => by
    rw [stateOf_updPump]
    split
    next e => rw [e, state]
    next => rfl) rfl

theorem enterState_follows (h : Follows c j) (p : PumpId) (st : PumpState) (fault : Option PumpFault) :
    Follows (c.enterState p st fault) j := by
  show Follows ((c.updPump p fun _ => entered c p st fault).followPump p) j
  rw [Follows, followPump_pumpOf, followPump_fitsOn, followPump_jet]
  split
  next own =>
    rw [own]
    exact settleJet_fits_of_fits p h
  next other =>
    have same : stateOf (c.updPump p fun _ => entered c p st fault) (c.pumpOf j) = stateOf c (c.pumpOf j) := by
      rw [stateOf_updPump, if_neg (show ¬c.pumpOf j = p from other)]
    exact (fitsOn_congr same rfl).mpr h

theorem wetFlush_follows (h : Follows c j) : Follows c.wetFlush j :=
  follows_of_same h (by rw [(Chip.wetFlush_water c).limits]) (by rw [(Chip.wetFlush_water c).mode])
    (fun p => by rw [stateOf, Chip.wetFlush_pumps, stateOf]) (Chip.wetFlush_jets c)

/-- A demand write makes its jet follow, and leaves the other jets following. -/
theorem demandWritten_follows (owner : Owner) (demand : Nat) (burstEnd : Option Nat) (k : JetId) (h : j = k ∨ Follows c j) :
    Follows (demandWritten c owner demand burstEnd k) j := by
  refine wetFlush_follows ((fitsOn_congr (c := c) rfl rfl).mpr ?_)
  show FitsOn c (c.pumpOf j) (c.jets.set k (jetWritten c owner demand burstEnd k))[j]
  by_cases e : j = k
  · subst e
    simpa using jetWritten_fits owner demand burstEnd j
  · have ne : (k : Nat) ≠ j := fun h => e (Fin.ext h.symm)
    have stood : FitsOn c (c.pumpOf j) c.jets[j] := h.resolve_left e
    simpa [Vector.getElem_set_ne, ne] using stood

theorem waterMove_follows (h : WaterMove J I b c d) (k : Follows c j) : Follows d j := by
  cases h with
  | dequeue | join | faultNotice | count => exact follows_of_same k rfl rfl (fun _ => rfl) rfl
  | drive _ p f named writes => exact updPump_follows k p f (by rw [writes]; rfl)
  | timers _ p f writes down => exact updPump_follows k p f (by rw [writes]; rfl)
  | enter _ p st fault => exact enterState_follows k p st fault
  | grant _ e =>
    have left : Follows { c.dequeue e.pump with history := lastEight (c.history ++ [c.now]) } j :=
      follows_of_same k rfl rfl (fun _ => rfl) rfl
    have primed := enterState_follows left e.pump .priming none
    unfold granted
    generalize Chip.enterState _ e.pump .priming none = d at primed ⊢
    exact updPump_follows primed e.pump _ rfl
  | write _ owner demand burstEnd k' => exact demandWritten_follows owner demand burstEnd k' (.inr k)

theorem waterMoves_follows (h : WaterMoves J I b c d) : Follows c j → Follows d j :=
  h.keeps waterMove_follows fun k => follows_of_same k rfl rfl (fun _ => rfl) rfl

/-- The jets of a list follow once their demands are written. -/
theorem demandWrites_follow (js : List JetId) (owner : Owner) (demand : Nat) (c : Chip) :
    ∀ j ∈ js, Follows (c.demandWrites js owner demand) j := by
  refine forEach_makes (P := fun j c => Follows c j) (fun j d => ?_) (fun j k d follows => ?_) js c
  · exact waterMoves_follows (demandWrite_after d owner demand none j) (demandWritten_follows owner demand none j (.inl rfl))
  · exact waterMoves_follows (demandWrite_moves (J := anyJet) (I := noPump) d owner demand none (j := k) trivial) follows

/-! ## JET_SET (R113) -/

/-- What JET_SET leaves. -/
theorem setJets_writes (c : Chip) (set : JetSet) (demand : Nat) : ∃ d, c.setJets set demand = d ∧
    c.WaterOnly d ∧ Noted [.pumpFault] c d ∧ FlushStands c d ∧ (∀ p, driveOf d p = driveOf c p) ∧
    (∀ j : JetId, orderOf d j = if set.getLsbD j.val = true then (.panel, min 1000 demand, none) else orderOf c j) ∧
    ∀ j : JetId, set.getLsbD j.val = true → Follows d j := by
  have moves : WaterMoves anyJet noPump false c (c.setJets set demand) :=
    endEvent_moves (demandWrites_moves c _ _ fun _ _ => trivial)
  have ends : WaterMoves noJet noPump false (c.demandWrites (jetsIn set) .panel (min 1000 demand)) (c.setJets set demand) :=
    endEvent_moves (.refl _)
  refine ⟨_, rfl, waterMoves_water moves, waterMoves_noted moves, waterMoves_flush moves, fun p => waterMoves_drive moves not_false,
    fun j => ?_, fun j named => waterMoves_follows ends (demandWrites_follow _ _ _ c j (mem_jetsIn.mpr named))⟩
  rw [waterMoves_order ends not_false, demandWrites_order]
  simp only [mem_jetsIn]

/-- A reply behind water that has moved. -/
theorem reply_water {kind : Nat} {code : ReplyCode} {data : ReplyData} (h : c.WaterOnly d) : d.reply l kind code data = { c with
    pumps := (d.reply l kind code data).pumps, queue := (d.reply l kind code data).queue
    joining := (d.reply l kind code data).joining, history := (d.reply l kind code data).history
    jets := (d.reply l kind code data).jets, circ := (d.reply l kind code data).circ
    links := (d.reply l kind code data).links } := by
  have frame := h.1
  show { d with links := (d.reply l kind code data).links } = { c with
    pumps := d.pumps, queue := d.queue, joining := d.joining, history := d.history, jets := d.jets, circ := d.circ
    links := (d.reply l kind code data).links }
  generalize (d.reply l kind code data).links = links
  rw [frame]

theorem noticed_pumpFault (h : Noted [.pumpFault] c d) : c.noticed d [] [.pumpFault] :=
  noticed_of_noted h nofun (by simp)

theorem follows_state (h : Follows c j) : (c.jets[j]).state =
    if (c.jets[j]).demand = 0 then .closed else if stateOf c (c.pumpOf j) = .running then .opened else .waiting := h.1

/-- Settles O32: the tests, then the written jets and the jets left alone. -/
theorem jetSetWritesItsJets : Obligations.JetSetWritesItsJets := by
  intro s l set demand heard
  have reacts : Reacts (.jetSet l set demand) s l 22 (ruleJetSet set demand true) := reacts_of_hears rfl rfl heard
  refine ⟨reacts.refuses_dormant, reacts.refuses_notOwner, fun manual empty => reacts.refuses (manualStages_invalid manual (by simp [empty])),
    fun manual some_jet => ?_⟩
  obtain ⟨d, is, water, noted, flush, drives, orders, follows⟩ := setJets_writes s.chip set demand
  have ruled : ruleJetSet set demand true s.chip = d.taken := by
    rw [← is]
    exact manualStages_act manual (by rw [decide_eq_true some_jet]; rfl)
  refine reacts.takes ruled (noticed_pumpFault noted) ⟨reply_water water, flushStands_none flush, fun p => driveOf_iff.mp (drives p),
    fun j => ⟨fun named => ?_, fun out => ?_⟩⟩
  · have order := orders j
    rw [if_pos named, orderOf_iff] at order
    obtain ⟨owner, written, burst⟩ := order
    have clamp : min 1000 demand = if 1000 < demand then 1000 else demand := by split <;> omega
    have pump : d.pumpOf j = s.chip.pumpOf j := water.pumpOf j
    refine ⟨owner, written.trans clamp, burst, ?_⟩
    have state := follows_state (follows j named)
    rw [written, pump] at state
    refine state.trans ?_
    have zero : min 1000 demand = 0 ↔ demand = 0 := by omega
    simp only [zero]
    rfl
  · have order := orders j
    rw [if_neg (by rw [out]; exact Bool.false_ne_true)] at order
    exact orderOf_eq_iff.mp order

end Sys2Proof.Proofs.ManualJets


/-! PROOF. A flush as it begins (R123, R127), and what the tests after a command leave of the water and the circulation record;
ZONE_MASK and FLUSH_ALL (O35). -/

namespace Sys2Proof.Proofs.Flushing

open Sys2Proof Sys2Proof.Machine Sys2Proof.Proofs.StepEffects Sys2Proof.Proofs.Water Sys2Proof.Proofs.Orders
open Sys2Proof.Proofs.Tripped Sys2Proof.Proofs.Settling Sys2Proof.Proofs.Requests Sys2Proof.Proofs.Trips Sys2Proof.Proofs.ManualJets

variable {J : JetId → Prop} {b : Bool} {i : Instr} {s : State} {l : LinkId} {c d e before : Chip} {j : JetId} {z : ZoneId}

/-! ## The tests that leave the water (R45, R164) -/

theorem waterSame_trans (h : c.waterSame d) (k : d.waterSame e) : c.waterSame e := by
  obtain ⟨pumps, queue, joining, history, jets, circ⟩ := h
  obtain ⟨pumps', queue', joining', history', jets', circ'⟩ := k
  exact ⟨pumps'.trans pumps, queue'.trans queue, joining'.trans joining, history'.trans history, jets'.trans jets, circ'.trans circ⟩

theorem audio_waterSame (h : c.AudioOnly d) : c.waterSame d := ⟨h.pumps, h.queue, h.joining, h.history, h.jets, h.circ⟩

theorem lamps_waterSame (h : c.LampsOnly d) : c.waterSame d := ⟨h.pumps, h.queue, h.joining, h.history, h.jets, h.circ⟩

theorem releasePage_waterSame (c : Chip) : c.waterSame c.releasePage := by
  obtain ⟨ps, frame, -⟩ := releasePage_is c
  rw [frame]
  exact ⟨rfl, rfl, rfl, rfl, rfl, rfl⟩

theorem closeShow_waterSame (c : Chip) : c.waterSame c.closeShow := by
  have released := releasePage_waterSame c
  unfold Chip.closeShow
  generalize c.releasePage = d at released
  exact released

theorem toMode_waterSame (c : Chip) (m : FountainMode) : c.waterSame (c.toMode m) := by
  unfold Chip.toMode
  split <;> exact ⟨rfl, rfl, rfl, rfl, rfl, rfl⟩

theorem endRestore_waterSame (c : Chip) : c.waterSame c.endRestore := by
  unfold Chip.endRestore
  extract_lets _ _ d
  have running : c.waterSame (d.notify .showState) := ⟨rfl, rfl, rfl, rfl, rfl, rfl⟩
  exact waterSame_trans (waterSame_trans running (audio_waterSame (Chip.startClock_audio _))) (audio_waterSame (Chip.resumeAudio_audio _))

theorem completeEnding_waterSame (c : Chip) : c.waterSame c.completeEnding :=
  waterSame_trans (waterSame_trans (waterSame_trans (closeShow_waterSame c) (audio_waterSame (Chip.stopClock_audio _)))
    (lamps_waterSame (Chip.darkenShow_lamps _))) (toMode_waterSame _ _)

theorem testRestore_waterSame (c : Chip) : c.waterSame c.testRestore := by
  unfold Chip.testRestore
  split
  · exact endRestore_waterSame c
  · exact ⟨rfl, rfl, rfl, rfl, rfl, rfl⟩

theorem testEnding_waterSame (c : Chip) : c.waterSame c.testEnding := by
  unfold Chip.testEnding
  split
  · exact completeEnding_waterSame c
  · exact ⟨rfl, rfl, rfl, rfl, rfl, rfl⟩

/-! ## The power -/

theorem recaused_order (c : Chip) (m : ModeRecord) (j : JetId) : orderOf (Chip.recauseJets { c with mode := m }) j = orderOf c j := by
  have jet : (Chip.recauseJets { c with mode := m }).jets[j] = FountainMoves.recaused { c with mode := m } j := Vector.getElem_ofFn _
  rw [Orders.orderOf, jet, FountainMoves.recaused]
  split <;> rfl

theorem raisePower_order (c : Chip) (j : JetId) : orderOf c.raisePower j = orderOf c j := by
  unfold Chip.raisePower
  split
  · exact recaused_order c _ j
  · rfl

/-- A change of the power leaves everything of the water but the jets' wait causes. -/
theorem recaused_is (c : Chip) (m : ModeRecord) : ∃ js, Chip.recauseJets { c with mode := m } = { c with mode := m, jets := js } := ⟨_, rfl⟩

theorem raisePower_is (c : Chip) : ∃ js, c.raisePower = { c with
    mode := if c.mode.power = .off then
      { c.mode with power := .settling, settle := some ⟨c.now, c.limits.site.settle⟩ } else c.mode
    jets := js } := by
  unfold Chip.raisePower
  split
  · exact recaused_is c _
  · exact ⟨c.jets, rfl⟩

theorem testPower_is (c : Chip) : ∃ m js, c.testPower = { c with mode := m, jets := js } := by
  unfold Chip.testPower
  split
  · exact ⟨_, recaused_is c _⟩
  · exact ⟨c.mode, c.jets, rfl⟩

/-! ## A flush begins (R123, R127) -/

theorem mem_zoneJets : j ∈ c.zoneJets z ↔ (c.limits.jets[j]).zone = z := by simp [Chip.zoneJets]

/-- The flush record as a flush begins. -/
def flushRecord (c : Chip) (mode : FlushMode) (z : ZoneId) : Flush :=
  ⟨mode, z, c.now, c.limits.site.flushHeight, c.limits.site.flushDuration, 0, 0, Vector.replicate 12 false⟩

theorem flushWritten_moves (c : Chip) (mode : FlushMode) (z : ZoneId) :
    WaterMoves (fun j => (c.limits.jets[j]).zone = z) noPump b { c with circ := { c.circ with flush := some (flushRecord c mode z) } }
      (flushWritten c mode z) :=
  endEvent_moves (demandWrites_moves _ _ _ fun _ mem => mem_zoneJets.mp mem)

/-- The circulation record as a flush begins, its started pumps but for. -/
theorem flushWritten_circ (c : Chip) (mode : FlushMode) (z : ZoneId) : ∃ f : Flush,
    (flushWritten c mode z).circ = { c.circ with flush := some f } ∧ f = { flushRecord c mode z with started := f.started } := by
  obtain ⟨f, circ, keeps⟩ := waterMoves_flush (flushWritten_moves (b := false) c mode z)
  obtain ⟨same, dry⟩ := keeps (flushRecord c mode z)
  refine ⟨f (flushRecord c mode z), circ, ?_⟩
  rw [same, show (f (flushRecord c mode z)).dryTime = 0 from Nat.le_zero.mp dry]
  rfl

theorem flushWritten_order (c : Chip) (mode : FlushMode) (z : ZoneId) (j : JetId) : orderOf (flushWritten c mode z) j =
    if (c.limits.jets[j]).zone = z then (.flush, c.limits.site.flushHeight, none) else orderOf c j := by
  have ends : WaterMoves noJet noPump false _ (flushWritten c mode z) := endEvent_moves (.refl _)
  rw [waterMoves_order ends not_false, demandWrites_order]
  simp only [mem_zoneJets]
  rfl

theorem flushTold_is (c : Chip) : ∃ m js, flushTold c = { c with mode := m, jets := js } ∧
    m = { c.mode with flushRunning := true, power := m.power, settle := m.settle } ∧
    (c.mode.mode = .dormant → c.mode.power = .off → m.power = .settling) ∧ ∀ j, orderOf (flushTold c) j = orderOf c j := by
  unfold flushTold
  extract_lets _ told
  split
  next dormant =>
    obtain ⟨js, raised⟩ := raisePower_is told
    have order := raisePower_order told
    rw [raised] at order ⊢
    refine ⟨_, js, rfl, ?_, fun _ off => ?_, order⟩
    · split <;> rfl
    · rw [if_pos off]
  next other => exact ⟨_, c.jets, rfl, rfl, fun dormant => absurd dormant other, fun _ => rfl⟩

/-- A flush has begun: its record, the mode's knowledge of it, and the orders of the zone's jets. -/
structure Begun (c : Chip) (mode : FlushMode) (z : ZoneId) (d : Chip) : Prop where
  circ : ∃ f : Flush, d.circ = { c.circ with flush := some f } ∧ f = { flushRecord c mode z with started := f.started }
  mode : d.mode = { c.mode with flushRunning := true, power := d.mode.power, settle := d.mode.settle }
  raised : c.mode.mode = .dormant → c.mode.power = .off → d.mode.power = .settling
  order : ∀ j, orderOf d j = if (c.limits.jets[j]).zone = z then (.flush, c.limits.site.flushHeight, none) else orderOf c j

theorem beginFlush_begun (c : Chip) (mode : FlushMode) (z : ZoneId) : Begun c mode z (c.beginFlush mode z) := by
  rw [beginFlush_eq]
  have written := waterMoves_water (flushWritten_moves (b := false) c mode z)
  have circ := flushWritten_circ c mode z
  have order := flushWritten_order c mode z
  generalize flushWritten c mode z = d at written circ order
  have same : d.mode = c.mode := written.mode
  obtain ⟨m, js, told, mode, raised, orders⟩ := flushTold_is d
  have is_mode : (flushTold d).mode = m := by rw [told]
  have is_circ : (flushTold d).circ = d.circ := by rw [told]
  refine ⟨?_, ?_, fun dormant off => ?_, fun j => (orders j).trans (order j)⟩
  · rw [is_circ]
    exact circ
  · rw [is_mode, ← same]
    exact mode
  · rw [is_mode]
    exact raised (by rw [same]; exact dormant) (by rw [same]; exact off)

/-- While a flush runs, the tests after a command in IDLE and CUED stop the dormancy timer alone. -/
theorem settle_flushing (cue : c.run.cue = .idle ∨ c.run.cue = .cued) (runs : c.circ.flush ≠ none) (told : c.mode.flushRunning = true) :
    Chip.settle before c = { c with mode := { c.mode with dormancy := none } } := by
  have not_restoring : c.run.cue ≠ .restoring := by rcases cue with h | h <;> rw [h] <;> nofun
  have not_ending : c.run.cue ≠ .ending := by rcases cue with h | h <;> rw [h] <;> nofun
  have no_more : c.flushDue = false := by
    rw [Bool.eq_false_iff, ne_eq, flushDue_iff]
    rintro ⟨-, none_runs, -⟩
    exact runs none_runs
  have power : c.testPower = c := if_neg fun ⟨_, _, still, _⟩ => by rw [told] at still; cases still
  rw [settle_eq, testRestore_stands (.inl not_restoring), testEnding_stands (.inl not_ending), testFlush_stands no_more, power,
    testDormancy_eq, dormancyAfter_attended (.inr (.inr told))]

/-! ## The mask (R122) -/

theorem testFlush_mask (c : Chip) : c.testFlush.circ.mask = c.circ.mask := by
  unfold Chip.testFlush
  extract_lets z
  split
  · obtain ⟨f, circ, -⟩ := (beginFlush_begun { c with circ := { c.circ with pointer := z } } .single z).circ
    rw [circ]
  · rfl

theorem settle_mask (before c : Chip) : (Chip.settle before c).circ.mask = c.circ.mask := by
  obtain ⟨-, -, -, -, -, restored⟩ := testRestore_waterSame c
  obtain ⟨-, -, -, -, -, ended⟩ := testEnding_waterSame c.testRestore
  obtain ⟨m, js, power⟩ := testPower_is c.testRestore.testEnding.testFlush
  rw [settle_eq, testDormancy_eq, power]
  dsimp only
  rw [testFlush_mask, ended, restored]

theorem zoneMask_takes (heard : s.chip.hears l 28) (mask : ZoneMask) :
    (∃ d : Chip, exec (.zoneMask l mask) s = .next { s with chip := d } ∧ d.circ.mask = mask ∧
      ⟨28, .ok, .none⟩ ∈ (d.links[l]).replies) ∧
    (s.chip.mode.mode = .standby → s.chip.run.cue = .idle → s.chip.circ.debt = 0 →
      Takes (.zoneMask l mask) s l 28 [] [] fun d =>
        d = { s.chip with circ := { s.chip.circ with mask := mask }, mode := d.mode, links := d.links } ∧
        d.mode = { s.chip.mode with dormancy := d.mode.dormancy }) := by
  have reacts : Reacts (.zoneMask l mask) s l 28 (ruleZoneMask mask true) := reacts_of_hears rfl rfl heard
  refine ⟨⟨_, reacts.answers (code := .ok) (data := .none) rfl, settle_mask s.chip _, ?_⟩, fun standby idle no_debt => ?_⟩
  · rw [Links.reply_link]
    exact List.mem_append_right _ (List.mem_singleton.mpr rfl)
  · have settled := settle_stands (before := s.chip) (c := { s.chip with circ := { s.chip.circ with mask := mask } })
      (.inl (by rw [show (_ : CueState) = .idle from idle]; nofun)) (.inl (by rw [show (_ : CueState) = .idle from idle]; nofun))
      (not_flushDue_of_debt no_debt) (by rw [show (_ : FountainMode) = .standby from standby]; nofun)
    exact reacts.takes (congrArg Chip.taken settled) (noticed_of_links rfl) ⟨rfl, rfl⟩

/-- A reply behind a calm change. -/
theorem reply_calm {kind : Nat} {code : ReplyCode} {data : ReplyData} (h : Calm c d) : d.reply l kind code data = { c with
    pumps := (d.reply l kind code data).pumps, queue := (d.reply l kind code data).queue
    joining := (d.reply l kind code data).joining, history := (d.reply l kind code data).history
    jets := (d.reply l kind code data).jets, circ := (d.reply l kind code data).circ
    mode := (d.reply l kind code data).mode, links := (d.reply l kind code data).links } := by
  have frame := h.frame
  show { d with links := (d.reply l kind code data).links } = { c with
    pumps := d.pumps, queue := d.queue, joining := d.joining, history := d.history, jets := d.jets, circ := d.circ, mode := d.mode
    links := (d.reply l kind code data).links }
  generalize (d.reply l kind code data).links = links
  rw [frame]

/-! ## FLUSH_ALL (R127) -/

theorem find_lowest (flushable : c.flushable z = true) (lower : ∀ y : ZoneId, y < z → c.flushable y = false) :
    (List.finRange 8).find? c.flushable = some z := by
  rw [List.find?_eq_some_iff_append]
  obtain ⟨ahead, behind, split⟩ := List.append_of_mem (List.mem_finRange z)
  refine ⟨flushable, ahead, behind, split, fun y mem => ?_⟩
  have sorted : (ahead ++ z :: behind).Pairwise (· < ·) := split ▸ List.pairwise_lt_finRange 8
  rw [lower y ((List.pairwise_append.mp sorted).2.2 y mem z List.mem_cons_self)]
  rfl

theorem find_none (none_flushable : ∀ z : ZoneId, c.flushable z = false) : (List.finRange 8).find? c.flushable = none :=
  List.find?_eq_none.mpr fun z _ => by rw [none_flushable z]; exact Bool.false_ne_true

theorem ruleFlushAll_free (mode : c.mode.mode = .dormant ∨ c.mode.mode = .standby) (cue : c.run.cue = .idle ∨ c.run.cue = .cued)
    (none_runs : c.circ.flush = none) : ruleFlushAll c =
      ((List.finRange 8).find? c.flushable).elim (c.refuse .state) fun z => (c.settle (c.beginFlush .all z)).taken := by
  rw [ruleFlushAll, if_neg fun ⟨dormant, standby⟩ => mode.elim dormant standby, if_neg fun ⟨idle, cued⟩ => cue.elim idle cued,
    if_neg (by rw [none_runs]; exact Bool.false_ne_true)]
  cases (List.finRange 8).find? c.flushable <;> rfl

theorem flushAll_refuses (heard : s.chip.hears l 29) :
    (s.chip.mode.mode ≠ .dormant ∧ s.chip.mode.mode ≠ .standby → Refuses (.flushAll l) s l 29 .state) ∧
    (s.chip.run.cue ≠ .idle ∧ s.chip.run.cue ≠ .cued → Refuses (.flushAll l) s l 29 .state) ∧
    (s.chip.circ.flush ≠ none → Refuses (.flushAll l) s l 29 .state) ∧
    ((∀ z : ZoneId, s.chip.flushable z = false) → Refuses (.flushAll l) s l 29 .state) := by
  have reacts : Reacts (.flushAll l) s l 29 ruleFlushAll := reacts_of_hears rfl rfl heard
  refine ⟨fun mode => reacts.refuses (if_pos mode), fun cue => reacts.refuses ?_, fun runs => reacts.refuses ?_,
    fun none_flushable => reacts.refuses ?_⟩
  · rw [ruleFlushAll, if_pos cue, ite_self]
  · rw [ruleFlushAll, if_pos (Option.isSome_iff_ne_none.mpr runs), ite_self, ite_self]
  · rw [ruleFlushAll, find_none none_flushable]
    simp only [ite_self]

/-- Settles O35. -/
theorem zoneMaskAndFlushAll : Obligations.ZoneMaskAndFlushAll := by
  intro s l
  refine ⟨zoneMask_takes, fun heard => ?_⟩
  obtain ⟨mode, cue, runs, none_flushable⟩ := flushAll_refuses heard
  refine ⟨mode, cue, runs, none_flushable, fun modes cues none_runs z flushable lower => ?_⟩
  have reacts : Reacts (.flushAll l) s l 29 ruleFlushAll := reacts_of_hears rfl rfl heard
  have calm := beginFlush_calm s.chip .all z
  obtain ⟨⟨f, circ, record⟩, told, raised, orders⟩ := beginFlush_begun s.chip .all z
  have ruled : ruleFlushAll s.chip = (s.chip.settle (s.chip.beginFlush .all z)).taken := by
    rw [ruleFlushAll_free modes cues none_runs, find_lowest flushable lower]
    rfl
  generalize s.chip.beginFlush .all z = d at calm circ told raised orders ruled
  rw [settle_flushing (by rw [calm.run]; exact cues) (by rw [circ]; nofun) (by rw [told])] at ruled
  have stopped : Calm s.chip { d with mode := { d.mode with dormancy := none } } := calm.trans (.setMode d _ rfl)
  refine reacts.takes ruled (noticed_pumpFault stopped.noted) ⟨reply_calm stopped, ?_, ?_, ?_, ⟨f, ?_, ?_⟩, ?_, calm.modeIs, rfl,
    raised, fun j => ⟨fun zone => ?_, fun other => ?_⟩⟩
  · show d.circ.debt = _
    rw [circ]
  · show d.circ.pointer = _
    rw [circ]
  · show d.circ.mask = _
    rw [circ]
  · show d.circ.flush = _
    rw [circ]
  · rw [record]
    rfl
  · show d.mode.flushRunning = true
    rw [told]
  · have order := orders j
    rw [if_pos zone] at order
    exact orderOf_iff.mp order
  · have order := orders j
    rw [if_neg other] at order
    obtain ⟨owner, demand, -⟩ := orderOf_eq_iff.mp order
    exact ⟨owner, demand⟩

end Sys2Proof.Proofs.Flushing


/-! PROOF. What HYD's operations leave of a pump that does not run: its state and its fault cause, and that it does not join the
queue out of service (R83, R92, R94). LIMIT_WRITE (O36). -/

namespace Sys2Proof.Proofs.OnePump

open Sys2Proof Sys2Proof.Machine Sys2Proof.Proofs.StepEffects Sys2Proof.Proofs.Water Sys2Proof.Proofs.Orders
open Sys2Proof.Proofs.Settling Sys2Proof.Proofs.Flushing

variable {c d e before : Chip} {p q : PumpId}

/-- From `c` to `d` the pump's state and fault cause have stood, and it has not joined the queue. -/
structure Standing (p : PumpId) (c d : Chip) : Prop where
  state : stateOf d p = stateOf c p
  fault : (d.pumps[p]).faultCause = (c.pumps[p]).faultCause
  entries : (stateOf c p ≠ .stopped ∧ stateOf c p ≠ .resting) → ∀ x : StartEntry, x.pump = p → Waiting d x → Waiting c x

namespace Standing

theorem refl (p : PumpId) (c : Chip) : Standing p c c := ⟨rfl, rfl, fun _ _ _ => id⟩

theorem trans (h : Standing p c d) (k : Standing p d e) : Standing p c e :=
  ⟨k.state.trans h.state, k.fault.trans h.fault, fun out x of wait =>
    h.entries out x of (k.entries (by rw [h.state]; exact out) x of wait)⟩

theorem of_aside (h : Aside p c d) : Standing p c d :=
  ⟨h.state, by rw [h.record], fun _ x of => (h.entries x of).mp⟩

theorem of_same (pumps : d.pumps = c.pumps) (queue : d.queue = c.queue) (joining : d.joining = c.joining) : Standing p c d :=
  .of_aside (.of_same (by rw [pumps]) queue joining)

theorem ite {b : Prop} [Decidable b] (h : Standing p c d) (k : Standing p c e) : Standing p c (if b then d else e) := by
  split <;> assumption

end Standing

/-! ## The operations on a pump that does not run -/

theorem updPump_standing {f : Pump → Pump} (state : (f c.pumps[q]).state = (c.pumps[q]).state)
    (fault : (f c.pumps[q]).faultCause = (c.pumps[q]).faultCause) : Standing p c (c.updPump q f) := by
  by_cases same : p = q
  · subst same
    exact ⟨by rw [stateOf, updPump_own, state]; rfl, by rw [updPump_own, fault], fun _ _ _ => id⟩
  · exact .of_aside (updPump_aside c same f)

theorem dequeue_standing : Standing p c (c.dequeue q) :=
  ⟨rfl, rfl, fun _ x _ wait => by
    have either : (x ∈ c.queue ∧ ¬x.pump = q) ∨ x ∈ c.joining ∧ ¬x.pump = q := by simpa [Waiting, Chip.dequeue] using wait
    exact List.mem_append.mpr (either.imp And.left And.left)⟩

theorem startRequest_pumps (c : Chip) (p : PumpId) (r : Requester) : (c.startRequest p r).pumps = c.pumps := by
  have joins : (if c.queued p then c else { c with joining := insertEntry ⟨p, r, c.now⟩ c.joining }).pumps = c.pumps := by
    split <;> rfl
  unfold Chip.startRequest
  split
  · rfl
  · split
    exacts [joins, joins, rfl, rfl, rfl, rfl]

theorem startRequest_out (h : stateOf c p ≠ .stopped ∧ stateOf c p ≠ .resting) (r : Requester) : c.startRequest p r = c := by
  obtain ⟨stopped, resting⟩ := h
  unfold stateOf at stopped resting
  unfold Chip.startRequest
  split
  · rfl
  · split
    next h => exact absurd h stopped
    next h => exact absurd h resting
    all_goals rfl

theorem startRequest_standing (r : Requester) : Standing p c (c.startRequest q r) := by
  by_cases same : p = q
  · subst same
    have pumps := startRequest_pumps c p r
    exact ⟨by rw [stateOf, pumps]; rfl, by rw [pumps], fun out x _ wait => by rwa [startRequest_out out] at wait⟩
  · exact .of_aside (startRequest_aside c same r)

theorem demandAppears_standing (r : Requester) : Standing p c (c.demandAppears q r) := by
  unfold Chip.demandAppears
  split
  exacts [startRequest_standing r, startRequest_standing r, updPump_standing rfl rfl, updPump_standing rfl rfl, .refl p c, .refl p c]

theorem stopRequest_standing (h : stateOf c p ≠ .running) : Standing p c (c.stopRequest q) := by
  by_cases same : p = q
  · subst same
    have cleared : Standing p c (c.updPump p fun r => { r with idleExpiry := none }) := updPump_standing rfl rfl
    unfold Chip.stopRequest
    dsimp only
    split
    · exact cleared.trans dequeue_standing
    · exact cleared.trans dequeue_standing
    · exact cleared.trans (updPump_standing rfl rfl)
    next running => exact absurd running h
    · exact cleared
    · exact cleared
  · exact .of_aside (stopRequest_aside c same)

theorem idleOut_standing (h : stateOf c p ≠ .running) : Standing p c (c.idleOut q) :=
  .ite (.ite (.refl p c) (.ite (stopRequest_standing h) (updPump_standing rfl rfl))) (stopRequest_standing h)

theorem demandLost_standing (h : stateOf c p ≠ .running) (was : Owner) : Standing p c (c.demandLost q was) :=
  .ite (.ite (.refl p c) (.ite (idleOut_standing h) (stopRequest_standing h))) (idleOut_standing h)

theorem demandWritten_standing (owner : Owner) (demand : Nat) (burstEnd : Option Nat) (j : JetId) :
    Standing p c (demandWritten c owner demand burstEnd j) :=
  .of_same (demandWritten_pumps c owner demand burstEnd j) (by simp [demandWritten]) (by simp [demandWritten])

theorem demandWrite_standing (h : stateOf c p ≠ .running) (owner : Owner) (demand : Nat) (burstEnd : Option Nat) (j : JetId) :
    Standing p c (c.demandWrite owner demand burstEnd j) := by
  have written := demandWritten_standing (p := p) (c := c) owner demand burstEnd j
  have still : stateOf (demandWritten c owner demand burstEnd j) p ≠ .running := by rw [written.state]; exact h
  rw [demandWrite_eq]
  exact .ite (.ite written (written.trans (demandAppears_standing _))) (.ite (written.trans (demandLost_standing still _)) written)

theorem demandWrites_standing (h : stateOf c p ≠ .running) (js : List JetId) (owner : Owner) (demand : Nat) :
    Standing p c (c.demandWrites js owner demand) :=
  Chip.forEach_keeps (P := Standing p c) js (fun j _ d k =>
    k.trans (demandWrite_standing (by rw [k.state]; exact h) owner demand none j)) (.refl p c)

/-! ## The tests after a command -/

theorem flushWritten_standing (h : stateOf c p ≠ .running) (other : stateOf c p ≠ .stopped) (mode : FlushMode) (z : ZoneId) :
    Standing p c (flushWritten c mode z) := by
  have begun : Standing p c { c with circ := { c.circ with flush := some (flushRecord c mode z) } } := .of_same rfl rfl rfl
  have written := begun.trans (demandWrites_standing (by rw [begun.state]; exact h) (c.zoneJets z) .flush c.limits.site.flushHeight)
  exact written.trans (.of_aside (endEvent_aside (by rw [written.state]; exact other)))

theorem flushTold_standing : Standing p c (flushTold c) := by
  obtain ⟨m, js, told, -⟩ := flushTold_is c
  rw [told]
  exact .of_same rfl rfl rfl

/-- The pumps, the start queue, the lines, the table and the time are the same in both. -/
structure StartsSame (c d : Chip) : Prop where
  pumps : d.pumps = c.pumps
  queue : d.queue = c.queue
  joining : d.joining = c.joining
  lines : d.lines = c.lines
  limits : d.limits = c.limits
  now : d.now = c.now

theorem startsSame_of (water : c.waterSame d) (only : c.FountainOnly d) : StartsSame c d := by
  obtain ⟨pumps, queue, joining, -⟩ := water
  exact ⟨pumps, queue, joining, only.lines, only.limits, only.now⟩

/-- What the beginning of a flush keeps, the tests after a command keep, if it is about the pumps, the start queue, the lines and
the table. -/
theorem settle_keeps {P : Chip → Prop} (same : ∀ c d, StartsSame c d → P c → P d)
    (flush : ∀ (c : Chip) mode z, P c → P (flushWritten c mode z)) (h : P c) : P (Chip.settle before c) := by
  have restored := same _ _ (startsSame_of (testRestore_waterSame c) (Chip.testRestore_fountain c)) h
  have ended := same _ _ (startsSame_of (testEnding_waterSame c.testRestore) (Chip.testEnding_fountain c.testRestore)) restored
  rw [settle_eq, testDormancy_eq]
  generalize c.testRestore.testEnding = d at ended
  have flushed : P d.testFlush := by
    unfold Chip.testFlush
    extract_lets z
    split
    · rw [beginFlush_eq]
      have pointed := same d { d with circ := { d.circ with pointer := z } } ⟨rfl, rfl, rfl, rfl, rfl, rfl⟩ ended
      have written := flush _ .single z pointed
      generalize flushWritten _ _ _ = e at written
      obtain ⟨m, js, told, -⟩ := flushTold_is e
      rw [told]
      exact same e _ ⟨rfl, rfl, rfl, rfl, rfl, rfl⟩ written
    · exact ended
  generalize d.testFlush = e at flushed
  obtain ⟨m, js, power⟩ := testPower_is e
  rw [power]
  exact same e _ ⟨rfl, rfl, rfl, rfl, rfl, rfl⟩ flushed

theorem settle_standing (running : stateOf c p ≠ .running) (stopped : stateOf c p ≠ .stopped) : Standing p c (Chip.settle before c) :=
  settle_keeps (P := Standing p c) (fun _ _ same k => k.trans (.of_same same.pumps same.queue same.joining))
    (fun d mode z k => k.trans (flushWritten_standing (by rw [k.state]; exact running) (by rw [k.state]; exact stopped) mode z))
    (.refl p c)

/-! ## A stopped pump with its drive healthy -/

/-- The pump is STOPPED or PRIMING, with its drive healthy. -/
def Startable (p : PumpId) (c : Chip) : Prop := c.lines.drvOk[p] = true ∧ (stateOf c p = .stopped ∨ stateOf c p = .priming)

theorem startable_of_standing (h : Startable p c) (k : Standing p c d) (lines : d.lines = c.lines) : Startable p d := by
  rw [Startable, k.state, lines]
  exact h

theorem granted_water (c : Chip) (x : StartEntry) : c.WaterOnly (granted c x) := by
  have left : c.WaterOnly { c.dequeue x.pump with history := lastEight (c.history ++ [c.now]) } := .of_eq rfl
  exact (left.trans (Chip.enterState_water _ x.pump .priming none)).trans (Chip.updPump_water _ _ _)

theorem grant_startable (h : Startable p c) (x : StartEntry) : Startable p (c.grant x) := by
  have water := Chip.grant_water c x
  by_cases same : p = x.pump
  · subst same
    have primed : stateOf ((granted c x).countStarted x) x.pump = .priming := by
      rw [(countStarted_aside (granted c x) x.pump x).state, stateOf, granted_pump, if_pos rfl]
      rfl
    have counted : ((granted c x).countStarted x).lines = c.lines :=
      ((granted_water c x).trans (Chip.countStarted_water _ x)).lines
    rw [grant_eq, watchDrive_high (by rw [counted]; exact h.1)]
    exact ⟨by rw [counted]; exact h.1, .inr primed⟩
  · exact startable_of_standing h (.of_aside (grant_aside c x same)) water.lines

theorem grants_startable (fuel : Nat) (h : Startable p c) : Startable p (Chip.grants fuel c) := by
  induction fuel generalizing c with
  | zero => exact h
  | succ n ih =>
    unfold Chip.grants
    split
    · exact ih (grant_startable h _)
    · exact h

theorem endEvent_startable (h : Startable p c) : Startable p c.endEvent := by
  have joined : Startable p (collected c) := startable_of_standing h (.of_aside (collected_aside p c)) rfl
  exact grants_startable _ joined

theorem settle_startable (h : Startable p c) : Startable p (Chip.settle before c) := by
  refine settle_keeps (P := Startable p) (fun _ _ same k => startable_of_standing k (.of_same same.pumps same.queue same.joining) same.lines)
    (fun d mode z k => ?_) h
  have running : stateOf d p ≠ .running := by
    rcases k.2 with is | is <;> rw [is] <;> nofun
  have begun : Standing p d { d with circ := { d.circ with flush := some (flushRecord d mode z) } } := .of_same rfl rfl rfl
  have written := begun.trans (demandWrites_standing (by rw [begun.state]; exact running) (d.zoneJets z) .flush d.limits.site.flushHeight)
  exact endEvent_startable (startable_of_standing k written (Chip.demandWrites_water _ _ _ _).lines)

end Sys2Proof.Proofs.OnePump


/-! PROOF. LIMIT_WRITE: its tests, and the pumps that go out of service or come back (O36). -/

namespace Sys2Proof.Proofs.LimitWrite

open Sys2Proof Sys2Proof.Machine Sys2Proof.Proofs.StepEffects Sys2Proof.Proofs.Water Sys2Proof.Proofs.Orders
open Sys2Proof.Proofs.Settling Sys2Proof.Proofs.OnePump Sys2Proof.Proofs.Requests Sys2Proof.Proofs.RecordsKept Sys2Proof.Proofs.RequestEffects

variable {i : Instr} {s : State} {l : LinkId} {c d : Chip} {p : PumpId} {n : Nat} {bytes : List Byte}

/-! ## The tests (R177) -/

theorem tableGuard_locked (h : c.protection = .locked) : c.tableGuard = some .locked := by rw [Chip.tableGuard, h]

theorem tableGuard_busy (h : c.protection = .guarded) (mode : c.mode.mode = .showMode ∨ c.mode.mode = .manual) :
    c.tableGuard = some .state := by
  rw [Chip.tableGuard, h]
  rcases mode with m | m <;> rw [m]

theorem tableGuard_free (h : c.protection = .opened ∨
    (c.protection = .guarded ∧ c.mode.mode ≠ .showMode ∧ c.mode.mode ≠ .manual)) : c.tableGuard = none := by
  rcases h with opened | ⟨guarded, show', manual⟩
  · rw [Chip.tableGuard, opened]
  · rw [Chip.tableGuard, guarded]
    cases mode : c.mode.mode <;> simp_all

theorem ruleLimitWrite_guarded {code : ReplyCode} (h : c.tableGuard = some code) : ruleLimitWrite n bytes c = c.refuse code := by
  rw [ruleLimitWrite, h]

theorem ruleLimitWrite_undecoded (h : c.tableGuard = none) (bad : sectionOfBytes n bytes = none) :
    ruleLimitWrite n bytes c = c.refuse .badArg := by
  rw [ruleLimitWrite, h]
  dsimp only
  rw [bad]

theorem ruleLimitWrite_decoded {x : LimitSection} (h : c.tableGuard = none) (decoded : sectionOfBytes n bytes = some x) :
    ruleLimitWrite n bytes c = if c.limitConflict x then c.refuse .state else (c.settle (c.writeSection x)).taken := by
  rw [ruleLimitWrite, h]
  dsimp only
  rw [decoded]

theorem jetConflict_iff {es : Vector JetLimit 48} : c.limitConflict (.jets es) = true ↔ ∃ j : JetId, (c.jets[j]).state ≠ .closed ∧
    ((es[j]).pump ≠ (c.limits.jets[j]).pump ∨ (es[j]).zone ≠ (c.limits.jets[j]).zone) := by
  simp only [Chip.limitConflict, List.any_eq_true, List.mem_finRange, true_and, Bool.and_eq_true, Bool.or_eq_true, decide_eq_true_eq]

theorem pumpConflict_iff {es : Vector PumpLimit 12} : c.limitConflict (.pumps es) = true ↔ ∃ p : PumpId,
    (c.pumps[p]).state.up = true ∧ (c.limits.pumps[p]).inService = true ∧ (es[p]).inService = false := by
  simp only [Chip.limitConflict, List.any_eq_true, List.mem_finRange, true_and, Bool.and_eq_true, Bool.not_eq_true', and_assoc]

/-- A section that is taken: the table it leaves, and the reply. -/
theorem limitWrite_taken (heard : s.chip.hears l 31) {x : LimitSection} (guard : s.chip.tableGuard = none)
    (decoded : sectionOfBytes n bytes = some x) (free : s.chip.limitConflict x = false) :
    ∃ d : Chip, exec (.limitWrite l n bytes) s = .next { s with chip := d } ∧ d.limits = withSection s.chip.limits x ∧
      ⟨31, .ok, .none⟩ ∈ (d.links[l]).replies ∧ d.pumps = (s.chip.settle (s.chip.writeSection x)).pumps ∧
      d.queue = (s.chip.settle (s.chip.writeSection x)).queue ∧ d.sense = (s.chip.settle (s.chip.writeSection x)).sense := by
  have reacts : Reacts (.limitWrite l n bytes) s l 31 (ruleLimitWrite n bytes) := reacts_of_hears rfl rfl heard
  have ruled := ruleLimitWrite_decoded guard decoded
  rw [if_neg (by rw [free]; exact Bool.false_ne_true)] at ruled
  have limits : (s.chip.settle (s.chip.writeSection x)).limits = withSection s.chip.limits x :=
    (Chip.settle_fountain _ _).limits.trans (writeSection_table s.chip x).1
  generalize s.chip.settle (s.chip.writeSection x) = d at ruled limits
  refine ⟨_, reacts.answers ruled, ?_, ?_, rfl, rfl, rfl⟩
  · exact limits
  · rw [Links.reply_link]
    exact List.mem_append_right _ (List.mem_singleton.mpr rfl)

/-! ## The change of service (R99) -/

section Service

variable {was : Vector PumpLimit 12}

theorem changeService_out (gone : (was[p]).inService = true) (out : (c.limits.pumps[p]).inService = false) :
    Chip.changeService was p c = c.outOfService p := by
  rw [Chip.changeService, gone, out]

theorem changeService_back (was_out : (was[p]).inService = false) (back : (c.limits.pumps[p]).inService = true) :
    Chip.changeService was p c = c.enterStopped p := by
  rw [Chip.changeService, was_out, back]

theorem changeService_aside {q : PumpId} (other : p ≠ q) (d : Chip) : Aside p d (Chip.changeService was q d) := by
  unfold Chip.changeService
  split
  · exact (dequeue_aside d other).trans (enterState_aside _ other _ _)
  · exact enterStopped_aside d other
  · exact .refl p d
  · exact .refl p d

theorem outOfService_leaves (c : Chip) (p : PumpId) : stateOf (c.outOfService p) p = .outOfService ∧
    ((c.outOfService p).pumps[p]).faultCause = none ∧ ∀ x, Waiting (c.outOfService p) x → x.pump ≠ p := by
  have own : (c.outOfService p).pumps[p] = entered (c.dequeue p) p .outOfService none := enterState_own _ p _ _
  refine ⟨by rw [stateOf, own]; rfl, by rw [own]; rfl, fun x wait same => ?_⟩
  have still : Waiting (c.dequeue p) x := by
    simpa [Waiting, Chip.outOfService, Chip.enterState] using wait
  have either : (x ∈ c.queue ∧ ¬x.pump = p) ∨ x ∈ c.joining ∧ ¬x.pump = p := by simpa [Waiting, Chip.dequeue] using still
  exact either.elim (fun h => h.2 same) fun h => h.2 same

theorem enterStopped_low (low : c.lines.drvOk[p] = false) : stateOf (c.enterStopped p) p = .faulted := by
  have stopped : stateOf (c.enterState p .stopped none) p = .stopped := by rw [stateOf_enterState, if_pos rfl]
  have faulted : (c.enterState p .stopped none).watchDrive p = (c.enterState p .stopped none).enterFaulted p .drive :=
    watchDrive_low (by rw [Watched, stopped]; exact ⟨nofun, nofun⟩) (by rw [(Chip.enterState_water c p _ _).lines]; exact low)
  have state : stateOf ((c.enterState p .stopped none).watchDrive p) p = .faulted := by
    rw [faulted, stateOf, enterFaulted_own]
    rfl
  unfold Chip.enterStopped
  dsimp only
  rw [if_neg fun h => absurd (h.1.symm.trans state) nofun]
  exact state

theorem enterStopped_high (high : c.lines.drvOk[p] = true) : Startable p (c.enterStopped p) := by
  have stopped : stateOf (c.enterState p .stopped none) p = .stopped := by rw [stateOf_enterState, if_pos rfl]
  have lines : (c.enterState p .stopped none).lines = c.lines := (Chip.enterState_water c p _ _).lines
  have entered : Startable p (c.enterState p .stopped none) := ⟨by rw [lines]; exact high, .inl stopped⟩
  unfold Chip.enterStopped
  dsimp only
  rw [watchDrive_high (by rw [lines]; exact high)]
  split
  · exact startable_of_standing entered (startRequest_standing _) (Chip.startRequest_water _ p _).lines
  · exact entered

/-- A section of pumps written: at its turn each pump changes service, on a part that has left it as it was. -/
theorem servicesChanged (c : Chip) (es : Vector PumpLimit 12) (p : PumpId) : ∃ x y : Chip, x.limits.pumps = es ∧ x.lines = c.lines ∧
    Aside p (Chip.changeService c.limits.pumps p x) y ∧ (y.lines = c.lines ∧ c.writeSection (.pumps es) = y.endEvent) := by
  obtain ⟨x, before, -, -, after⟩ := forEach_turn (p := p) (R := fun c d => c.WaterOnly d) (f := Chip.changeService c.limits.pumps)
    (fun d => .refl d) (fun _ _ _ => .trans) (fun q d => changeService_water d _ q) (fun q d other => changeService_aside other d)
    (List.nodup_finRange 12) (List.mem_finRange p) { c with limits := { c.limits with pumps := es } }
  have all : Chip.WaterOnly { c with limits := { c.limits with pumps := es } }
      (Chip.forEach (List.finRange 12) (Chip.changeService c.limits.pumps) { c with limits := { c.limits with pumps := es } }) :=
    Chip.WaterOnly.forEach fun q d => changeService_water d _ q
  exact ⟨x, _, by rw [before.limits], before.lines, after, all.lines, rfl⟩

theorem pumpsWritten_out {es : Vector PumpLimit 12} (gone : (c.limits.pumps[p]).inService = true) (out : (es[p]).inService = false) :
    stateOf (c.writeSection (.pumps es)) p = .outOfService ∧ ((c.writeSection (.pumps es)).pumps[p]).faultCause = none ∧
      ∀ x, Waiting (c.writeSection (.pumps es)) x → x.pump ≠ p := by
  obtain ⟨x, y, table, -, turned, -, is⟩ := servicesChanged c es p
  rw [changeService_out gone (by rw [table]; exact out)] at turned
  obtain ⟨state, fault, free⟩ := outOfService_leaves x p
  have ended : Aside p y y.endEvent := endEvent_aside (by rw [turned.state, state]; nofun)
  have all := turned.trans ended
  rw [is]
  exact ⟨by rw [all.state]; exact state, by rw [all.record]; exact fault, fun e wait same => free e ((all.entries e same).mp wait) same⟩

theorem pumpsWritten_faulted {es : Vector PumpLimit 12} (was_out : (c.limits.pumps[p]).inService = false)
    (back : (es[p]).inService = true) (low : c.lines.drvOk[p] = false) : stateOf (c.writeSection (.pumps es)) p = .faulted := by
  obtain ⟨x, y, table, lines, turned, -, is⟩ := servicesChanged c es p
  rw [changeService_back was_out (by rw [table]; exact back)] at turned
  have state := enterStopped_low (c := x) (p := p) (by rw [lines]; exact low)
  have ended : Aside p y y.endEvent := endEvent_aside (by rw [turned.state, state]; nofun)
  rw [is, (turned.trans ended).state]
  exact state

theorem pumpsWritten_startable {es : Vector PumpLimit 12} (was_out : (c.limits.pumps[p]).inService = false)
    (back : (es[p]).inService = true) (high : c.lines.drvOk[p] = true) : Startable p (c.writeSection (.pumps es)) := by
  obtain ⟨x, y, table, lines, turned, y_lines, is⟩ := servicesChanged c es p
  rw [changeService_back was_out (by rw [table]; exact back)] at turned
  have startable := enterStopped_high (c := x) (p := p) (by rw [lines]; exact high)
  rw [is]
  exact endEvent_startable ⟨by rw [y_lines]; exact high, by rw [turned.state]; exact startable.2⟩

end Service

theorem pumpsWritten_settled (before : Chip) (es : Vector PumpLimit 12) (p : PumpId) (d : Chip)
    (pumps : d.pumps = (Chip.settle before (c.writeSection (.pumps es))).pumps)
    (queue : d.queue = (Chip.settle before (c.writeSection (.pumps es))).queue) :
    ((c.limits.pumps[p]).inService = true → (es[p]).inService = false →
      (d.pumps[p]).state = .outOfService ∧ (d.pumps[p]).faultCause = none ∧ ∀ e ∈ d.queue, e.pump ≠ p) ∧
    ((c.limits.pumps[p]).inService = false → (es[p]).inService = true →
      c.lines.drvOk[p] = false → (d.pumps[p]).state = .faulted) ∧
    ((c.limits.pumps[p]).inService = false → (es[p]).inService = true →
      c.lines.drvOk[p] = true → (d.pumps[p]).state = .stopped ∨ (d.pumps[p]).state = .priming) := by
  rw [pumps, queue]
  refine ⟨fun gone out => ?_, fun was_out back low => ?_, fun was_out back high => ?_⟩
  · obtain ⟨state, fault, free⟩ := pumpsWritten_out (c := c) gone out
    have stands := settle_standing (before := before) (c := c.writeSection (.pumps es)) (p := p) (by rw [state]; nofun) (by rw [state]; nofun)
    refine ⟨stands.state.trans state, stands.fault.trans fault, fun e mem same => ?_⟩
    exact free e (stands.entries (by rw [state]; exact ⟨nofun, nofun⟩) e same (List.mem_append_left _ mem)) same
  · have state := pumpsWritten_faulted was_out back low
    exact (settle_standing (before := before) (by rw [state]; nofun) (by rw [state]; nofun)).state.trans state
  · exact (settle_startable (pumpsWritten_startable was_out back high)).2

/-- Settles O36. -/
theorem limitWriteTests : Obligations.LimitWriteTests := by
  intro s l n bytes heard
  have reacts : Reacts (.limitWrite l n bytes) s l 31 (ruleLimitWrite n bytes) := reacts_of_hears rfl rfl heard
  refine ⟨fun locked => reacts.refuses (ruleLimitWrite_guarded (tableGuard_locked locked)),
    fun guarded mode => reacts.refuses (ruleLimitWrite_guarded (tableGuard_busy guarded mode)), fun open' => ?_⟩
  have guard := tableGuard_free open'
  refine ⟨fun bad => reacts.refuses (ruleLimitWrite_undecoded guard bad), fun es decoded => ⟨fun conflict => reacts.refuses ?_, fun free => ?_⟩,
    fun es decoded => ⟨fun conflict => reacts.refuses ?_, fun free => ?_⟩, fun e decoded => ?_, fun es decoded => ?_, fun es decoded => ?_⟩
  · rw [ruleLimitWrite_decoded guard decoded, if_pos (jetConflict_iff.mpr conflict)]
  · have no_conflict : s.chip.limitConflict (.jets es) = false := by
      rw [Bool.eq_false_iff, ne_eq, jetConflict_iff]
      rintro ⟨j, busy, pump | zone⟩
      · exact pump (free j busy).1
      · exact zone (free j busy).2
    obtain ⟨d, run, limits, replied, -⟩ := limitWrite_taken heard guard decoded no_conflict
    exact ⟨d, run, limits, replied⟩
  · rw [ruleLimitWrite_decoded guard decoded, if_pos (pumpConflict_iff.mpr conflict)]
  · have no_conflict : s.chip.limitConflict (.pumps es) = false := by
      rw [Bool.eq_false_iff, ne_eq, pumpConflict_iff]
      rintro ⟨p, up, serves, out⟩
      exact absurd ((free p up serves).symm.trans out) nofun
    obtain ⟨d, run, limits, replied, pumps, queue, -⟩ := limitWrite_taken heard guard decoded no_conflict
    exact ⟨d, run, limits, replied, fun p => pumpsWritten_settled s.chip es p d pumps queue⟩
  · obtain ⟨d, run, limits, replied, -⟩ := limitWrite_taken heard guard decoded rfl
    exact ⟨d, run, limits, replied⟩
  · obtain ⟨d, run, limits, replied, -, -, sense⟩ := limitWrite_taken heard guard decoded rfl
    refine ⟨d, run, limits, replied, fun w => ?_⟩
    have written : (s.chip.writeSection (.wind es)).sense = { s.chip.sense with factors := windFactors es s.chip.sense.vAvg } :=
      (Chip.endEvent_water _).sense
    rw [sense, (Chip.settle_fountain _ _).sense, written]
    exact Vector.getElem_ofFn _
  · obtain ⟨d, run, limits, replied, -⟩ := limitWrite_taken heard guard decoded rfl
    exact ⟨d, run, limits, replied⟩

end Sys2Proof.Proofs.LimitWrite


/-! PROOF. SLEEP and WAKE (O28). -/

namespace Sys2Proof.Proofs.SleepWake

open Sys2Proof Sys2Proof.Machine Sys2Proof.Proofs.StepEffects Sys2Proof.Proofs.Water Sys2Proof.Proofs.Orders
open Sys2Proof.Proofs.Settling Sys2Proof.Proofs.Requests Sys2Proof.Proofs.Trips Sys2Proof.Proofs.ManualJets Sys2Proof.Proofs.Flushing

variable {i : Instr} {s : State} {l : LinkId} {c d before : Chip} {w : WakeTo}

/-! ## Entry into DORMANT (R143, R160) -/

/-- Every pump gets STOP (R160, R165). -/
theorem intentStops_drive (c : Chip) (p : PumpId) :
    driveOf (c.forEach (List.finRange 12) fun p c => c.intentStop p) p = (.stop, (c.pumps[p]).policy) := by
  have step (p : PumpId) (c : Chip) (q : PumpId) : driveOf (c.intentStop p) q =
      if q = p then (fun (_ : PumpId) (x : Intent × Policy) => (Intent.stop, x.2)) p (driveOf c p) else driveOf c q :=
    intentStop_drive c p q
  rw [forEach_drive (fun _ x => (.stop, x.2)) (fun _ _ => rfl) step, if_pos (List.mem_finRange p)]
  rfl

theorem intentStops_moves (c : Chip) :
    WaterMoves noJet anyPump false c (c.forEach (List.finRange 12) fun p c => c.intentStop p) :=
  .forEach fun _ _ d => intentStop_moves (c := d) trivial

/-- The power after MOD's test on it (R156). -/
theorem testPower_power (c : Chip) : c.testPower.mode.power =
    if c.mode.mode = .dormant ∧ c.mode.flushRunning = false ∧ c.pumpsDown = true then .off else c.mode.power := by
  unfold Chip.testPower
  split
  next drops =>
    obtain ⟨dormant, -, still, down⟩ := drops
    rw [if_pos ⟨dormant, still, down⟩]
    rfl
  next stays =>
    split
    next still =>
      obtain ⟨dormant, quiet, down⟩ := still
      by_contra on
      exact stays ⟨dormant, on, quiet, down⟩
    · rfl

theorem testPower_flushRunning (c : Chip) : c.testPower.mode.flushRunning = c.mode.flushRunning := by
  unfold Chip.testPower
  split <;> rfl

theorem testPower_pumps (c : Chip) : c.testPower.pumps = c.pumps := by
  obtain ⟨m, js, power⟩ := testPower_is c
  rw [power]

theorem pumpsDown_iff : c.pumpsDown = true ↔ ∀ p : PumpId, (c.pumps[p]).state.up = false := by
  simp [Chip.pumpsDown]

/-- The part that enters DORMANT, its pumps told to stop. -/
def slept (c : Chip) : Chip :=
  Chip.forEach (List.finRange 12) (fun p c => c.intentStop p)
    (Chip.notify { c with mode := { c.mode with mode := .dormant, dormancy := none } } .mode)

theorem enterDormant_eq (other : c.mode.mode ≠ .dormant) : c.enterDormant = (slept c).testPower.zeroFrame := by
  rw [Chip.enterDormant, toMode_other other]
  rfl

theorem slept_leaves (c : Chip) : (slept c) = { c with
      mode := { c.mode with mode := .dormant, dormancy := none }
      pumps := (slept c).pumps, queue := (slept c).queue, joining := (slept c).joining, history := (slept c).history
      jets := (slept c).jets, circ := (slept c).circ, links := (slept c).links } ∧
    Noted [.mode, .pumpFault] c (slept c) ∧ (∀ m : LinkId, .mode ∈ ((slept c).links[m]).notices) ∧
    (∀ p, driveOf (slept c) p = (.stop, (c.pumps[p]).policy)) ∧ (slept c).circ.debt = c.circ.debt := by
  have moves := intentStops_moves (Chip.notify { c with mode := { c.mode with mode := .dormant, dormancy := none } } .mode)
  have told : Noted [.mode] c (Chip.notify { c with mode := { c.mode with mode := .dormant, dormancy := none } } .mode) :=
    .trans (.of_links rfl) (.notify (List.mem_singleton.mpr rfl) _)
  have heard := notify_heard { c with mode := { c.mode with mode := .dormant, dormancy := none } } .mode
  have water := waterMoves_water moves
  have noted := waterMoves_noted moves
  have flush := waterMoves_flush moves
  refine ⟨?_, (told.mono (by simp)).trans (noted.mono (by simp)), Noted.keeps noted heard, fun p => intentStops_drive _ p, ?_⟩
  · exact water.1
  · obtain ⟨f, circ, -⟩ := flush
    rw [slept, circ]
    rfl

/-- The fountain asleep, once the tests after the command have been made. -/
structure Asleep (c d : Chip) : Prop where
  frame : d = { c with
    lums := d.lums, outputs := darkOutputs, lampLine := some darkOutputs
    pumps := d.pumps, queue := d.queue, joining := d.joining, history := d.history, jets := d.jets
    circ := d.circ, mode := d.mode, links := d.links }
  noted : Noted [.mode, .pumpFault] c d
  heard : ∀ m : LinkId, .mode ∈ (d.links[m]).notices
  mode : d.mode.mode = .dormant
  dormancy : d.mode.dormancy = none
  lums : ∀ k : LumId, d.lums[k] = ⟨(c.lums[k]).gate, .showLayer, none⟩
  drives : ∀ p : PumpId, driveOf d p = (.stop, (c.pumps[p]).policy)
  power : c.circ.debt = 0 → d.mode.power =
    if c.mode.flushRunning = false ∧ ∀ p : PumpId, (d.pumps[p]).state.up = false then .off else c.mode.power

theorem zeroFrame_is (c : Chip) : c.zeroFrame = { c with
    lums := c.zeroFrame.lums, outputs := darkOutputs, lampLine := some darkOutputs } := rfl

theorem zeroFrame_lum (c : Chip) (k : LumId) : c.zeroFrame.lums[k] = ⟨(c.lums[k]).gate, .showLayer, none⟩ := by
  rw [zeroFrame_lums]
  exact Vector.getElem_ofFn _

/-- Where no flush is due, the tests after the entry into DORMANT are those on the power and the dormancy timer. -/
theorem settle_dormant (idle : c.run.cue = .idle) (no_debt : c.circ.debt = 0) :
    Chip.settle before c = Chip.testDormancy before c.testPower := by
  rw [settle_eq, testRestore_stands (.inl (by rw [idle]; nofun)), testEnding_stands (.inl (by rw [idle]; nofun)),
    testFlush_stands (not_flushDue_of_debt no_debt)]

/-- In IDLE and CUED the dormancy timer runs in STANDBY and IDLE alone. -/
theorem settle_dormancy (cue : c.run.cue = .idle ∨ c.run.cue = .cued) (attended : c.mode.mode ≠ .standby ∨ c.run.cue ≠ .idle) :
    (Chip.settle before c).mode.dormancy = none := by
  have not_restoring : c.run.cue ≠ .restoring := by rcases cue with h | h <;> rw [h] <;> nofun
  have not_ending : c.run.cue ≠ .ending := by rcases cue with h | h <;> rw [h] <;> nofun
  rw [settle_eq, testRestore_stands (.inl not_restoring), testEnding_stands (.inl not_ending), testDormancy_eq]
  have calm := (testFlush_calm c).trans (testPower_calm _)
  exact dormancyAfter_attended (by
    rw [calm.modeIs, calm.run]
    exact attended.imp id .inl)

theorem enterDormant_asleep (idle : c.run.cue = .idle) (other : c.mode.mode ≠ .dormant) :
    Asleep c (Chip.settle before c.enterDormant) := by
  rw [enterDormant_eq other]
  obtain ⟨frame, noted, heard, drives, debt⟩ := slept_leaves c
  generalize slept c = d at frame noted heard drives debt
  have tested := testPower_calm d
  have power := testPower_power d
  have flushing := testPower_flushRunning d
  have pumps := testPower_pumps d
  have circ : d.testPower.circ = d.circ := by
    obtain ⟨m, js, is⟩ := testPower_is d
    rw [is]
  generalize d.testPower = e at tested power flushing pumps circ
  have zeroed := zeroFrame_is e
  have lum := zeroFrame_lum e
  generalize e.zeroFrame = f at zeroed lum
  have run : f.run = c.run := by rw [zeroed]; exact tested.run.trans (by rw [frame])
  have calm : Calm f (Chip.settle before f) := settle_calm before (.inl (by rw [run]; exact idle))
  have mode : f.mode = e.mode := by rw [zeroed]
  have dormant : f.mode.mode = .dormant := by rw [mode, tested.modeIs, frame]
  have links : f.links = e.links := by rw [zeroed]
  have f_pumps : f.pumps = d.pumps := by rw [zeroed]; exact pumps
  have powered : c.circ.debt = 0 → (Chip.settle before f).mode.power =
      if c.mode.flushRunning = false ∧ ∀ p : PumpId, ((Chip.settle before f).pumps[p]).state.up = false then .off else c.mode.power := by
    intro no_debt
    have still : f.circ.debt = 0 := by rw [zeroed]; exact (congrArg Circulation.debt circ).trans (debt.trans no_debt)
    rw [settle_dormant (by rw [run]; exact idle) still, testDormancy_eq]
    dsimp only
    rw [testPower_power, testPower_pumps, mode, power, flushing, f_pumps]
    simp only [pumpsDown_iff, f_pumps, ← mode, dormant]
    have is_dormant : d.mode.mode = .dormant := by rw [frame]
    have flush : d.mode.flushRunning = c.mode.flushRunning := by rw [frame]
    have was : d.mode.power = c.mode.power := by rw [frame]
    simp only [is_dormant, flush, was, true_and]
    by_cases drops : c.mode.flushRunning = false ∧ ∀ p : PumpId, (d.pumps[p]).state.up = false
    · rw [if_pos drops, if_pos drops]
    · rw [if_neg drops, if_neg drops]
  have stopped : (Chip.settle before f).mode.dormancy = none :=
    settle_dormancy (.inl (by rw [run]; exact idle)) (.inl (by rw [dormant]; nofun))
  have all : Noted [.mode, .pumpFault] c (Chip.settle before f) :=
    noted.trans (((tested.noted.trans (.of_links links)).trans calm.noted).mono (by simp))
  have told : ∀ m : LinkId, .mode ∈ ((Chip.settle before f).links[m]).notices :=
    Noted.keeps ((tested.noted.trans (.of_links links)).trans calm.noted) heard
  generalize Chip.settle before f = g at calm powered stopped all told
  refine ⟨?_, all, told, by rw [calm.modeIs, dormant], stopped, fun k => ?_, fun p => ?_, powered⟩
  · refine calm.frame.trans ?_
    have lums : g.lums = f.lums := by rw [calm.frame]
    rw [lums]
    rw [zeroed]
    rw [tested.frame]
    rw [frame]
  · have lums : g.lums = f.lums := by rw [calm.frame]
    have was : e.lums = c.lums := by rw [tested.frame]; show d.lums = c.lums; rw [frame]
    rw [lums, lum k, was]
  · have middle : driveOf f p = driveOf e p := driveOf_of_pumps (by rw [zeroed]) p
    rw [calm.drives, middle, tested.drives, drives]

theorem noticed_mode (h : Noted [.mode, .pumpFault] c d) (heard : ∀ m : LinkId, .mode ∈ (d.links[m]).notices) :
    c.noticed d [.mode] [.pumpFault] :=
  noticed_of_noted h (List.forall_mem_singleton.mpr heard) (by simp)

/-- SLEEP from STANDBY, by whether a debt stands (R160). -/
theorem sleep_takes (heard : s.chip.hears l 34) :
    (s.chip.mode.mode ≠ .standby ∨ s.chip.run.cue ≠ .idle → Refuses (.sleep l) s l 34 .state) ∧
    (s.chip.mode.mode = .standby → s.chip.run.cue = .idle →
      Takes (.sleep l) s l 34 [.mode] [.pumpFault] fun d =>
        d = { s.chip with
          lums := d.lums, outputs := darkOutputs, lampLine := some darkOutputs
          pumps := d.pumps, queue := d.queue, joining := d.joining, history := d.history, jets := d.jets
          circ := d.circ, mode := d.mode, links := d.links } ∧
        d.mode.mode = .dormant ∧ d.mode.dormancy = none ∧
        (∀ k : LumId, d.lums[k] = ⟨(s.chip.lums[k]).gate, .showLayer, none⟩) ∧
        (∀ p : PumpId, (d.pumps[p]).intent = .stop ∧ (d.pumps[p]).policy = (s.chip.pumps[p]).policy) ∧
        (s.chip.circ.debt = 0 →
          d.mode.power =
            if s.chip.mode.flushRunning = false ∧ ∀ p : PumpId, (d.pumps[p]).state.up = false then .off
            else s.chip.mode.power)) := by
  have reacts : Reacts (.sleep l) s l 34 ruleSleep := reacts_of_hears rfl rfl heard
  refine ⟨fun other => reacts.refuses (if_neg fun ⟨standby, idle⟩ => other.elim (absurd standby) (absurd idle)), fun standby idle => ?_⟩
  obtain ⟨frame, noted, told, mode, dormancy, lums, drives, power⟩ :=
    enterDormant_asleep (before := s.chip) idle (by rw [standby]; nofun)
  have ruled : ruleSleep s.chip = (s.chip.settle s.chip.enterDormant).taken := if_pos ⟨standby, idle⟩
  generalize s.chip.settle s.chip.enterDormant = d at frame noted told mode dormancy lums drives power ruled
  refine reacts.takes ruled (noticed_mode noted told) ⟨?_, mode, dormancy, lums, fun p => driveOf_iff.mp (drives p), power⟩
  show { d with links := (d.reply l 34 .ok .none).links } = { s.chip with
    lums := d.lums, outputs := darkOutputs, lampLine := some darkOutputs
    pumps := d.pumps, queue := d.queue, joining := d.joining, history := d.history, jets := d.jets
    circ := d.circ, mode := d.mode, links := (d.reply l 34 .ok .none).links }
  generalize (d.reply l 34 .ok .none).links = links
  rw [frame]

/-! ## WAKE (R157, R159) -/

/-- Outside DORMANT a flush that begins leaves the power. -/
theorem testFlush_power (other : c.mode.mode ≠ .dormant) :
    c.testFlush.mode = { c.mode with flushRunning := c.testFlush.mode.flushRunning } := by
  unfold Chip.testFlush
  extract_lets z
  split
  · rw [beginFlush_eq]
    have written := (flushWritten_calm { c with circ := { c.circ with pointer := z } } .single z)
    have same : (flushWritten { c with circ := { c.circ with pointer := z } } .single z).mode = c.mode :=
      (waterMoves_water (flushWritten_moves (b := false) { c with circ := { c.circ with pointer := z } } .single z)).mode
    generalize flushWritten { c with circ := { c.circ with pointer := z } } .single z = e at same
    have told : flushTold e = { e with mode := { e.mode with flushRunning := true } } :=
      if_neg (by rw [show (_ : FountainMode) = c.mode.mode from congrArg ModeRecord.mode same]; exact other)
    rw [told, same]
  · rfl

/-- In IDLE and CUED, outside DORMANT, the tests after a command leave the power. -/
theorem settle_power (cue : c.run.cue = .idle ∨ c.run.cue = .cued) (other : c.mode.mode ≠ .dormant) :
    (Chip.settle before c).mode = { c.mode with
      flushRunning := (Chip.settle before c).mode.flushRunning, dormancy := (Chip.settle before c).mode.dormancy } := by
  have not_restoring : c.run.cue ≠ .restoring := by rcases cue with h | h <;> rw [h] <;> nofun
  have not_ending : c.run.cue ≠ .ending := by rcases cue with h | h <;> rw [h] <;> nofun
  have flush := testFlush_power other
  rw [settle_eq, testRestore_stands (.inl not_restoring), testEnding_stands (.inl not_ending),
    testPower_stands (by rw [flush]; exact other), testDormancy_eq]
  dsimp only
  rw [flush]

/-- A wake out of DORMANT. -/
theorem beginWake_on (on : c.mode.power = .on) : c.beginWake w = c.toMode w.mode := by rw [Chip.beginWake, on]

theorem beginWake_raises (on : c.mode.power ≠ .on) : c.beginWake w =
    Chip.toMode { c.raisePower with mode := { c.raisePower.mode with wake := some w } } .settling := by
  rw [Chip.beginWake]
  cases power : c.mode.power
  · rfl
  · rfl
  · exact absurd power on

theorem beginWake_is (dormant : c.mode.mode = .dormant) (on : c.mode.power ≠ .on) : ∃ js, c.beginWake w = Chip.notify { c with
    mode := { c.mode with
      mode := .settling, power := .settling, wake := some w
      settle := if c.mode.power = .off then some ⟨c.now, c.limits.site.settle⟩ else c.mode.settle }
    jets := js } .mode := by
  obtain ⟨js, raised⟩ := raisePower_is c
  refine ⟨js, ?_⟩
  rw [beginWake_raises on, raised, toMode_other]
  · congr 2
    split
    · rfl
    next not_off =>
      have settling : c.mode.power = .settling := by
        cases power : c.mode.power
        · exact absurd power not_off
        · rfl
        · exact absurd power on
      rw [← settling]
  · dsimp only
    split <;> rw [dormant] <;> nofun

theorem ruleWake_dormant (dormant : c.mode.mode = .dormant) : ruleWake c = (c.settle (c.beginWake .standby)).taken := by
  simp only [ruleWake, dormant]

theorem ruleWake_awake (h : c.mode.mode = .settling ∨ c.mode.mode = .standby ∨ c.mode.mode = .showMode ∨ c.mode.mode = .manual) :
    ruleWake c = c.taken := by
  rcases h with h | h | h | h <;> simp only [ruleWake, h]

/-- What a wake out of DORMANT in IDLE leaves, once the tests after the command have been made. -/
theorem wake_leaves (dormant : c.mode.mode = .dormant) (idle : c.run.cue = .idle) : ∃ d, c.settle (c.beginWake .standby) = d ∧
    d = { c with
      pumps := d.pumps, queue := d.queue, joining := d.joining, history := d.history, jets := d.jets
      circ := d.circ, mode := d.mode, links := d.links } ∧
    Noted [.mode, .pumpFault] c d ∧ (∀ m : LinkId, .mode ∈ (d.links[m]).notices) ∧
    (c.mode.power = .on → d.mode.mode = .standby ∧ d.mode.power = .on) ∧
    (c.mode.power ≠ .on → d.mode = { c.mode with
      mode := .settling, power := .settling, wake := some .standby, dormancy := none
      settle := if c.mode.power = .off then some ⟨c.now, c.limits.site.settle⟩ else c.mode.settle }) := by
  have woken (m : ModeRecord) (js : Vector Jet 48) : Noted [.mode] c (Chip.notify { c with mode := m, jets := js } .mode) :=
    .trans (.of_links rfl) (.notify (List.mem_singleton.mpr rfl) _)
  by_cases on : c.mode.power = .on
  · have begun : c.beginWake .standby = Chip.notify { c with mode := { c.mode with mode := .standby }, jets := c.jets } .mode := by
      rw [beginWake_on on]
      exact toMode_other (by rw [dormant]; nofun)
    have raised := woken { c.mode with mode := .standby } c.jets
    have told := notify_heard { c with mode := { c.mode with mode := .standby }, jets := c.jets } .mode
    rw [← begun] at raised told
    have run : (c.beginWake .standby).run = c.run := by rw [begun]; rfl
    have mode : (c.beginWake .standby).mode = { c.mode with mode := .standby } := by rw [begun]; rfl
    have calm := settle_calm c (c := c.beginWake .standby) (.inl (by rw [run]; exact idle))
    have power := settle_power (before := c) (c := c.beginWake .standby) (.inl (by rw [run]; exact idle)) (by rw [mode]; nofun)
    generalize c.settle (c.beginWake .standby) = d at calm power
    refine ⟨d, rfl, ?_, raised.mono (by simp) |>.trans (calm.noted.mono (by simp)), Noted.keeps calm.noted told,
      fun _ => ⟨?_, ?_⟩, fun no => absurd on no⟩
    · refine calm.frame.trans ?_
      rw [begun]
      rfl
    · rw [calm.modeIs, mode]
    · rw [power, mode]
      exact on
  · obtain ⟨js, begun⟩ := beginWake_is (w := .standby) dormant on
    have raised := woken { c.mode with
      mode := .settling, power := .settling, wake := some .standby
      settle := if c.mode.power = .off then some ⟨c.now, c.limits.site.settle⟩ else c.mode.settle } js
    have told := notify_heard { c with
      mode := { c.mode with
        mode := .settling, power := .settling, wake := some .standby
        settle := if c.mode.power = .off then some ⟨c.now, c.limits.site.settle⟩ else c.mode.settle }
      jets := js } .mode
    rw [← begun] at raised told
    have run : (c.beginWake .standby).run = c.run := by rw [begun]; rfl
    have mode : (c.beginWake .standby).mode.mode = .settling := by rw [begun]; rfl
    have attended := settle_attended (before := c) (c := c.beginWake .standby) (.inl (by rw [run, idle]; nofun))
      (.inl (by rw [run, idle]; nofun)) (by rw [mode]; nofun) (by rw [mode]; nofun)
    refine ⟨_, attended, ?_, raised.mono (by simp), told, fun yes => absurd yes on, fun _ => ?_⟩
    · rw [begun]
      rfl
    · rw [begun]
      rfl

/-- Settles O28. -/
theorem sleepAndWake : Obligations.SleepAndWake := by
  refine ⟨fun s l => sleep_takes, fun s l heard => ?_⟩
  have reacts : Reacts (.wake l) s l 35 ruleWake := reacts_of_hears rfl rfl heard
  refine ⟨fun tripped => reacts.refuses (by simp only [ruleWake, tripped]), fun awake => reacts.answers (ruleWake_awake awake),
    fun dormant idle => ?_⟩
  obtain ⟨d, is, frame, noted, told, on, raises⟩ := wake_leaves dormant idle
  have ruled : ruleWake s.chip = d.taken := by rw [ruleWake_dormant dormant, is]
  refine reacts.takes ruled (noticed_mode noted told) ⟨?_, on, raises⟩
  show { d with links := (d.reply l 35 .ok .none).links } = { s.chip with
    pumps := d.pumps, queue := d.queue, joining := d.joining, history := d.history, jets := d.jets
    circ := d.circ, mode := d.mode, links := (d.reply l 35 .ok .none).links }
  generalize (d.reply l 35 .ok .none).links = links
  rw [frame]

end Sys2Proof.Proofs.SleepWake


/-! PROOF. Start and stop requests by the pump's state, and the start arbiter (O43). -/

namespace Sys2Proof.Proofs.Arbiter

open Sys2Proof Sys2Proof.Machine Sys2Proof.Proofs.StepEffects Sys2Proof.Proofs.Water Sys2Proof.Proofs.Orders
open Sys2Proof.Proofs.Settling Sys2Proof.Proofs.OnePump Sys2Proof.Proofs.Requests Sys2Proof.Proofs.Links Sys2Proof.Proofs.Trips

variable {i : Instr} {s : State} {c d : Chip} {p : PumpId} {r : Requester} {e : StartEntry}

/-! ## Start requests (R83) -/

theorem startRequest_tripped (h : c.mode.mode = .tripped) : c.startRequest p r = c := if_pos h

theorem queued_iff : c.queued p = true ↔ ∃ e ∈ c.queue ++ c.joining, e.pump = p := by
  simp only [Chip.queued, List.any_eq_true, decide_eq_true_eq]

theorem startRequest_waits (tripped : c.mode.mode ≠ .tripped) (waits : (c.pumps[p]).state = .stopped ∨ (c.pumps[p]).state = .resting) :
    c.startRequest p r = if c.queued p then c else { c with joining := insertEntry ⟨p, r, c.now⟩ c.joining } := by
  unfold Chip.startRequest
  rw [if_neg tripped]
  rcases waits with h | h <;> rw [h]

/-- A request that joins keeps the order of the pumps. -/
theorem insertEntry_sorted {xs : List StartEntry} (sorted : xs.Pairwise fun a b => a.pump < b.pump)
    (new : ∀ x ∈ xs, x.pump ≠ e.pump) : (insertEntry e xs).Pairwise fun a b => a.pump < b.pump := by
  induction xs with
  | nil => exact List.pairwise_singleton _ e
  | cons x xs ih =>
    obtain ⟨least, rest⟩ := List.pairwise_cons.mp sorted
    unfold insertEntry
    split
    next ahead => exact List.pairwise_cons.mpr ⟨fun y mem => (List.mem_cons.mp mem).elim (fun same => same ▸ ahead) fun later =>
        lt_trans ahead (least y later), sorted⟩
    next behind =>
      have after : x.pump < e.pump := lt_of_le_of_ne (not_lt.mp behind) (new x List.mem_cons_self)
      refine List.pairwise_cons.mpr ⟨fun y mem => ?_, ih rest fun y mem => new y (List.mem_cons_of_mem _ mem)⟩
      exact (List.mem_cons.mp ((insertEntry_perm e xs).subset mem)).elim (fun same => same ▸ after) (least y)

/-! ## Stop requests (R92) -/

theorem stopRequest_waiting (waits : (c.pumps[p]).state = .stopped ∨ (c.pumps[p]).state = .resting) :
    c.stopRequest p = (c.updPump p fun q => { q with idleExpiry := none }).dequeue p := by
  unfold Chip.stopRequest
  rcases waits with h | h <;> rw [h]

theorem updPump_twice (c : Chip) (p : PumpId) (f g : Pump → Pump) : (c.updPump p f).updPump p g = c.updPump p (g ∘ f) := by
  have both : (c.updPump p f).pumps.set p (g (c.updPump p f).pumps[p]) = c.pumps.set p (g (f c.pumps[p])) := by
    rw [updPump_own]
    exact Vector.set_set ..
  rw [Chip.updPump, both]
  rfl

/-- The stop of a pump that is kept up is pending. -/
theorem stopRequest_pends
    (up : (c.pumps[p]).state = .priming ∨ ((c.pumps[p]).state = .running ∧ c.now < (c.pumps[p]).runMinEnd)) :
    c.stopRequest p = c.updPump p fun q => { q with idleExpiry := none, stopPending := true } := by
  unfold Chip.stopRequest
  rcases up with h | ⟨h, early⟩
  · rw [h]
    exact updPump_twice c p _ _
  · rw [h]
    dsimp only
    rw [if_neg (Nat.not_le.mpr early)]
    exact updPump_twice c p _ _

theorem stopRequest_rests (running : (c.pumps[p]).state = .running) (late : (c.pumps[p]).runMinEnd ≤ c.now) :
    c.stopRequest p = (c.updPump p fun q => { q with idleExpiry := none }).enterResting p := by
  unfold Chip.stopRequest
  rw [running]
  exact if_pos late

theorem stopRequest_down (down : (c.pumps[p]).state = .faulted ∨ (c.pumps[p]).state = .outOfService) :
    c.stopRequest p = c.updPump p fun q => { q with idleExpiry := none } := by
  unfold Chip.stopRequest
  rcases down with h | h <;> rw [h]

/-- What entry into RESTING leaves of a pump, by its drive. -/
theorem enterResting_leaves (c : Chip) (p : PumpId) :
    ((c.enterResting p).pumps[p]).state = (if c.lines.drvOk[p] then .resting else .faulted) ∧
    ((c.enterResting p).pumps[p]).setpoint = 0 ∧ ((c.enterResting p).pumps[p]).idleExpiry = none ∧
    ((c.enterResting p).pumps[p]).stopPending = false := by
  rw [enterResting_own, driven]
  split <;> exact ⟨rfl, rfl, rfl, rfl⟩

theorem requests_by_state (c : Chip) (p : PumpId) (r : Requester) :
    (c.mode.mode = .tripped → c.startRequest p r = c) ∧
    ((c.pumps[p]).state.up = true ∨ (c.pumps[p]).state = .faulted ∨ (c.pumps[p]).state = .outOfService →
      c.startRequest p r = c) ∧
    (c.mode.mode ≠ .tripped → (c.pumps[p]).state = .stopped ∨ (c.pumps[p]).state = .resting →
      ((∃ e ∈ c.queue ++ c.joining, e.pump = p) → c.startRequest p r = c) ∧
      ((∀ e ∈ c.queue ++ c.joining, e.pump ≠ p) → ∃ d : Chip, d = c.startRequest p r ∧
        d = { c with joining := d.joining } ∧ d.joining.Perm (⟨p, r, c.now⟩ :: c.joining) ∧
        (c.joining.Pairwise (fun a b => a.pump < b.pump) → d.joining.Pairwise (fun a b => a.pump < b.pump)))) := by
  refine ⟨startRequest_tripped, fun out => startRequest_out (p := p) ?_ r, fun tripped waits => ⟨fun queued => ?_, fun unqueued => ?_⟩⟩
  · rw [stateOf]
    rcases out with up | h | h
    · constructor <;> intro down <;> rw [down] at up <;> cases up
    · rw [h]; exact ⟨nofun, nofun⟩
    · rw [h]; exact ⟨nofun, nofun⟩
  · rw [startRequest_waits tripped waits, if_pos (queued_iff.mpr queued)]
  · have joins : c.startRequest p r = { c with joining := insertEntry ⟨p, r, c.now⟩ c.joining } := by
      rw [startRequest_waits tripped waits, if_neg (by rw [queued_eq_false_iff.mpr unqueued]; exact Bool.false_ne_true)]
    rw [joins]
    exact ⟨_, rfl, rfl, insertEntry_perm _ _, fun sorted => insertEntry_sorted sorted fun x mem => unqueued x (List.mem_append_right _ mem)⟩

theorem stops_by_state (c : Chip) (p : PumpId) :
    ((c.pumps[p]).state = .stopped ∨ (c.pumps[p]).state = .resting → ∃ d : Chip, d = c.stopRequest p ∧
      d = { c with
        pumps := c.pumps.set p { c.pumps[p] with idleExpiry := none }
        queue := c.queue.filter fun e => decide (e.pump ≠ p)
        joining := c.joining.filter fun e => decide (e.pump ≠ p) }) ∧
    ((c.pumps[p]).state = .priming ∨ ((c.pumps[p]).state = .running ∧ c.now < (c.pumps[p]).runMinEnd) →
      c.stopRequest p =
        { c with pumps := c.pumps.set p { c.pumps[p] with idleExpiry := none, stopPending := true } }) ∧
    ((c.pumps[p]).state = .running → (c.pumps[p]).runMinEnd ≤ c.now →
      ((c.stopRequest p).pumps[p]).state = (if c.lines.drvOk[p] then .resting else .faulted) ∧
      ((c.stopRequest p).pumps[p]).setpoint = 0 ∧ ((c.stopRequest p).pumps[p]).idleExpiry = none ∧
      ((c.stopRequest p).pumps[p]).stopPending = false) ∧
    ((c.pumps[p]).state = .faulted ∨ (c.pumps[p]).state = .outOfService →
      c.stopRequest p = { c with pumps := c.pumps.set p { c.pumps[p] with idleExpiry := none } }) := by
  refine ⟨fun waits => ⟨_, rfl, stopRequest_waiting waits⟩, stopRequest_pends, fun running late => ?_, stopRequest_down⟩
  rw [stopRequest_rests running late]
  exact enterResting_leaves (c.updPump p fun q => { q with idleExpiry := none }) p

/-! ## Grants (R86 to R88) -/

theorem slotFree_iff : c.slotFree = true ↔ c.mode.power = .on ∧
    (∀ g, c.history.getLast? = some g → c.limits.site.space ≤ c.now - g) ∧ c.windowCount < c.limits.site.windowGrants := by
  unfold Chip.slotFree
  cases c.history.getLast? <;> simp [and_assoc]

theorem eligible_iff : c.eligible e = true ↔ (c.pumps[e.pump]).state = .stopped ∧
    ∀ g, (c.pumps[e.pump]).lastGrant = some g → (c.limits.pumps[e.pump]).cycle * 1000 ≤ c.now - g := by
  unfold Chip.eligible
  cases (c.pumps[e.pump]).lastGrant <;> simp

theorem not_eligible (h : (c.pumps[e.pump]).state ≠ .stopped ∨
    ∃ g, (c.pumps[e.pump]).lastGrant = some g ∧ c.now - g < (c.limits.pumps[e.pump]).cycle * 1000) : c.eligible e = false := by
  rw [Bool.eq_false_iff, ne_eq, eligible_iff]
  rintro ⟨stopped, cycled⟩
  rcases h with other | ⟨g, granted, early⟩
  · exact other stopped
  · exact absurd (cycled g granted) (Nat.not_le.mpr early)

theorem countStarted_queue (c : Chip) (e : StartEntry) : (c.countStarted e).queue = c.queue := by
  unfold Chip.countStarted
  split <;> rfl

theorem countStarted_pumps (c : Chip) (e : StartEntry) : (c.countStarted e).pumps = c.pumps := by
  unfold Chip.countStarted
  split <;> rfl

theorem countStarted_history (c : Chip) (e : StartEntry) : (c.countStarted e).history = c.history := by
  unfold Chip.countStarted
  split <;> rfl

theorem granted_queue (c : Chip) (e : StartEntry) : (granted c e).queue = c.queue.filter fun x => decide (x.pump ≠ e.pump) := by
  unfold granted
  rw [Chip.updPump_queue]
  simp only [Chip.enterState, Chip.followPump_queue, Chip.updPump_queue]
  rfl

theorem granted_history (c : Chip) (e : StartEntry) : (granted c e).history = lastEight (c.history ++ [c.now]) := by
  unfold granted
  rw [Chip.updPump_history, enterState_history]

theorem watchDrive_queue (c : Chip) (p : PumpId) (gone : ∀ x ∈ c.queue, x.pump ≠ p) : (c.watchDrive p).queue = c.queue := by
  have faulted : (c.enterFaulted p .drive).queue = c.queue := by
    have stands : c.queue.filter (fun x => decide (x.pump ≠ p)) = c.queue :=
      List.filter_eq_self.mpr fun x mem => decide_eq_true (gone x mem)
    rw [Chip.enterFaulted, Chip.notify_queue]
    simp only [Chip.enterState, Chip.followPump_queue, Chip.updPump_queue]
    exact stands
  unfold Chip.watchDrive
  split
  iterate 4
    split
    · rfl
    · exact faulted
  all_goals rfl

theorem grant_queue (c : Chip) (e : StartEntry) : (c.grant e).queue = c.queue.filter fun x => decide (x.pump ≠ e.pump) := by
  have left : ((granted c e).countStarted e).queue = c.queue.filter fun x => decide (x.pump ≠ e.pump) := by
    rw [countStarted_queue, granted_queue]
  rw [grant_eq, watchDrive_queue, left]
  intro x mem
  rw [left, List.mem_filter, decide_eq_true_eq] at mem
  exact mem.2

theorem grant_history (c : Chip) (e : StartEntry) : (c.grant e).history = lastEight (c.history ++ [c.now]) := by
  rw [grant_eq, watchDrive_history, countStarted_history, granted_history]

theorem grant_own (c : Chip) (e : StartEntry) : (c.grant e).pumps[e.pump] = driven c e.pump (primed c e.pump) := by
  have water := (granted_water c e).trans (Chip.countStarted_water _ e)
  have record : ((granted c e).countStarted e).pumps[e.pump] = primed c e.pump := by
    rw [countStarted_pumps, granted_pump, if_pos rfl]
  rw [grant_eq, watchDrive_own (by rw [Watched, stateOf, record]; exact ⟨nofun, nofun⟩), record, driven_of_lines water.lines water.now]

/-- A grant takes its entry out of the queue. -/
theorem grant_shorter (mem : e ∈ c.queue) : (c.grant e).queue.length < c.queue.length := by
  rw [grant_queue]
  exact List.length_filter_lt_length_iff_exists.mpr ⟨e, mem, by simp⟩

theorem grants_none (n : Nat) (h : c.grantable = none) : Chip.grants n c = c := by
  cases n with
  | zero => rfl
  | succ n => rw [Chip.grants, h]

theorem grants_some (n : Nat) (h : c.grantable = some e) : Chip.grants (n + 1) c = Chip.grants n (c.grant e) := by
  rw [Chip.grants, h]

/-- More fuel than the queue has entries makes no further grant. -/
theorem grants_enough (n : Nat) (enough : c.queue.length ≤ n) : Chip.grants n c = c.testQueue := by
  induction n using Nat.strong_induction_on generalizing c with
  | h n ih =>
    cases h : c.grantable with
    | none => rw [grants_none n h, Chip.testQueue, grants_none _ h]
    | some e =>
      have shorter := grant_shorter (Chip.grantable_mem c h).1
      obtain ⟨m, rfl⟩ : ∃ m, n = m + 1 := Nat.exists_eq_add_one_of_ne_zero (by omega)
      obtain ⟨k, length⟩ : ∃ k, c.queue.length = k + 1 := Nat.exists_eq_add_one_of_ne_zero (by omega)
      rw [Chip.testQueue, length, grants_some m h, grants_some k h, ih m (by omega) (by omega), ih k (by omega) (by omega)]

/-- A test of the queue makes the grant that may be made, and tests again. -/
theorem testQueue_some (h : c.grantable = some e) : c.testQueue = (c.grant e).testQueue := by
  have shorter := grant_shorter (Chip.grantable_mem c h).1
  obtain ⟨k, length⟩ : ∃ k, c.queue.length = k + 1 := Nat.exists_eq_add_one_of_ne_zero (by omega)
  rw [Chip.testQueue, length, grants_some k h, grants_enough k (by omega)]

/-- What a grant that may be made keeps, a test of the queue keeps. -/
theorem testQueue_keeps {P : Chip → Prop} (step : ∀ c e, c.grantable = some e → P c → P (c.grant e)) (h : P c) : P c.testQueue := by
  have all (n : Nat) : ∀ c : Chip, P c → P (Chip.grants n c) := by
    induction n with
    | zero => exact fun _ k => k
    | succ n ih =>
      intro c k
      cases g : c.grantable with
      | none => rw [grants_none _ g]; exact k
      | some e => rw [grants_some n g]; exact ih _ (step c e g k)
  exact all _ c h

/-- A test of the queue ends with nothing to grant. -/
theorem testQueue_grantable (c : Chip) : c.testQueue.grantable = none := by
  induction h : c.queue.length using Nat.strong_induction_on generalizing c with
  | h n ih =>
    cases g : c.grantable with
    | none => rw [Chip.testQueue_none c g]; exact g
    | some e => rw [testQueue_some g]; exact ih _ (h ▸ grant_shorter (Chip.grantable_mem c g).1) _ rfl

theorem windowCount_eq (c : Chip) :
    c.windowCount = c.history.countP fun g => decide (c.now < g + c.limits.site.window * 1000) :=
  List.countP_eq_length_filter.symm

/-- A grant adds one grant to the window. -/
theorem grant_window (c : Chip) (e : StartEntry) : (c.grant e).windowCount ≤ c.windowCount + 1 := by
  have water := Chip.grant_water c e
  rw [windowCount_eq, windowCount_eq, water.now, water.limits, grant_history, lastEight]
  refine ((List.drop_sublist _ _).countP_le).trans ?_
  rw [List.countP_append]
  exact Nat.add_le_add_left List.countP_le_length _

theorem testQueue_window (h : c.windowCount ≤ c.limits.site.windowGrants) :
    c.testQueue.windowCount ≤ c.testQueue.limits.site.windowGrants :=
  testQueue_keeps (P := fun d => d.windowCount ≤ d.limits.site.windowGrants) (fun d e g _ => by
    have free := (slotFree_iff.mp (Chip.grantable_mem d g).2.2).2.2
    rw [(Chip.grant_water d e).limits]
    exact (grant_window d e).trans free) h

/-- The oldest eligible entry is granted. -/
theorem grantable_first {ahead behind : List StartEntry} (queue : c.queue = ahead ++ e :: behind) (free : c.slotFree = true)
    (eligible : c.eligible e = true) (before : ∀ x ∈ ahead, c.eligible x = false) : c.grantable = some e := by
  rw [Chip.grantable, if_pos free, queue, List.find?_append, List.find?_eq_none.mpr fun x mem => by
    rw [before x mem]; exact Bool.false_ne_true]
  simp [eligible]

/-- What may be granted, and what the grant does. -/
theorem grantable_grants (h : c.grantable = some e) :
    c.mode.power = .on ∧ (∀ g, c.history.getLast? = some g → c.limits.site.space ≤ c.now - g) ∧
    c.windowCount < c.limits.site.windowGrants ∧ e ∈ c.queue ∧ (c.pumps[e.pump]).state = .stopped ∧
    (∀ g, (c.pumps[e.pump]).lastGrant = some g → (c.limits.pumps[e.pump]).cycle * 1000 ≤ c.now - g) ∧
    (∃ d : Chip, d = c.grant e ∧
      d = { c with
        pumps := d.pumps, queue := d.queue, joining := d.joining, history := d.history, jets := d.jets
        circ := d.circ, links := d.links } ∧
      (∀ x ∈ d.queue, x.pump ≠ e.pump) ∧ d.history = (c.history ++ [c.now]).drop (c.history.length + 1 - 8) ∧
      (d.pumps[e.pump]).lastGrant = some c.now ∧
      (d.pumps[e.pump]).runMinEnd = c.now + (c.limits.pumps[e.pump]).runMin * 1000 ∧
      (d.pumps[e.pump]).primeMinEnd = c.now + (c.limits.pumps[e.pump]).primeMin ∧
      (d.pumps[e.pump]).primeMaxEnd = c.now + (c.limits.pumps[e.pump]).primeMax ∧
      (c.lines.drvOk[e.pump] = true →
        (d.pumps[e.pump]).state = .priming ∧ (d.pumps[e.pump]).stopPending = false ∧
        (d.pumps[e.pump]).setpoint = c.sMinInForce[e.pump]) ∧
      (c.lines.drvOk[e.pump] = false → (d.pumps[e.pump]).state = .faulted) ∧
      ∀ q : PumpId, q ≠ e.pump → d.pumps[q] = c.pumps[q]) := by
  obtain ⟨queued, eligible, free⟩ := Chip.grantable_mem c h
  obtain ⟨power, space, window⟩ := slotFree_iff.mp free
  obtain ⟨stopped, cycled⟩ := eligible_iff.mp eligible
  have own := grant_own c e
  have queue := grant_queue c e
  have history := grant_history c e
  have others (q : PumpId) (other : q ≠ e.pump) : (c.grant e).pumps[q] = c.pumps[q] := (grant_aside c e other).record
  have water := (Chip.grant_water c e).1
  generalize c.grant e = d at own queue history others water
  refine ⟨power, space, window, queued, stopped, cycled, d, rfl, water, fun x mem => ?_, ?_, ?_, ?_, ?_, ?_, fun ok => ?_, fun low => ?_, others⟩
  · rw [queue, List.mem_filter, decide_eq_true_eq] at mem
    exact mem.2
  · rw [history, lastEight, List.length_append]
    rfl
  iterate 4
    rw [own, driven]
    split <;> rfl
  · rw [own, driven, if_pos ok]
    exact ⟨rfl, rfl, rfl⟩
  · rw [own, driven, if_neg (by rw [low]; exact Bool.false_ne_true)]
    rfl

/-- Settles O43. -/
theorem startsAndGrants : Obligations.StartsAndGrants := by
  refine ⟨fun c p r => ?_, fun c e => grantable_grants, fun c ahead behind e queue power space window stopped cycled before => ?_,
    fun c => ⟨testQueue_grantable c, fun count => ?_⟩, fun s free => ⟨event_next (f := Chip.queueExpiry) rfl free rfl, Chip.testQueue_none _⟩⟩
  · obtain ⟨tripped, out, waits⟩ := requests_by_state c p r
    exact ⟨tripped, out, waits, stops_by_state c p⟩
  · have first := grantable_first queue (slotFree_iff.mpr ⟨power, space, by rw [windowCount_eq]; exact window⟩)
      (eligible_iff.mpr ⟨stopped, cycled⟩) fun x mem => not_eligible (before x mem)
    exact ⟨first, testQueue_some first⟩
  · have counted := testQueue_window count
    rwa [(Chip.testQueue_water c).limits] at counted

end Sys2Proof.Proofs.Arbiter


/-! PROOF. The settle time and the dormancy timer (O29). -/

namespace Sys2Proof.Proofs.SleepWake

open Sys2Proof Sys2Proof.Machine Sys2Proof.Proofs.StepEffects Sys2Proof.Proofs.Water Sys2Proof.Proofs.Orders Sys2Proof.Proofs.Links
open Sys2Proof.Proofs.Settling Sys2Proof.Proofs.Requests Sys2Proof.Proofs.Trips Sys2Proof.Proofs.ManualJets Sys2Proof.Proofs.Flushing
open Sys2Proof.Proofs.Arbiter

variable {J : JetId → Prop} {I : PumpId → Prop} {b : Bool} {i : Instr} {s : State} {c d before : Chip} {w : WakeTo} {j : JetId}

/-! ## The power is ON (R156) -/

/-- The power is ON, and the jet does not wait for it. -/
def Powered (j : JetId) (c : Chip) : Prop :=
  c.mode.power = .on ∧ ((c.jets[j]).state = .waiting → (c.jets[j]).waitCause ≠ some .noPower)

theorem waitCauseOn_powered (on : c.mode.power = .on) (p : PumpId) : c.waitCauseOn p ≠ .noPower := by
  unfold Chip.waitCauseOn
  rw [if_neg (not_not_intro on)]
  split_ifs <;> nofun

theorem settleJet_powered (on : c.mode.power = .on) (p : PumpId) {x : Jet} (h : x.state = .waiting → x.waitCause ≠ some .noPower) :
    (c.settleJet p x).state = .waiting → (c.settleJet p x).waitCause ≠ some .noPower := by
  unfold Chip.settleJet
  split
  · exact h
  · split
    · nofun
    · exact fun _ same => waitCauseOn_powered on p (Option.some.inj same)

theorem powered_of_same (h : Powered j c) (mode : d.mode.power = c.mode.power) (jets : d.jets[j] = c.jets[j]) : Powered j d := by
  rw [Powered, mode, jets]
  exact h

theorem enterState_powered (h : Powered j c) (p : PumpId) (st : PumpState) (fault : Option PumpFault) :
    Powered j (c.enterState p st fault) := by
  have jet := followPump_jet (c.updPump p fun _ => entered c p st fault) p j
  rw [show c.enterState p st fault = (c.updPump p fun _ => entered c p st fault).followPump p from rfl]
  have mode := (Chip.followPump_water (c.updPump p fun _ => entered c p st fault) p).mode
  rw [Powered, jet, mode]
  refine ⟨h.1, ?_⟩
  split
  · exact settleJet_powered (c := c.updPump p fun _ => entered c p st fault) h.1 p h.2
  · exact h.2

theorem jetWritten_powered (on : c.mode.power = .on) (owner : Owner) (demand : Nat) (burstEnd : Option Nat) (j : JetId) :
    (jetWritten c owner demand burstEnd j).state = .waiting → (jetWritten c owner demand burstEnd j).waitCause ≠ some .noPower := by
  unfold jetWritten
  split
  · nofun
  · exact settleJet_powered on _ fun _ => nofun

theorem waterMove_powered (h : WaterMove J I b c d) (k : Powered j c) : Powered j d := by
  cases h with
  | dequeue | join | faultNotice | count | drive | timers => exact powered_of_same k rfl rfl
  | enter _ p st fault => exact enterState_powered k p st fault
  | grant _ e =>
    exact granted_rel (R := fun c d => Powered j c → Powered j d) (fun h k => k ∘ h) c e (fun h => powered_of_same h rfl rfl)
      (fun d h => enterState_powered h _ _ _) (fun d p h => powered_of_same h rfl rfl) k
  | write _ owner demand burstEnd m =>
    have mode : (demandWritten c owner demand burstEnd m).mode = c.mode := ((Chip.jets_water c _).trans (Chip.wetFlush_water _)).mode
    rw [Powered, mode, demandWritten_jet]
    refine ⟨k.1, ?_⟩
    split
    next same => exact jetWritten_powered k.1 owner demand burstEnd m
    · exact k.2

theorem waterMoves_powered (h : WaterMoves J I b c d) : Powered j c → Powered j d :=
  h.keeps waterMove_powered fun k => powered_of_same k rfl rfl

/-- The power ON, the event ended, before a wake completes. -/
def poweredUp (c : Chip) : Chip := c.powerOn.endEvent

theorem powerOn_is (c : Chip) : ∃ js, c.powerOn = { c with mode := { c.mode with power := .on, settle := none }, jets := js } := ⟨_, rfl⟩

theorem powerOn_powered (c : Chip) (j : JetId) : Powered j c.powerOn := by
  have jet : c.powerOn.jets[j] = FountainMoves.recaused { c with mode := { c.mode with power := .on, settle := none } } j :=
    Vector.getElem_ofFn _
  refine ⟨rfl, ?_⟩
  rw [jet, FountainMoves.recaused]
  split
  · exact fun _ same => waitCauseOn_powered (c := { c with mode := { c.mode with power := .on, settle := none } }) rfl _ (Option.some.inj same)
  next other => exact fun waits => absurd waits other

/-- What the power leaves as it comes ON. -/
theorem poweredUp_leaves (c : Chip) :
    poweredUp c = { c with
      mode := { c.mode with power := .on, settle := none }
      pumps := (poweredUp c).pumps, queue := (poweredUp c).queue, joining := (poweredUp c).joining, history := (poweredUp c).history
      jets := (poweredUp c).jets, circ := (poweredUp c).circ, links := (poweredUp c).links } ∧
    Noted [.pumpFault] c (poweredUp c) ∧ (∀ j, orderOf (poweredUp c) j = orderOf c j) ∧ (∀ j, Powered j (poweredUp c)) ∧
    (poweredUp c).grantable = none ∧ ((poweredUp c).circ.flush = none ↔ c.circ.flush = none) := by
  have ends : WaterMoves noJet noPump false c.powerOn (poweredUp c) := endEvent_moves (.refl _)
  have order (j : JetId) : orderOf c.powerOn j = orderOf c j := recaused_order c _ j
  have powered := powerOn_powered c
  obtain ⟨js, on⟩ := powerOn_is c
  have grantable : (poweredUp c).grantable = none := testQueue_grantable _
  have noted : Noted [.pumpFault] c c.powerOn := by rw [on]; exact .of_links rfl
  have circ : c.powerOn.circ = c.circ := by rw [on]
  have flush := (waterMoves_flush ends).isSome
  have water := (waterMoves_water ends).1
  refine ⟨?_, noted.trans (waterMoves_noted ends), fun j => (waterMoves_order ends not_false).trans (order j),
    fun j => waterMoves_powered ends (powered j), grantable, ?_⟩
  · generalize poweredUp c = d at water
    refine water.trans ?_
    rw [on]
  · rw [circ] at flush
    rw [← Option.isNone_iff_eq_none, ← Option.isNone_iff_eq_none, ← Option.not_isSome, ← Option.not_isSome, flush]

theorem settleExpiry_eq {t : Timer} (h : c.mode.settle = some t) :
    c.settleExpiry = c.settle (poweredUp (c.reach (t.start + t.length * 1000))).endWake := by
  rw [Chip.settleExpiry, h]
  rfl

theorem endWake_wakes (settling : c.mode.mode = .settling) (wake : c.mode.wake = some w) :
    c.endWake = Chip.notify { c with mode := { c.mode with wake := none, mode := w.mode } } .mode := by
  have woken : c.endWake = Chip.toMode { c with mode := { c.mode with wake := none } } w.mode := by
    rw [Chip.endWake, settling, wake]
  rw [woken, toMode_other]
  show c.mode.mode ≠ _
  rw [settling]
  cases w <;> nofun

theorem endWake_stands (dormant : c.mode.mode = .dormant) : c.endWake = c := by
  rw [Chip.endWake, dormant]

/-! ## The settle time (R156, R158, R129) -/

/-- The settle time ends a wake. -/
theorem settleExpiry_wakes (free : s.chip.resetHeld = false) {t : Timer} (timer : s.chip.mode.settle = some t)
    (settling : s.chip.mode.mode = .settling) (cue : s.chip.run.cue = .idle ∨ s.chip.run.cue = .cued) (wake : s.chip.mode.wake = some w) :
    Becomes .settleExpiry s [.mode] [.pumpFault] fun d =>
      d.mode.power = .on ∧ d.mode.settle = none ∧ d.mode.wake = none ∧ d.mode.mode = w.mode ∧
      d.now = max s.chip.now (t.start + t.length * 1000) ∧ d.run = s.chip.run ∧ d.image = s.chip.image ∧
      d.playback = s.chip.playback ∧ d.clock = s.chip.clock ∧ d.limits = s.chip.limits ∧ d.pages = s.chip.pages := by
  have run : exec .settleExpiry s = .next { s with chip := s.chip.settleExpiry } := event_next (f := Chip.settleExpiry) rfl free rfl
  have reached : Noted [.pumpFault] s.chip (s.chip.reach (t.start + t.length * 1000)) := .of_links rfl
  have now := Chip.reach_now (c := s.chip) (t.start + t.length * 1000)
  rw [settleExpiry_eq timer] at run
  have mode : (s.chip.reach (t.start + t.length * 1000)).mode = s.chip.mode := rfl
  have kept : (s.chip.reach (t.start + t.length * 1000)).run = s.chip.run ∧
      (s.chip.reach (t.start + t.length * 1000)).image = s.chip.image ∧
      (s.chip.reach (t.start + t.length * 1000)).playback = s.chip.playback ∧
      (s.chip.reach (t.start + t.length * 1000)).clock = s.chip.clock ∧
      (s.chip.reach (t.start + t.length * 1000)).limits = s.chip.limits ∧
      (s.chip.reach (t.start + t.length * 1000)).pages = s.chip.pages := ⟨rfl, rfl, rfl, rfl, rfl, rfl⟩
  generalize s.chip.reach (t.start + t.length * 1000) = c at run reached now mode kept
  obtain ⟨frame, noted, -⟩ := poweredUp_leaves c
  generalize poweredUp c = d at run frame noted
  have d_mode : d.mode = { s.chip.mode with power := .on, settle := none } := by rw [frame, mode]
  have woken := endWake_wakes (c := d) (w := w) (by rw [d_mode]; exact settling) (by rw [d_mode]; exact wake)
  have raised : Noted [.mode] d d.endWake := by
    rw [woken]
    exact .trans (.of_links rfl) (.notify (List.mem_singleton.mpr rfl) _)
  have told : ∀ m : LinkId, .mode ∈ (d.endWake.links[m]).notices := by
    rw [woken]
    exact notify_heard _ _
  have e_mode : d.endWake.mode = { s.chip.mode with power := .on, settle := none, wake := none, mode := w.mode } := by
    rw [woken, Chip.notify_mode, d_mode]
  have e_frame : d.endWake = { d with mode := d.endWake.mode, links := d.endWake.links } := by
    rw [woken]
    rfl
  generalize d.endWake = e at run raised told e_mode e_frame
  have e_run : e.run = s.chip.run := by
    rw [e_frame]
    show d.run = _
    rw [frame]
    exact kept.1
  have e_cue : e.run.cue = .idle ∨ e.run.cue = .cued := by rw [e_run]; exact cue
  have calm : Calm e (s.chip.settle e) := settle_calm s.chip e_cue
  have power := settle_power (before := s.chip) e_cue (by rw [e_mode]; cases w <;> nofun)
  have kept_d : d.image = c.image ∧ d.playback = c.playback ∧ d.clock = c.clock ∧ d.limits = c.limits ∧ d.pages = c.pages ∧ d.now = c.now := by
    rw [frame]
    exact ⟨rfl, rfl, rfl, rfl, rfl, rfl⟩
  have kept_e : e.image = d.image ∧ e.playback = d.playback ∧ e.clock = d.clock ∧ e.limits = d.limits ∧ e.pages = d.pages ∧ e.now = d.now := by
    rw [e_frame]
    exact ⟨rfl, rfl, rfl, rfl, rfl, rfl⟩
  obtain ⟨image, playback, clock, limits, pages, time⟩ := kept_d
  obtain ⟨image', playback', clock', limits', pages', time'⟩ := kept_e
  obtain ⟨-, image'', playback'', clock'', limits'', pages''⟩ := kept
  have all : Noted [.mode, .pumpFault] s.chip (s.chip.settle e) :=
    ((reached.trans noted).mono (by simp)).trans ((raised.mono (by simp)).trans (calm.noted.mono (by simp)))
  have heard : ∀ m : LinkId, .mode ∈ ((s.chip.settle e).links[m]).notices := Noted.keeps calm.noted told
  generalize s.chip.settle e = f at run calm power all heard
  refine ⟨f, run, noticed_mode all heard, ?_, ?_, ?_, ?_, ?_, calm.run.trans e_run, ?_, ?_, ?_, ?_, ?_⟩
  · rw [power, e_mode]
  · rw [power, e_mode]
  · rw [power, e_mode]
  · rw [power, e_mode]
  · rw [calm.now, time', time, now]
  · rw [calm.image, image', image, image'']
  · rw [calm.playback, playback', playback, playback'']
  · rw [calm.clock, clock', clock, clock'']
  · rw [calm.limits, limits', limits, limits'']
  · rw [calm.pages, pages', pages, pages'']

/-- The settle time of a power raised for a flush alone. -/
theorem settleExpiry_flushing (free : s.chip.resetHeld = false) {t : Timer} (timer : s.chip.mode.settle = some t)
    (dormant : s.chip.mode.mode = .dormant) (told : s.chip.mode.flushRunning = true) (runs : s.chip.circ.flush ≠ none)
    (idle : s.chip.run.cue = .idle) :
    Becomes .settleExpiry s [] [.pumpFault] fun d =>
      d = { s.chip with
        now := d.now, framesLeft := d.framesLeft, hydTimer := d.hydTimer, lampTimer := d.lampTimer, sense := d.sense
        pumps := d.pumps, queue := d.queue, joining := d.joining, history := d.history, jets := d.jets, circ := d.circ
        mode := { s.chip.mode with power := .on, settle := none, dormancy := none }
        links := d.links } ∧
      d.now = max s.chip.now (t.start + t.length * 1000) ∧ d.grantable = none ∧
      ∀ j : JetId, (d.jets[j]).owner = (s.chip.jets[j]).owner ∧ (d.jets[j]).demand = (s.chip.jets[j]).demand ∧
        ((d.jets[j]).state = .waiting → (d.jets[j]).waitCause ≠ some .noPower) := by
  have run : exec .settleExpiry s = .next { s with chip := s.chip.settleExpiry } := event_next (f := Chip.settleExpiry) rfl free rfl
  have reached : Noted [.pumpFault] s.chip (s.chip.reach (t.start + t.length * 1000)) := .of_links rfl
  have now := Chip.reach_now (c := s.chip) (t.start + t.length * 1000)
  rw [settleExpiry_eq timer] at run
  obtain ⟨frame, noted, order, powered, grantable, flush⟩ := poweredUp_leaves (s.chip.reach (t.start + t.length * 1000))
  generalize poweredUp (s.chip.reach (t.start + t.length * 1000)) = d at run frame noted order powered grantable flush
  have mode : d.mode = { s.chip.mode with power := .on, settle := none } := by rw [frame]; rfl
  have cue : d.run = s.chip.run := by rw [frame]; rfl
  have time : d.now = max s.chip.now (t.start + t.length * 1000) := by rw [frame]; exact now
  have growing : (s.chip.reach (t.start + t.length * 1000)).circ.flush = none ↔ s.chip.circ.flush = none :=
    Option.map_eq_none_iff
  have flushing : d.circ.flush ≠ none := fun gone => runs (growing.mp (flush.mp gone))
  rw [endWake_stands (by rw [mode]; exact dormant),
    settle_flushing (by rw [cue]; exact .inl idle) flushing (by rw [mode]; exact told)] at run
  have still : Noted [.pumpFault] s.chip { d with mode := { d.mode with dormancy := none } } := reached.trans (noted.trans (.of_links rfl))
  refine ⟨_, run, noticed_pumpFault still, ?_, time, grantable, fun j => ?_⟩
  · show { d with mode := { d.mode with dormancy := none } } = { s.chip with
      now := d.now, framesLeft := d.framesLeft, hydTimer := d.hydTimer, lampTimer := d.lampTimer, sense := d.sense
      pumps := d.pumps, queue := d.queue, joining := d.joining, history := d.history, jets := d.jets, circ := d.circ
      mode := { s.chip.mode with power := .on, settle := none, dormancy := none }, links := d.links }
    rw [mode]
    rw [frame]
    rfl
  · obtain ⟨owner, demand, -⟩ := orderOf_eq_iff.mp (order j)
    exact ⟨owner, demand, (powered j).2⟩

/-! ## The dormancy timer (R161) -/

theorem unattended_iff : c.unattended = true ↔ c.mode.mode = .standby ∧ c.run.cue = .idle ∧ c.mode.flushRunning = false := by
  simp [Chip.unattended, and_assoc]

theorem dormancyExpiry_attended
    (h : c.mode.dormancy = none ∨ c.mode.mode ≠ .standby ∨ c.run.cue ≠ .idle ∨ c.mode.flushRunning = true) : c.dormancyExpiry = c := by
  unfold Chip.dormancyExpiry
  split
  next t timer =>
    refine if_neg ?_
    rw [unattended_iff]
    rintro ⟨standby, idle, still⟩
    rcases h with none_runs | mode | cue | flush
    · exact absurd (none_runs.symm.trans timer) nofun
    · exact mode standby
    · exact cue idle
    · exact absurd (flush.symm.trans still) nofun
  · rfl

theorem dormancyExpiry_sleeps {t : Timer} (timer : c.mode.dormancy = some t) (standby : c.mode.mode = .standby)
    (idle : c.run.cue = .idle) (still : c.mode.flushRunning = false) :
    c.dormancyExpiry = c.settle (c.reach (t.start + t.length * 60000)).enterDormant := by
  rw [Chip.dormancyExpiry, timer]
  exact if_pos (unattended_iff.mpr ⟨standby, idle, still⟩)

theorem dormancyExpiry_becomes (free : s.chip.resetHeld = false) {t : Timer} (timer : s.chip.mode.dormancy = some t)
    (standby : s.chip.mode.mode = .standby) (idle : s.chip.run.cue = .idle) (still : s.chip.mode.flushRunning = false) :
    Becomes .dormancyExpiry s [.mode] [.pumpFault] fun d =>
      d.mode.mode = .dormant ∧ d.mode.dormancy = none ∧ d.now = max s.chip.now (t.start + t.length * 60000) ∧
      (∀ p : PumpId, (d.pumps[p]).intent = .stop ∧ (d.pumps[p]).policy = (s.chip.pumps[p]).policy) ∧
      d.outputs = darkOutputs ∧ d.lampLine = some darkOutputs ∧ d.run = s.chip.run ∧ d.image = s.chip.image ∧
      d.playback = s.chip.playback ∧ d.limits = s.chip.limits ∧ d.pages = s.chip.pages := by
  have run : exec .dormancyExpiry s = .next { s with chip := s.chip.dormancyExpiry } :=
    event_next (f := Chip.dormancyExpiry) rfl free rfl
  rw [dormancyExpiry_sleeps timer standby idle still] at run
  have other : s.chip.mode.mode ≠ .dormant := by rw [standby]; nofun
  obtain ⟨frame, noted, told, mode, dormancy, -, drives, -⟩ :=
    enterDormant_asleep (before := s.chip) (c := s.chip.reach (t.start + t.length * 60000)) idle other
  have now := Chip.reach_now (c := s.chip) (t.start + t.length * 60000)
  generalize s.chip.settle (s.chip.reach (t.start + t.length * 60000)).enterDormant = d at run frame noted told mode dormancy drives
  have reached : Noted [.mode, .pumpFault] s.chip (s.chip.reach (t.start + t.length * 60000)) := .of_links rfl
  refine ⟨d, run, noticed_mode (reached.trans noted) told, mode, dormancy, ?_, fun p => driveOf_iff.mp (drives p), ?_, ?_, ?_, ?_, ?_, ?_, ?_⟩
  · rw [frame]
    exact now
  · rw [frame]
  · rw [frame]
  all_goals rw [frame]; rfl

/-- Settles O29. -/
theorem settleAndDormancyTimers : Obligations.SettleAndDormancyTimers := by
  intro s free
  refine ⟨fun none_runs => event_next (f := Chip.settleExpiry) rfl free (by rw [Chip.settleExpiry, none_runs]),
    fun t timer settling cue w wake => ?_, fun t timer dormant told runs idle => settleExpiry_flushing free timer dormant told runs idle,
    fun attended => event_next (f := Chip.dormancyExpiry) rfl free (dormancyExpiry_attended attended),
    fun t timer standby idle still => dormancyExpiry_becomes free timer standby idle still⟩
  have wakes := settleExpiry_wakes free timer settling cue wake
  cases w <;> exact wakes

end Sys2Proof.Proofs.SleepWake


/-! PROOF. The value that the show clock keeps while cursors move, and a tick of its LOCAL source (O23). -/

namespace Sys2Proof.Proofs.ClockTicks

open Sys2Proof Sys2Proof.Machine Sys2Proof.Proofs.StepEffects Sys2Proof.Proofs.Water Sys2Proof.Proofs.Links
open Sys2Proof.Proofs.Settling Sys2Proof.Proofs.ShowHeart Sys2Proof.Proofs.Sensing Sys2Proof.Proofs.Requests

variable {i : Instr} {s : State} {c d before : Chip} {v : Nat} {j : JetId}

/-! ## The value of the clock -/

/-- No show is CUED, and the clock has the value `v`. -/
def Timed (v : Nat) (h : Heart) : Prop := h.run.cue ≠ .cued ∧ h.clock.value = v

/-- START alone gives the clock another value, and no turn leads to CUED. -/
theorem turn_timed {h k : Heart} (t : Turn h k) (timed : Timed v h) : Timed v k := by
  obtain ⟨cue, value⟩ := timed
  cases t with
  | start _ cued => exact absurd cued cue
  | goOn now => exact ⟨nofun, (ShowHeart.musicResumed_clock _ _ now).2.trans value⟩
  | restored now => exact ⟨nofun, (ShowHeart.musicResumed_clock _ _ now).2.trans value⟩
  | audioEnd now position => exact ⟨cue, (musicEnded_clock _ _ now position).2.trans value⟩
  | pace | main | hold | setHold | block => exact ⟨cue, value⟩
  | silence idle => exact ⟨by rw [idle]; nofun, value⟩
  | ending => exact ⟨(nofun : CueState.ending ≠ .cued), value⟩
  | uncue | drop | complete | abort => exact ⟨(nofun : CueState.idle ≠ .cued), value⟩
  | _ => exact ⟨nofun, value⟩

theorem turns_timed (t : Turns c d) (cue : c.run.cue ≠ .cued) : d.run.cue ≠ .cued ∧ d.clock.value = c.clock.value :=
  t.keeps (P := Timed c.clock.value) turn_timed ⟨cue, rfl⟩

/-- A show that is CUED takes no value of the clock. -/
theorem clockTook_cued (cue : c.run.cue = .cued) : c.clockTook = c := if_neg (by rw [cue]; nofun)

/-- Neither the steps that a new value makes due nor MOD's tests change the value. -/
theorem settled_value (before c : Chip) : (Chip.settle before c.clockTook).clock.value = c.clock.value := by
  by_cases cue : c.run.cue = .cued
  · rw [clockTook_cued cue]
    rw [(settle_calm before (.inr cue)).frame]
  · exact (turns_timed ((clockTook_turns c).trans (settle_turns before _)) cue).2

/-! ## Nothing due -/

/-- No burst end stands in the image or on a jet. -/
def Unburst (c : Chip) : Prop := ∀ j : JetId, (c.image.jets[j]).burstEnd = none ∧ (c.jets[j]).burstEnd = none

/-- An image jet once the clock has reached `t` (R30). -/
def imagePast (t : Nat) (x : ImageJet) : ImageJet :=
  match x.burstEnd with
  | some b => if b ≤ t then ⟨0, none⟩ else x
  | none => x

/-- A burst that the clock has reached ends on its jet (R111). -/
def jetPast (j : JetId) (c : Chip) : Chip :=
  match (c.jets[j]).burstEnd with
  | some b => if b ≤ c.clock.value then c.demandWrite (c.jets[j]).owner 0 none j else c
  | none => c

theorem expireJetBursts_eq (c : Chip) : c.expireJetBursts = c.forEach (List.finRange 48) jetPast := rfl

theorem expireBursts_eq (c : Chip) : c.expireBursts =
    Chip.expireJetBursts { c with image.jets := Vector.ofFn fun j => imagePast c.clock.value (c.image.jets[j]) } := rfl

theorem imagePast_unburst {t : Nat} {x : ImageJet} (h : x.burstEnd = none) : imagePast t x = x := by
  unfold imagePast
  rw [h]

theorem jetPast_unburst (h : (c.jets[j]).burstEnd = none) : jetPast j c = c := by
  unfold jetPast
  rw [h]

theorem expireJetBursts_unburst (h : ∀ j : JetId, (c.jets[j]).burstEnd = none) : c.expireJetBursts = c :=
  Chip.forEach_keeps (P := (· = c)) _ (fun j _ d same => by subst same; exact jetPast_unburst (h j)) rfl

theorem expireBursts_unburst (h : Unburst c) : c.expireBursts = c := by
  have image : (Vector.ofFn fun j : JetId => imagePast c.clock.value (c.image.jets[j])) = c.image.jets := by
    ext1 j hj
    rw [Vector.getElem_ofFn]
    exact imagePast_unburst (h ⟨j, hj⟩).1
  rw [expireBursts_eq, image]
  exact expireJetBursts_unburst fun j => (h j).2

/-- The main cursor stands on a step due later: nothing executes. -/
theorem runCursors_ahead (cue : c.run.cue = .running) (ahead : ∀ m ∈ c.run.mainDue, c.clock.value < m) (fuel : Nat) :
    Chip.runCursors fuel c = c := by
  cases fuel with
  | zero => rfl
  | succ n =>
    unfold Chip.runCursors
    rw [cue]
    dsimp only
    split
    next due _ is => exact if_neg (Nat.not_le.mpr (ahead _ is))
    next => rfl

theorem runSteps_ahead {m : Nat} (cue : c.run.cue = .running) (due : c.run.mainDue = some m) (ahead : c.clock.value < m) :
    c.runSteps = c :=
  runCursors_ahead cue (fun n is => by cases due.symm.trans is; exact ahead) _

/-! ## The tick -/

/-- The LOCAL clock takes its next value (R76). -/
def ticked (c : Chip) : Chip :=
  { c.reach (c.clock.stamp + 1) with
    clock := ⟨min clockTop (c.clock.value + 1), c.clock.source, c.clock.running, c.clock.stamp + 1⟩ }

theorem localTick_still (h : c.clock.running = false ∨ c.clock.source = .audio) : c.localTick = c :=
  if_neg fun ⟨running, source⟩ => by
    rcases h with h | h
    · rw [running] at h; contradiction
    · rw [source] at h; contradiction

theorem localTick_eq (running : c.clock.running = true) (source : c.clock.source = .localTime) :
    c.localTick = if (ticked c).clock.value = c.clock.value then ticked c else c.settle (ticked c).clockTook :=
  if_pos ⟨running, source⟩

theorem localTick_value (running : c.clock.running = true) (source : c.clock.source = .localTime) :
    c.localTick.clock.value = min clockTop (c.clock.value + 1) := by
  rw [localTick_eq running source]
  split
  · rfl
  · exact settled_value c (ticked c)

/-- With no step and no burst due, a tick of a running show is the tick alone. -/
theorem localTick_quiet {m : Nat} (running : c.clock.running = true) (source : c.clock.source = .localTime)
    (below : c.clock.value < clockTop) (cue : c.run.cue = .running) (mode : c.mode.mode = .showMode) (due : c.run.mainDue = some m)
    (ahead : c.clock.value + 1 < m) (unburst : Unburst c) :
    c.localTick = { ticked c with mode := { c.mode with dormancy := none } } := by
  have value : (ticked c).clock.value = c.clock.value + 1 := by
    show min clockTop (c.clock.value + 1) = _
    omega
  have took : (ticked c).clockTook = ticked c := by
    rw [Chip.clockTook, if_pos (.inl cue), expireBursts_unburst (c := ticked c) unburst]
    exact runSteps_ahead (c := ticked c) cue due (by rw [value]; exact ahead)
  rw [localTick_eq running source, if_neg (by rw [value]; omega), took]
  exact settle_attended (c := ticked c) (.inl (by rw [show (ticked c).run.cue = _ from cue]; nofun))
    (.inl (by rw [show (ticked c).run.cue = _ from cue]; nofun)) (by rw [show (ticked c).mode.mode = _ from mode]; nofun)
    (by rw [show (ticked c).mode.mode = _ from mode]; nofun)

/-- Settles O23: the turns of the show's heart keep the clock's value, and with nothing due only the tick is left. -/
theorem localClockTicks : Obligations.LocalClockTicks := by
  intro s free
  have run {d : Chip} (gives : s.chip.localTick = d) : exec .showClockTick s = .next { s with chip := d } :=
    event_next (f := Chip.localTick) rfl free gives
  refine ⟨fun still => ?_, fun running source => ⟨⟨_, run rfl, localTick_value running source⟩, ?_⟩⟩
  · exact run (localTick_still still)
  · intro below cue mode m due ahead unburst
    refine ⟨_, run (localTick_quiet running source below cue mode due ahead unburst), ?_, ?_⟩
    · exact noticed_of_links rfl
    · have value : min clockTop (s.chip.clock.value + 1) = s.chip.clock.value + 1 := by
        show min 2147483647 _ = _
        omega
      rw [ticked, value, source, running]
      rw [Chip.reach_eq, Chip.reach_now]

end Sys2Proof.Proofs.ClockTicks


/-! PROOF. The cursors stop beyond the clock's value (O15): each step falls through to the next index or costs a tick, so that
the steps due up to a value are fewer than the bound of the cursors' runs. -/

namespace Sys2Proof.Proofs.DueSteps

open Sys2Proof Sys2Proof.Machine Sys2Proof.Proofs.StepEffects Sys2Proof.Proofs.Water Sys2Proof.Proofs.ShowHeart
open Sys2Proof.Proofs.ClockTicks

variable {c d : Chip} {v due fade origin fuel t : Nat} {i n : StepIndex} {acts underHold : Bool}

/-! ## Where a cursor may go -/

/-- The cursor falls through to the next index, or its due tick grows. -/
def Onward (i : StepIndex) (due : Nat) (n : StepIndex) (t : Nat) : Prop := (n.val = i.val + 1 ∧ due ≤ t) ∨ due < t

theorem fallFrom_onward (go : c.fallFrom i due = .arrive n t) : Onward i due n t := by
  unfold Chip.fallFrom at go
  split at go
  · cases go
    exact .inl ⟨rfl, Nat.le_add_right _ _⟩
  · contradiction

theorem fallFrom_ne_resumed : c.fallFrom i due ≠ .resumed := by
  unfold Chip.fallFrom
  split <;> nofun

theorem jumpFrom_onward {scene : Nat} (go : c.jumpFrom i due scene = .arrive n t) : Onward i due n t := by
  unfold Chip.jumpFrom at go
  split at go
  · cases go
    exact .inr (by omega)
  · exact fallFrom_onward go

theorem jumpFrom_ne_resumed {scene : Nat} : c.jumpFrom i due scene ≠ .resumed := by
  unfold Chip.jumpFrom
  split
  · nofun
  · exact fallFrom_ne_resumed

theorem arrival_onward (go : c.arrival i due acts underHold = .arrive n t) : Onward i due n t := by
  unfold Chip.arrival at go
  dsimp only at go
  split at go
  · split at go
    · exact jumpFrom_onward go
    · split at go
      · exact jumpFrom_onward go
      · exact fallFrom_onward go
    · contradiction
    · split at go
      · contradiction
      · exact fallFrom_onward go
    all_goals exact fallFrom_onward go
  · exact fallFrom_onward go

/-- The main cursor does not end a hold. -/
theorem arrival_ne_resumed : c.arrival i due acts false ≠ .resumed := by
  unfold Chip.arrival
  dsimp only
  split
  · split
    · exact jumpFrom_ne_resumed
    · split
      · exact jumpFrom_ne_resumed
      · exact fallFrom_ne_resumed
    · nofun
    all_goals exact fallFrom_ne_resumed
  · exact fallFrom_ne_resumed

/-- The steps that may still fall due up to `v`, from index `i` due at `due` on. -/
def stepsLeft (v : Nat) (i : StepIndex) (due : Nat) : Nat := (v + 1 - due) * 1024 - i.val

theorem stepsLeft_falls (due_now : due ≤ v) (onward : Onward i due n t) : stepsLeft v n t < stepsLeft v i due := by
  unfold stepsLeft
  have := i.isLt
  have := n.isLt
  rcases onward with ⟨next, later⟩ | later <;> omega

theorem stepsLeft_le_bound : stepsLeft v i due ≤ stepBound due v := Nat.sub_le _ _

theorem ahead_of_stepsLeft (h : stepsLeft v i due ≤ 0) : v < due := by
  unfold stepsLeft at h
  have := i.isLt
  omega

/-! ## One step of a cursor -/

theorem executeMain_arrive (go : c.arrival i due (c.stepActs (c.stepAt i)) false = .arrive n t) :
    c.executeMain i due = (if c.stepActs (c.stepAt i) then c.stepEffect (c.stepAt i) due else c).placeMain n t := by
  unfold Chip.executeMain
  dsimp only
  rw [go]

theorem executeMain_finish (go : c.arrival i due (c.stepActs (c.stepAt i)) false = .finish fade origin) :
    c.executeMain i due = (if c.stepActs (c.stepAt i) then c.stepEffect (c.stepAt i) due else c).enterEnding fade origin := by
  unfold Chip.executeMain
  dsimp only
  rw [go]

theorem executeHold_arrive (go : c.arrival i due (c.stepActs (c.stepAt i)) true = .arrive n t) :
    c.executeHold i due = (if c.stepActs (c.stepAt i) then c.stepEffect (c.stepAt i) due else c).placeHold n t := by
  unfold Chip.executeHold
  dsimp only
  rw [go]

theorem executeHold_finish (go : c.arrival i due (c.stepActs (c.stepAt i)) true = .finish fade origin) :
    c.executeHold i due = (if c.stepActs (c.stepAt i) then c.stepEffect (c.stepAt i) due else c).enterEnding fade origin := by
  unfold Chip.executeHold
  dsimp only
  rw [go]

theorem executeHold_resumed (go : c.arrival i due (c.stepActs (c.stepAt i)) true = .resumed) :
    c.executeHold i due = (if c.stepActs (c.stepAt i) then c.stepEffect (c.stepAt i) due else c).endHold i := by
  unfold Chip.executeHold
  dsimp only
  rw [go]

section CatchUp

variable {w : Written}

theorem catchUpStep_arrive (go : c.arrival i due (c.stepActs (c.stepAt i) && !c.burstSpent (c.stepAt i) due) false = .arrive n t) :
    (c.catchUpStep w i due).1 = (if c.stepActs (c.stepAt i) && !c.burstSpent (c.stepAt i) due then c.stepImage (c.stepAt i) due
      else c).placeMain n t := by
  unfold Chip.catchUpStep
  dsimp only
  rw [go]

theorem catchUpStep_finish
    (go : c.arrival i due (c.stepActs (c.stepAt i) && !c.burstSpent (c.stepAt i) due) false = .finish fade origin) :
    (c.catchUpStep w i due).1 = (if c.stepActs (c.stepAt i) && !c.burstSpent (c.stepAt i) due then c.stepImage (c.stepAt i) due
      else c).enterEnding fade origin := by
  unfold Chip.catchUpStep
  dsimp only
  rw [go]

end CatchUp

/-! ## Where the cursors stand -/

/-- A RUNNING show at the clock value `v`, the main cursor on index `i`, due at `due`. -/
structure MainAt (v : Nat) (i : StepIndex) (due : Nat) (c : Chip) : Prop where
  value  : c.clock.value = v
  cue    : c.run.cue = .running
  cursor : c.run.mainCursor = some i
  isDue  : c.run.mainDue = some due

/-- A HOLDING show at the clock value `v`, the hold cursor on index `i`, due at `due`. -/
structure HoldAt (v : Nat) (i : StepIndex) (due : Nat) (c : Chip) : Prop where
  value  : c.clock.value = v
  cue    : c.run.cue = .holding
  cursor : c.run.holdCursor = some i
  isDue  : c.run.holdDue = some due
  main   : c.run.mainCursor.isSome = true
  frozen : c.run.mainDue.isSome = true

/-- At the clock value `v` the show is in ENDING, or RUNNING with no step of the main cursor due. -/
structure MainPast (v : Nat) (c : Chip) : Prop where
  value : c.clock.value = v
  cue   : c.run.cue = .running ∨ c.run.cue = .ending
  ahead : c.run.cue = .running → ∀ t ∈ c.run.mainDue, v < t

theorem mainPast_of_ending (value : c.clock.value = v) (ending : c.run.cue = .ending) : MainPast v c :=
  ⟨value, .inr ending, fun is => by rw [ending] at is; contradiction⟩

theorem mainPast_heart (same : HeartStands c d) (past : MainPast v c) : MainPast v d := by
  have run : d.run = c.run := congrArg Heart.run same.same
  have clock : d.clock = c.clock := congrArg Heart.clock same.same
  exact ⟨by rw [clock, past.value], by rw [run]; exact past.cue, by rw [run]; exact past.ahead⟩

theorem enterEnding_past (value : c.clock.value = v) : MainPast v (c.enterEnding fade origin) := by
  obtain ⟨stamp, ending⟩ := enterEnding_heart c fade origin
  generalize c.enterEnding fade origin = d at ending
  exact mainPast_of_ending ((congrArg (fun h : Heart => h.clock.value) ending).trans value)
    (congrArg (fun h : Heart => h.run.cue) ending)

theorem placeMain_at (at_ : MainAt v i due c) (paced : Paced c d) : MainAt v n t (d.placeMain n t) :=
  ⟨(congrArg ShowClock.value paced.clock).trans at_.value, paced.cue.trans at_.cue, rfl, rfl⟩

theorem paced_run (paced : Paced c d) :
    d.run = { c.run with counters := d.run.counters, lastMark := d.run.lastMark } := by
  obtain ⟨_, _, same⟩ := paced
  rw [show d.run = _ from congrArg Heart.run same]

theorem placeHold_at (at_ : HoldAt v i due c) (paced : Paced c d) : HoldAt v n t (d.placeHold n t) := by
  have run := paced_run paced
  refine ⟨(congrArg ShowClock.value paced.clock).trans at_.value, paced.cue.trans at_.cue, rfl, rfl, ?_, ?_⟩
  · show d.run.mainCursor.isSome = true
    rw [run]
    exact at_.main
  · show d.run.mainDue.isSome = true
    rw [run]
    exact at_.frozen

/-- A step under the main cursor ends the show or brings the cursor onward. -/
theorem executeMain_goes (at_ : MainAt v i due c) :
    MainPast v (c.executeMain i due) ∨ ∃ n t, Onward i due n t ∧ MainAt v n t (c.executeMain i due) := by
  have paced : Paced c (if c.stepActs (c.stepAt i) then c.stepEffect (c.stepAt i) due else c) := (stepEffect_paced c _ due).ite
  cases go : c.arrival i due (c.stepActs (c.stepAt i)) false with
  | arrive n t =>
    rw [executeMain_arrive go]
    exact .inr ⟨n, t, arrival_onward go, placeMain_at at_ paced⟩
  | finish fade origin =>
    rw [executeMain_finish go]
    exact .inl (enterEnding_past ((congrArg ShowClock.value paced.clock).trans at_.value))
  | resumed => exact absurd go arrival_ne_resumed

theorem catchUpStep_goes (at_ : MainAt v i due c) (w : Written) :
    MainPast v (c.catchUpStep w i due).1 ∨ ∃ n t, Onward i due n t ∧ MainAt v n t (c.catchUpStep w i due).1 := by
  have paced : Paced c (if c.stepActs (c.stepAt i) && !c.burstSpent (c.stepAt i) due then c.stepImage (c.stepAt i) due else c) :=
    (stepImage_paced c _ due).ite
  cases go : c.arrival i due (c.stepActs (c.stepAt i) && !c.burstSpent (c.stepAt i) due) false with
  | arrive n t =>
    rw [catchUpStep_arrive go]
    exact .inr ⟨n, t, arrival_onward go, placeMain_at at_ paced⟩
  | finish fade origin =>
    rw [catchUpStep_finish go]
    exact .inl (enterEnding_past ((congrArg ShowClock.value paced.clock).trans at_.value))
  | resumed => exact absurd go arrival_ne_resumed

/-! ## The runs of the cursors -/

theorem mainPast_of_ahead (at_ : MainAt v i due c) (ahead : v < due) : MainPast v c :=
  ⟨at_.value, .inl at_.cue, fun _ t is => by cases at_.isDue.symm.trans is; exact ahead⟩

/-- Once past, the cursors execute nothing. -/
theorem runCursors_past (past : MainPast v c) (fuel : Nat) : Chip.runCursors fuel c = c := by
  rcases past.cue with cue | cue
  · exact runCursors_ahead cue (by rw [past.value]; exact past.ahead cue) fuel
  · cases fuel with
    | zero => rfl
    | succ n =>
      unfold Chip.runCursors
      rw [cue]

theorem catchUpRun_past_stands (past : MainPast v c) (fuel : Nat) (w : Written) : (Chip.catchUpRun fuel c w).1 = c := by
  cases fuel with
  | zero => rfl
  | succ n =>
    unfold Chip.catchUpRun
    split
    next cue _ due =>
      rw [if_neg]
      rw [past.value]
      exact Nat.not_le.mpr (past.ahead cue _ due)
    next => rfl

theorem runMain_past (fuel : Nat) (at_ : MainAt v i due c) (enough : stepsLeft v i due ≤ fuel) :
    MainPast v (Chip.runCursors fuel c) := by
  induction fuel generalizing c i due with
  | zero => exact mainPast_of_ahead at_ (ahead_of_stepsLeft enough)
  | succ m ih =>
    by_cases now : due ≤ v
    · have ran : Chip.runCursors (m + 1) c = Chip.runCursors m (c.executeMain i due) := by
        rw [Chip.runCursors, at_.cue, at_.cursor, at_.isDue]
        exact if_pos (at_.value ▸ now)
      rw [ran]
      rcases executeMain_goes at_ with past | ⟨n, t, onward, next⟩
      · rwa [runCursors_past past]
      · exact ih next (Nat.le_of_lt_succ ((stepsLeft_falls now onward).trans_le enough))
    · have past := mainPast_of_ahead at_ (Nat.not_le.mp now)
      rwa [runCursors_past past]

theorem catchUpRun_past (fuel : Nat) (w : Written) (at_ : MainAt v i due c) (enough : stepsLeft v i due ≤ fuel) :
    MainPast v (Chip.catchUpRun fuel c w).1 := by
  induction fuel generalizing c i due w with
  | zero => exact mainPast_of_ahead at_ (ahead_of_stepsLeft enough)
  | succ m ih =>
    by_cases now : due ≤ v
    · have ran : Chip.catchUpRun (m + 1) c w = Chip.catchUpRun m (c.catchUpStep w i due).1 (c.catchUpStep w i due).2 := by
        rw [Chip.catchUpRun, at_.cue, at_.cursor, at_.isDue]
        exact if_pos (at_.value ▸ now)
      rw [ran]
      rcases catchUpStep_goes at_ w with past | ⟨n, t, onward, next⟩
      · rwa [catchUpRun_past_stands past]
      · exact ih _ next (Nat.le_of_lt_succ ((stepsLeft_falls now onward).trans_le enough))
    · have past := mainPast_of_ahead at_ (Nat.not_le.mp now)
      rwa [catchUpRun_past_stands past]

theorem catchUp_past (at_ : MainAt v i due c) : MainPast v c.catchUp := by
  have ran : MainPast v (Chip.catchUpRun (stepBound (c.run.mainDue.getD c.clock.value) c.clock.value) c Written.nothing).1 := by
    rw [at_.isDue, at_.value]
    exact catchUpRun_past _ _ at_ stepsLeft_le_bound
  unfold Chip.catchUp
  extract_lets x
  split
  · exact ran
  · exact mainPast_heart (handOver_heart _ x.2) ran

/-- RESUME goes through the catch-up. -/
theorem endHold_past (at_ : HoldAt v n t c) (i : StepIndex) : MainPast v (c.endHold i) := by
  obtain ⟨m, main⟩ := Option.isSome_iff_exists.mp at_.main
  obtain ⟨due, frozen⟩ := Option.isSome_iff_exists.mp at_.frozen
  exact catchUp_past ⟨at_.value, rfl, main, frozen⟩

/-- A step under the hold cursor ends the hold or the show, or brings the cursor onward. -/
theorem executeHold_goes (at_ : HoldAt v i due c) :
    MainPast v (c.executeHold i due) ∨ ∃ n t, Onward i due n t ∧ HoldAt v n t (c.executeHold i due) := by
  have paced : Paced c (if c.stepActs (c.stepAt i) then c.stepEffect (c.stepAt i) due else c) := (stepEffect_paced c _ due).ite
  cases go : c.arrival i due (c.stepActs (c.stepAt i)) true with
  | arrive n t =>
    rw [executeHold_arrive go]
    exact .inr ⟨n, t, arrival_onward go, placeHold_at at_ paced⟩
  | finish fade origin =>
    rw [executeHold_finish go]
    exact .inl (enterEnding_past ((congrArg ShowClock.value paced.clock).trans at_.value))
  | resumed =>
    rw [executeHold_resumed go]
    have run := paced_run paced
    exact .inl (endHold_past (n := i) (t := due) ⟨(congrArg ShowClock.value paced.clock).trans at_.value,
      paced.cue.trans at_.cue, by rw [run]; exact at_.cursor, by rw [run]; exact at_.isDue, by rw [run]; exact at_.main,
      by rw [run]; exact at_.frozen⟩ i)

/-- At the clock value `v` the cursor that executes stands on a step due later, or none executes. -/
structure StepsPast (v : Nat) (c : Chip) : Prop where
  value : c.clock.value = v
  main  : c.run.cue = .running → ∀ t ∈ c.run.mainDue, v < t
  hold  : c.run.cue = .holding → ∀ t ∈ c.run.holdDue, v < t

theorem MainPast.steps (past : MainPast v c) : StepsPast v c :=
  ⟨past.value, past.ahead, fun is => by rcases past.cue with cue | cue <;> rw [cue] at is <;> contradiction⟩

theorem HoldAt.past (at_ : HoldAt v i due c) (ahead : v < due) : StepsPast v c :=
  ⟨at_.value, fun is => by rw [at_.cue] at is; contradiction, fun _ t is => by cases at_.isDue.symm.trans is; exact ahead⟩

theorem runHold_past (fuel : Nat) (at_ : HoldAt v i due c) (enough : stepsLeft v i due ≤ fuel) :
    StepsPast v (Chip.runCursors fuel c) := by
  induction fuel generalizing c i due with
  | zero => exact at_.past (ahead_of_stepsLeft enough)
  | succ m ih =>
    have ran : Chip.runCursors (m + 1) c = if due ≤ v then Chip.runCursors m (c.executeHold i due) else c := by
      rw [Chip.runCursors, at_.cue, at_.cursor, at_.isDue, ← at_.value]
    rw [ran]
    split
    next now =>
      rcases executeHold_goes at_ with past | ⟨n, t, onward, next⟩
      · rw [runCursors_past past]
        exact past.steps
      · exact ih next (Nat.le_of_lt_succ ((stepsLeft_falls now onward).trans_le enough))
    next later => exact at_.past (Nat.not_le.mp later)

theorem runSteps_main (at_ : MainAt v i due c) : StepsPast v c.runSteps := by
  have active : c.activeDue = due := by rw [Chip.activeDue, if_neg (by rw [at_.cue]; nofun), at_.isDue]; rfl
  rw [Chip.runSteps, active, at_.value]
  exact (runMain_past _ at_ stepsLeft_le_bound).steps

theorem runSteps_hold (at_ : HoldAt v i due c) : StepsPast v c.runSteps := by
  have active : c.activeDue = due := by rw [Chip.activeDue, if_pos at_.cue, at_.isDue]; rfl
  rw [Chip.runSteps, active, at_.value]
  exact runHold_past _ at_ stepsLeft_le_bound

/-- Settles O15: every step brings its cursor onward, so that the bound of the runs outlasts the steps due. -/
theorem dueStepsRun : Obligations.DueStepsRun := by
  intro c cursor frozen
  obtain ⟨i, main⟩ := Option.isSome_iff_exists.mp cursor
  obtain ⟨due, isDue⟩ := Option.isSome_iff_exists.mp frozen
  refine ⟨?_, fun running => ?_⟩
  · rintro (running | ⟨holding, hold, armed⟩)
    · obtain ⟨value, ahead, held⟩ := runSteps_main ⟨rfl, running, main, isDue⟩
      exact ⟨value, ahead, held⟩
    · obtain ⟨n, at_hold⟩ := Option.isSome_iff_exists.mp hold
      obtain ⟨t, hold_due⟩ := Option.isSome_iff_exists.mp armed
      obtain ⟨value, ahead, held⟩ := runSteps_hold ⟨rfl, holding, at_hold, hold_due, cursor, frozen⟩
      exact ⟨value, ahead, held⟩
  · obtain ⟨value, cue, ahead⟩ := catchUp_past ⟨rfl, running, main, isDue⟩
    exact ⟨value, cue, ahead⟩

end Sys2Proof.Proofs.DueSteps


/-! PROOF. Where a cursor goes, and the steps that act on the show record alone (O16). -/

namespace Sys2Proof.Proofs.DueSteps

open Sys2Proof Sys2Proof.Machine Sys2Proof.Proofs.StepEffects Sys2Proof.Proofs.Water Sys2Proof.Proofs.ShowHeart
open Sys2Proof.Proofs.Requests Sys2Proof.Proofs.Settling Sys2Proof.Proofs.Trips

variable {c d : Chip} {due e : Nat} {i n t : StepIndex} {k : PageId} {acts underHold : Bool} {kind : StepKind} {raw : RawStep}

/-! ## The live page's steps -/

theorem stepAt_live (live : c.run.livePage = some k) (i : StepIndex) : c.stepAt i = (c.pages[k]).steps[i] := by
  rw [Chip.stepAt, live_eq live]

theorem fallFrom_next (live : c.run.livePage = some k) (next : n.val = i.val + 1) :
    c.fallFrom i due = .arrive n (due + stepDelay (c.pages[k]).steps[n]) := by
  have inside : i.val + 1 < 1024 := next ▸ n.isLt
  have same : (⟨i.val + 1, inside⟩ : StepIndex) = n := Fin.ext next.symm
  unfold Chip.fallFrom
  rw [dif_pos inside, stepAt_live live, same]

theorem fallFrom_last (last : i.val = 1023) : c.fallFrom i due = .finish 0 due := by
  unfold Chip.fallFrom
  rw [dif_neg (by omega)]

theorem jumpFrom_scene {scene : Nat} {n : Fin 16} (live : c.run.livePage = some k) (start : (c.pages[k]).scenes[n] = some t.val)
    (is : scene = n.val) : c.jumpFrom i due scene = .arrive t (due + max 1 (stepDelay (c.pages[k]).steps[t])) := by
  subst is
  rw [Chip.jumpFrom, sceneStart_start live start, ← stepAt_live live]

theorem counter_of {m : Nat} {q : Fin 4} (is : m = q.val) : c.counter m = c.run.counters[q] := by
  subst is
  exact dif_pos q.isLt

theorem setCounter_of {m v : Nat} {q : Fin 4} (is : m = q.val) :
    c.setCounter m v = { c with run.counters := c.run.counters.set q v } := by
  subst is
  exact dif_pos q.isLt

/-! ## Arrivals -/

theorem arrival_passed : c.arrival i due false underHold = c.fallFrom i due := rfl

/-- The kinds of step from which every cursor falls through. -/
def FallsThrough (underHold : Bool) (kind : StepKind) : Prop :=
  kind = .empty ∨ kind = .jet ∨ kind = .burst ∨ kind = .cut ∨ kind = .pump ∨ kind = .light ∨ kind = .loopSet ∨ kind = .mark ∨
    (kind = .resume ∧ underHold = false)

theorem arrival_falls (is : stepKind (c.stepAt i) = some kind) (falls : FallsThrough underHold kind) :
    c.arrival i due true underHold = c.fallFrom i due := by
  unfold Chip.arrival
  rw [if_pos rfl, is]
  rcases falls with rfl | rfl | rfl | rfl | rfl | rfl | rfl | rfl | ⟨rfl, rfl⟩ <;> rfl

theorem arrival_resume (is : stepKind (c.stepAt i) = some .resume) : c.arrival i due true true = .resumed := by
  unfold Chip.arrival
  rw [if_pos rfl, is]
  rfl

theorem arrival_end (is : stepKind (c.stepAt i) = some .endShow) :
    c.arrival i due true underHold = .finish (stepEndFade (c.stepAt i)) due := by
  unfold Chip.arrival
  rw [if_pos rfl, is]

theorem arrival_jump (is : stepKind (c.stepAt i) = some .jump) :
    c.arrival i due true underHold = c.jumpFrom i due (stepJumpScene (c.stepAt i)) := by
  unfold Chip.arrival
  rw [if_pos rfl, is]

theorem arrival_loop (is : stepKind (c.stepAt i) = some .loop) : c.arrival i due true underHold =
    if 2 ≤ c.counter (stepCounter (c.stepAt i)) then c.jumpFrom i due (stepLoopScene (c.stepAt i)) else c.fallFrom i due := by
  unfold Chip.arrival
  rw [if_pos rfl, is]

/-! ## The steps that move a cursor, and those that act on the show record -/

/-- The kinds of step that leave image, water and lamps, and those too that only move the cursor. -/
theorem stepEffect_record (is : stepKind raw = some kind)
    (moves : kind = .jump ∨ kind = .empty ∨ kind = .resume ∨ kind = .endShow ∨ kind = .loopSet ∨ kind = .loop ∨ kind = .mark) :
    c.stepEffect raw due = c.stepImage raw due := by
  unfold Chip.stepEffect Chip.stepWater
  rw [is]
  rcases moves with rfl | rfl | rfl | rfl | rfl | rfl | rfl <;> rfl

theorem stepEffect_moves (is : stepKind raw = some kind) (moves : kind = .jump ∨ kind = .empty ∨ kind = .resume ∨ kind = .endShow) :
    c.stepEffect raw due = c := by
  rw [stepEffect_record is (by tauto), Chip.stepImage, is]
  rcases moves with rfl | rfl | rfl | rfl <;> rfl

theorem stepEffect_loopSet {q : Fin 4} (is : stepKind raw = some .loopSet) (counter : stepCounter raw = q.val) :
    c.stepEffect raw due = { c with run.counters := c.run.counters.set q (stepLoopValue raw) } := by
  rw [stepEffect_record is (by tauto), Chip.stepImage, is]
  exact setCounter_of counter

theorem stepEffect_loop {q : Fin 4} (is : stepKind raw = some .loop) (counter : stepCounter raw = q.val) :
    c.stepEffect raw due = { c with run.counters := c.run.counters.set q (c.run.counters[q] - 1) } := by
  rw [stepEffect_record is (by tauto), Chip.stepImage, is, ← counter_of counter]
  exact setCounter_of counter

theorem stepEffect_mark (is : stepKind raw = some .mark) :
    c.stepEffect raw due = Chip.notify { c with run.lastMark := some (stepMark raw) } .mark := by
  rw [stepEffect_record is (by tauto), Chip.stepImage, is]

/-! ## A step under the main cursor -/

theorem executeMain_passed (stopped : c.stepActs (c.stepAt i) = false) (go : c.fallFrom i due = .arrive n e) :
    c.executeMain i due = c.placeMain n e := by
  rw [executeMain_arrive (by rw [stopped]; exact go), stopped]
  rfl

theorem executeMain_passedLast (stopped : c.stepActs (c.stepAt i) = false) (last : i.val = 1023) :
    c.executeMain i due = c.enterEnding 0 due := by
  rw [executeMain_finish (by rw [stopped]; exact fallFrom_last last), stopped]
  rfl

theorem executeMain_acts (acts : c.stepActs (c.stepAt i) = true) (go : c.arrival i due true false = .arrive n e) :
    c.executeMain i due = (c.stepEffect (c.stepAt i) due).placeMain n e := by
  rw [executeMain_arrive (by rw [acts]; exact go), if_pos acts]

theorem executeMain_end (acts : c.stepActs (c.stepAt i) = true) (is : stepKind (c.stepAt i) = some .endShow) :
    c.executeMain i due = c.enterEnding (stepEndFade (c.stepAt i)) due := by
  rw [executeMain_finish (by rw [acts]; exact arrival_end is), if_pos acts, stepEffect_moves is (by tauto)]

/-- Settles O16: the cursor's arrivals read off the step's kind, and each control step's effect beside them. -/
theorem cursorsArriveAndStepsAct : Obligations.CursorsArriveAndStepsAct := by
  refine ⟨fun c i due underHold k live => ?_, fun c i due k live => ?_⟩
  · refine ⟨fun n next => fallFrom_next live next, fallFrom_last, arrival_passed, fun kind is => ?_⟩
    rw [← stepAt_live live] at is ⊢
    refine ⟨arrival_falls is, ?_, ?_, fun n t start => ⟨?_, ?_⟩⟩
    · rintro rfl rfl
      exact arrival_resume is
    · rintro rfl
      exact arrival_end is
    · rintro rfl scene
      rw [arrival_jump is, jumpFrom_scene live start scene]
    · rintro rfl scene q counter
      rw [arrival_loop is, counter_of counter, jumpFrom_scene live start scene]
      exact ⟨fun more => if_pos more, fun done => if_neg (by omega)⟩
  · rw [← stepAt_live live]
    refine ⟨fun stopped => ⟨fun n e go => executeMain_passed stopped go, executeMain_passedLast stopped⟩, fun acts =>
      ⟨executeMain_end acts, fun n e go => ?_⟩⟩
    rw [executeMain_acts acts go]
    refine ⟨?_, fun q counter => ⟨fun is => ?_, fun is => ?_⟩, fun is => ?_⟩
    · rintro (is | is | is) <;> rw [stepEffect_moves is (by tauto)] <;> rfl
    · rw [stepEffect_loopSet is counter]
      rfl
    · rw [stepEffect_loop is counter]
      rfl
    · refine ⟨_, rfl, ?_, ?_⟩
      · rw [stepEffect_mark is]
        rfl
      · rw [stepEffect_mark is]
        exact noticed_notify (d := { c with
          run.lastMark := some (stepMark (c.stepAt i)), run.mainCursor := some n, run.mainDue := some e }) .mark rfl

end Sys2Proof.Proofs.DueSteps


/-! PROOF. The end of the music and the audio frame period (O21). -/

namespace Sys2Proof.Proofs.MusicPeriods

open Sys2Proof Sys2Proof.Machine Sys2Proof.Proofs.StepEffects Sys2Proof.Proofs.Water Sys2Proof.Proofs.FountainMoves
open Sys2Proof.Proofs.Links Sys2Proof.Proofs.Settling Sys2Proof.Proofs.Requests Sys2Proof.Proofs.ShowHeart
open Sys2Proof.Proofs.ClockTicks

variable {i : Instr} {s : State} {l : LinkId} {c d e before : Chip} {a : Playback} {k : ShowClock} {f fill now : Nat}

/-! ## AUDIO_END (R66, R69) -/

/-- The frames that AUDIO_END removes leave the music wholly buffered, so that no AUDIO_LOW is raised. -/
theorem audioCut_eq (ahead : c.playback.p ≤ f) : audioCut c f = { c with playback := musicCut c.playback f } := by
  refine if_neg ?_
  rintro ⟨-, full, cut, open_end⟩
  apply open_end
  show some f = some (c.playback.p + (c.playback.buffer.take (f - c.playback.p)).length)
  have cut : (c.playback.buffer.take (f - c.playback.p)).length < lowMark := cut
  have full : lowMark ≤ c.playback.buffer.length := full
  rw [List.length_take] at cut ⊢
  congr 1
  omega

theorem ruleAudioEnd_closed (closed : c.playback.state = .off ∨ c.playback.state = .finished) :
    ruleAudioEnd f true c = c.refuse .state := if_pos closed

theorem ruleAudioEnd_behind (loaded : ¬(c.playback.state = .off ∨ c.playback.state = .finished)) (behind : f < c.playback.p) :
    ruleAudioEnd f true c = c.refuse .badArg := by
  rw [ruleAudioEnd, if_neg loaded, if_pos (.inl behind)]

theorem ruleAudioEnd_cuts (loaded : ¬(c.playback.state = .off ∨ c.playback.state = .finished)) (ahead : c.playback.p ≤ f) :
    ruleAudioEnd f true c = if f = c.playback.p ∧ (c.playback.state = .playing ∨ c.playback.state = .starved) then
      Chip.taken (Chip.endOfMusic { c with playback := musicCut c.playback f })
    else Chip.taken { c with playback := musicCut c.playback f } := by
  have cut : ruleAudioEnd f true c = if f = (audioCut c f).playback.p ∧
      ((audioCut c f).playback.state = .playing ∨ (audioCut c f).playback.state = .starved) then (audioCut c f).endOfMusic.taken
      else (audioCut c f).taken := by
    rw [ruleAudioEnd, if_neg loaded, if_neg]
    · rfl
    · rintro (behind | short)
      exacts [absurd behind (Nat.not_lt.mpr ahead), nomatch short]
  rw [audioCut_eq ahead] at cut
  exact cut

/-! ## The frame of a period (R67, R68, R73) -/

section Frame

theorem framePlayed_is (a : Playback) :
    (framePlayed a).r = rampMove a.state a.r ∧
    (framePlayed a).held = (if a.state = .playing then a.buffer.headD a.held else a.held) ∧
    (framePlayed a).p = (if a.state = .playing ∨ a.state = .starved then a.p + 1 else a.p) ∧
    (framePlayed a).state = a.state ∧ (framePlayed a).endAt = a.endAt ∧
    (framePlayed a).buffer = (if a.state = .playing then a.buffer.tail else a.buffer) := by
  unfold framePlayed
  split <;> rename_i is <;> simp [is]

/-- The tests after a frame leave the ramp, the held sample and the position. -/
theorem frameTested_is (a : Playback) (k : ShowClock) (now : Nat) :
    (frameTested a k now).1.r = a.r ∧ (frameTested a k now).1.held = a.held ∧ (frameTested a k now).1.p = a.p ∧
      (frameTested a k now).1.p0 = a.p0 := by
  unfold frameTested musicOver
  split
  · split_ifs <;> exact ⟨rfl, rfl, rfl, rfl⟩
  · split_ifs <;> exact ⟨rfl, rfl, rfl, rfl⟩
  all_goals exact ⟨rfl, rfl, rfl, rfl⟩

theorem framePlayed_playing (is : a.state = .playing) : (framePlayed a).state = .playing ∧
    (framePlayed a).streamEnd = a.streamEnd ∧ (framePlayed a).p = a.p + 1 ∧ (framePlayed a).buffer = a.buffer.tail := by
  simp [framePlayed, is, Playback.streamEnd]

theorem framePlayed_starved (is : a.state = .starved) : (framePlayed a).state = .starved ∧
    (framePlayed a).streamEnd = a.streamEnd ∧ (framePlayed a).p = a.p + 1 := by
  simp [framePlayed, is, Playback.streamEnd]

theorem musicFramed_over (is : a.state = .playing ∨ a.state = .starved) (done : a.streamEnd ≤ a.p + 1) :
    (musicFramed a k now).1 = { framePlayed a with state := .finished, buffer := [] } := by
  rcases is with is | is
  · obtain ⟨state, streamEnd, position, -⟩ := framePlayed_playing is
    rw [musicFramed, frameTested, state]
    dsimp only
    rw [if_pos (by rw [streamEnd, position]; exact done)]
    rfl
  · obtain ⟨state, streamEnd, position⟩ := framePlayed_starved is
    rw [musicFramed, frameTested, state]
    dsimp only
    rw [if_pos (by rw [streamEnd, position]; exact done)]
    rfl

theorem musicFramed_playing (is : a.state = .playing) (more : a.p + 1 < a.streamEnd) :
    (musicFramed a k now).1 = { framePlayed a with state := if a.buffer.tail = [] then .starved else .playing } := by
  obtain ⟨state, streamEnd, position, buffer⟩ := framePlayed_playing is
  rw [musicFramed, frameTested, state]
  dsimp only
  rw [if_neg (by rw [streamEnd, position]; exact Nat.not_le.mpr more), Playback.fill, buffer]
  by_cases empty : a.buffer.tail = []
  · rw [if_pos (by rw [empty]; rfl), if_pos empty]
  · rw [if_neg (fun none => empty (List.eq_nil_of_length_eq_zero none)), if_neg empty, ← state, ← buffer]

theorem musicFramed_starved (is : a.state = .starved) (more : a.p + 1 < a.streamEnd) :
    (musicFramed a k now).1 = framePlayed a := by
  obtain ⟨state, streamEnd, position⟩ := framePlayed_starved is
  rw [musicFramed, frameTested, state]
  dsimp only
  rw [if_neg (by rw [streamEnd, position]; exact Nat.not_le.mpr more)]

theorem musicFramed_silent (is : a.state = .off ∨ a.state = .filling ∨ a.state = .held ∨ a.state = .finished) :
    (musicFramed a k now).1 = { a with r := rampMove a.state a.r } := by
  rcases is with is | is | is | is <;> simp [musicFramed, frameTested, framePlayed, is]

end Frame

/-! ## The frame's output and notices -/

theorem playFrame_dac (c : Chip) : c.playFrame.dac = outputFrame c.gain.applied (rampMove c.playback.state c.playback.r)
    (if c.playback.state = .playing then c.playback.buffer.headD c.playback.held else c.playback.held) := by
  unfold Chip.playFrame
  dsimp only
  split
  next is => rw [if_pos is]
  all_goals
    rename_i is
    rw [if_neg (by rw [is]; nofun)]

theorem testBuffer_dac (c : Chip) (fill : Nat) : (c.testBuffer fill).dac = c.dac := by
  unfold Chip.testBuffer
  split
  · split_ifs
    · rfl
    · rfl
    · unfold Chip.lowCrossing
      split <;> rfl
  · split <;> rfl
  all_goals rfl

theorem followPosition_dac (c : Chip) : c.followPosition.dac = c.dac := by
  unfold Chip.followPosition
  split <;> rfl

theorem testBuffer_noted (c : Chip) (fill : Nat) : Noted [.audioStarved, .audioLow] c (c.testBuffer fill) := by
  have low : Noted [.audioStarved, .audioLow] c (c.lowCrossing fill) := .ite (.notify (by simp) c) (.refl c)
  have starved : Noted [.audioStarved, .audioLow] c c.starve :=
    .trans (.of_links (d := { c with playback.state := .starved }) rfl) (.notify (by simp) _)
  unfold Chip.testBuffer
  split
  · exact .ite (.of_links rfl) (.ite starved low)
  · exact .ite (.of_links rfl) (.refl c)
  all_goals exact .refl c

theorem testBuffer_starves (is : c.playback.state = .playing) (more : c.playback.p < c.playback.streamEnd)
    (empty : c.playback.buffer = []) : c.testBuffer fill = c.starve := by
  unfold Chip.testBuffer
  rw [is]
  dsimp only
  rw [if_neg (Nat.not_le.mpr more), if_pos (by rw [Playback.fill, empty]; rfl)]

theorem testBuffer_low (is : c.playback.state = .playing) (more : c.playback.p < c.playback.streamEnd)
    (left : 0 < c.playback.fill) (low : c.playback.fill < lowMark) (before : lowMark ≤ fill)
    (open_end : c.playback.endAt ≠ some c.playback.tail) : c.testBuffer fill = c.notify .audioLow := by
  unfold Chip.testBuffer
  rw [is]
  dsimp only
  rw [if_neg (Nat.not_le.mpr more), if_neg (Nat.ne_of_gt left)]
  exact if_pos ⟨is, before, low, open_end⟩

/-- The part once the frame has been played and the clock has followed. -/
def framed (c : Chip) : Chip := c.playFrame.followPosition

theorem framePeriod_eq (c : Chip) : c.framePeriod = (framed c).testBuffer c.playback.fill := rfl

theorem framed_playback (c : Chip) : (framed c).playback = framePlayed c.playback := by
  have followed : (framed c).playback = c.playFrame.playback := congrArg Heart.playback (followPosition_heart c.playFrame)
  rw [followed]
  exact congrArg Heart.playback (playFrame_heart c)

theorem framed_noted (c : Chip) : Noted [.audioStarved, .audioLow] c (framed c) :=
  .of_links ((show c.playFrame.followPosition.links = c.playFrame.links by unfold Chip.followPosition; split <;> rfl).trans
    (playFrame_links (c := c)))

theorem framePeriod_noted (c : Chip) : Noted [.audioStarved, .audioLow] c c.framePeriod :=
  (framed_noted c).trans (testBuffer_noted _ _)

theorem framePeriod_dac (c : Chip) : c.framePeriod.dac = c.playFrame.dac := (testBuffer_dac _ _).trans (followPosition_dac _)

theorem framePeriod_playback (c : Chip) : c.framePeriod.playback = (musicFramed c.playback c.clock c.now).1 :=
  congrArg Heart.playback (framePeriod_heart c)

/-- The last frame of the buffer leaves the music starved. -/
theorem framePeriod_starves (is : c.playback.state = .playing) (more : c.playback.p + 1 < c.playback.streamEnd)
    (empty : c.playback.buffer.tail = []) (m : LinkId) : .audioStarved ∈ (c.framePeriod.links[m]).notices := by
  obtain ⟨state, streamEnd, position, buffer⟩ := framePlayed_playing is
  rw [← framed_playback] at state streamEnd position buffer
  rw [framePeriod_eq, testBuffer_starves state (by rw [streamEnd, position]; exact more) (by rw [buffer, empty])]
  exact notify_heard _ _ m

/-- The fill falls below the low mark. -/
theorem framePeriod_low (is : c.playback.state = .playing) (more : c.playback.p + 1 < c.playback.streamEnd)
    (mark : c.playback.buffer.length = 4800) (open_end : c.playback.endAt ≠ some (c.playback.p + 4800)) (m : LinkId) :
    .audioLow ∈ (c.framePeriod.links[m]).notices := by
  obtain ⟨state, streamEnd, position, buffer⟩ := framePlayed_playing is
  have endAt := (framePlayed_is c.playback).2.2.2.2.1
  rw [← framed_playback] at state streamEnd position buffer endAt
  have left : (framed c).playback.fill = 4799 := by
    rw [Playback.fill, buffer, List.length_tail, mark]
  have low : (framed c).playback.fill < lowMark := by
    rw [left]
    show 4799 < 4800
    omega
  have full : lowMark ≤ c.playback.fill := Nat.le_of_eq mark.symm
  have tail : (framed c).playback.tail = c.playback.p + 4800 := by
    rw [Playback.tail, left, position]
  rw [framePeriod_eq, testBuffer_low state (by rw [streamEnd, position]; exact more) (by omega) low full
    (by rw [endAt, tail]; exact open_end)]
  exact notify_heard _ _ m

/-! ## What the sound keeps while steps execute -/

/-- What goes out, and what the music's place rests on. -/
def sound (c : Chip) : AudioFrame × GainRecord × Nat × AudioFrame × Nat × Nat :=
  (c.dac, c.gain, c.playback.r, c.playback.held, c.playback.p, c.playback.p0)

/-- The sound stands. -/
def SoundStands (c d : Chip) : Prop := sound d = sound c

namespace SoundStands

theorem refl (c : Chip) : SoundStands c c := rfl
theorem trans (h : SoundStands c d) (k : SoundStands d e) : SoundStands c e := Eq.trans k h
theorem ite {p : Prop} [Decidable p] (h : SoundStands c d) (k : SoundStands c e) : SoundStands c (if p then d else e) := by
  split <;> assumption
theorem water (h : c.WaterOnly d) : SoundStands c d := by
  rw [SoundStands, h.1]
  rfl
theorem lamps (h : c.LampsOnly d) : SoundStands c d := by
  rw [SoundStands, h]
  rfl
theorem run (c : Chip) (r : ShowRecord) : SoundStands c { c with run := r } := rfl
theorem image (c : Chip) (m : ShowImage) : SoundStands c { c with image := m } := rfl
theorem notify (c : Chip) (n : Notice) : SoundStands c (c.notify n) := rfl

end SoundStands

section Steps

variable (c : Chip)

theorem stepImage_sound (raw : RawStep) (due : Nat) : SoundStands c (c.stepImage raw due) := by
  have counter (n v : Nat) : SoundStands c (c.setCounter n v) := by
    unfold Chip.setCounter
    split
    · exact .run c _
    · exact .refl c
  unfold Chip.stepImage
  split
  · exact .image c _
  · exact .image c _
  · exact .image c _
  · split
    · exact .image c _
    · exact .refl c
  · exact .lamps (Chip.fadeShow_lamps c _ _ _ _ _)
  · exact counter _ _
  · exact counter _ _
  · exact (SoundStands.run c _).trans (.notify _ _)
  all_goals exact .refl c

theorem expireBursts_sound : SoundStands c c.expireBursts := (SoundStands.image c _).trans (.water (Chip.expireJetBursts_water _))

theorem stepWater_sound (raw : RawStep) (due : Nat) : SoundStands c (c.stepWater raw due) := by
  unfold Chip.stepWater
  split
  · exact .water ((Chip.demandWrites_water c _ _ _).trans (Chip.endEvent_water _))
  · extract_lets finish d
    have written : SoundStands c d := .water (.forEach fun j e => Chip.demandWrite_water e _ _ _ j)
    exact .trans (.ite (written.trans (expireBursts_sound d)) written) (.water (Chip.endEvent_water _))
  · exact .water ((Chip.cutJets_water c _).trans (Chip.endEvent_water _))
  · split
    · exact .water (.trans (.forEach fun p e => Chip.drive_water e _ p) (Chip.endEvent_water _))
    · exact .refl c
  all_goals exact .refl c

theorem stepEffect_sound (raw : RawStep) (due : Nat) : SoundStands c (c.stepEffect raw due) :=
  (stepImage_sound c raw due).trans (stepWater_sound _ raw due)

theorem endAudio_sound : SoundStands c c.endAudio := by
  unfold SoundStands sound Chip.endAudio
  dsimp only
  split <;> rfl

theorem enterEnding_sound (fade origin : Nat) : SoundStands c (c.enterEnding fade origin) := by
  rw [enterEnding_eq]
  have faded : SoundStands c (c.fadeOut origin fade) := .lamps (Chip.fadeOut_lamps c origin fade)
  generalize c.fadeOut origin fade = d at faded
  have shut : SoundStands (endingRecorded d) (shutDown (endingRecorded d)) :=
    .water (((Chip.demandWrites_water _ _ _ _).trans
      (.forEach fun p x => (Chip.updPump_water x p _).trans (Chip.stopRequest_water _ p))).trans (Chip.endEvent_water _))
  exact ((faded.trans (.trans (d := endingRecorded d) rfl shut)).trans (endAudio_sound _)).trans (.notify _ _)

theorem catchUpStep_sound (w : Written) (i : StepIndex) (due : Nat) : SoundStands c (c.catchUpStep w i due).1 := by
  unfold Chip.catchUpStep
  extract_lets raw acts d w
  have imaged : SoundStands c d := .ite (stepImage_sound c raw due) (.refl c)
  split
  · exact imaged.trans (.run d _)
  · exact imaged.trans (enterEnding_sound d _ _)
  · exact imaged

theorem catchUpRun_sound (fuel : Nat) (w : Written) : SoundStands c (Chip.catchUpRun fuel c w).1 := by
  induction fuel generalizing c w with
  | zero => exact .refl c
  | succ n ih =>
    unfold Chip.catchUpRun
    split
    · split
      · exact (catchUpStep_sound c w _ _).trans (ih _ _)
      · exact .refl c
    · exact .refl c

theorem catchUp_sound : SoundStands c c.catchUp := by
  unfold Chip.catchUp
  extract_lets x
  have ran : SoundStands c x.1 := catchUpRun_sound c _ _
  exact .ite ran (ran.trans (.water (Chip.handOver_water _ _)))

theorem executeMain_sound (i : StepIndex) (due : Nat) : SoundStands c (c.executeMain i due) := by
  unfold Chip.executeMain
  extract_lets raw acts d
  have done : SoundStands c d := .ite (stepEffect_sound c raw due) (.refl c)
  split
  · exact done.trans (.run d _)
  · exact done.trans (enterEnding_sound d _ _)
  · exact done

theorem executeHold_sound (i : StepIndex) (due : Nat) : SoundStands c (c.executeHold i due) := by
  unfold Chip.executeHold
  extract_lets raw acts d
  have done : SoundStands c d := .ite (stepEffect_sound c raw due) (.refl c)
  split
  · exact done.trans (.run d _)
  · exact done.trans (enterEnding_sound d _ _)
  · exact (done.trans ((SoundStands.run d _).trans (.notify _ _))).trans (catchUp_sound _)

theorem runSteps_sound : SoundStands c c.runSteps :=
  Chip.runCursors_keeps (P := SoundStands c) _ _ (fun d i due stands _ _ _ _ => stands.trans (executeMain_sound d i due))
    (fun d i due stands _ _ _ _ => stands.trans (executeHold_sound d i due)) (.refl c)

theorem clockTook_sound : SoundStands c c.clockTook := .ite ((expireBursts_sound c).trans (runSteps_sound _)) (.refl c)

theorem resumeAudio_sound : SoundStands c c.resumeAudio := .ite (.refl c) (.ite rfl (.ite rfl rfl))

theorem endRestore_sound : SoundStands c c.endRestore :=
  .trans (d := Chip.startClock (Chip.notify { c with
    run := { c.run with cue := .running }, mode := { c.mode with restore := none } } .showState)) rfl (resumeAudio_sound _)

theorem toMode_sound (m : FountainMode) : SoundStands c (c.toMode m) := .ite (.refl c) rfl

theorem releasePage_sound : SoundStands c c.releasePage := by
  unfold Chip.releasePage
  split <;> rfl

theorem completeEnding_sound : SoundStands c c.completeEnding := by
  have closed : SoundStands c c.closeShow := (releasePage_sound c).trans rfl
  exact ((closed.trans (d := c.closeShow) (e := c.closeShow.stopClock) rfl).trans (.lamps (Chip.darkenShow_lamps _))).trans
    (toMode_sound _ _)

theorem calm_sound (h : Calm c d) : SoundStands c d := by
  rw [SoundStands, h.frame]
  rfl

theorem settle_sound (before : Chip) : SoundStands c (Chip.settle before c) := by
  have restore : SoundStands c c.testRestore := .ite (endRestore_sound c) (.refl c)
  have ending : SoundStands c.testRestore c.testRestore.testEnding := .ite (completeEnding_sound _) (.refl _)
  rw [settle_eq]
  exact (restore.trans ending).trans
    (calm_sound _ (((testFlush_calm _).trans (testPower_calm _)).trans (testDormancy_calm _ before)))

end Steps

/-! ## The period -/

theorem takePeriod_is (c : Chip) : c.takePeriod = { c with
    gainPeriods := min gainSpacing (c.gainPeriods + 1), now := c.takePeriod.now, framesLeft := c.takePeriod.framesLeft
    hydTimer := c.takePeriod.hydTimer, lampTimer := c.takePeriod.lampTimer, circ := c.takePeriod.circ
    sense := c.takePeriod.sense } := by
  unfold Chip.takePeriod
  split <;> rfl

/-- The part after the frame of a period, before the steps that its value of the clock makes due. -/
def periodPlayed (c : Chip) : Chip := c.takePeriod.framePeriod

theorem audioPeriod_eq (c : Chip) : c.audioPeriod =
    if (periodPlayed c).clock.value = c.clock.value then periodPlayed c else c.settle (periodPlayed c).clockTook := rfl

theorem periodPlayed_playback (c : Chip) :
    (periodPlayed c).playback = (musicFramed c.playback c.clock c.takePeriod.now).1 ∧
      (periodPlayed c).clock = (musicFramed c.playback c.clock c.takePeriod.now).2 := by
  have taken := takePeriod_is c
  have heart := framePeriod_heart c.takePeriod
  have playback : c.takePeriod.playback = c.playback := by rw [taken]
  have clock : c.takePeriod.clock = c.clock := by rw [taken]
  rw [playback, clock] at heart
  exact ⟨congrArg Heart.playback heart, congrArg Heart.clock heart⟩

/-- The sound after the frame of a period (R67, R73, R75). -/
theorem periodPlayed_sound (c : Chip) : sound (periodPlayed c) =
    (outputFrame c.gain.applied (rampMove c.playback.state c.playback.r)
        (if c.playback.state = .playing then c.playback.buffer.headD c.playback.held else c.playback.held),
      c.gain, rampMove c.playback.state c.playback.r,
      (if c.playback.state = .playing then c.playback.buffer.headD c.playback.held else c.playback.held),
      (if c.playback.state = .playing ∨ c.playback.state = .starved then c.playback.p + 1 else c.playback.p),
      (framePlayed c.playback).p0) := by
  obtain ⟨ramp, held, position, -⟩ := framePlayed_is c.playback
  obtain ⟨ramp', held', position', origin'⟩ :=
    frameTested_is (framePlayed c.playback) (clockFollowed (framePlayed c.playback) c.clock) c.takePeriod.now
  have taken := takePeriod_is c
  have playback : c.takePeriod.playback = c.playback := by rw [taken]
  have gain : c.takePeriod.gain = c.gain := by rw [taken]
  have gain' : (periodPlayed c).gain = c.gain := (Chip.framePeriod_audio c.takePeriod).gain.trans gain
  have dac : (periodPlayed c).dac = _ := (framePeriod_dac c.takePeriod).trans (playFrame_dac c.takePeriod)
  rw [playback, gain] at dac
  rw [sound, dac, gain', (periodPlayed_playback c).1]
  show (_, _, (frameTested _ _ _).1.r, (frameTested _ _ _).1.held, (frameTested _ _ _).1.p, (frameTested _ _ _).1.p0) = _
  rw [ramp', held', position', origin', ramp, held, position]

theorem periodPlayed_value (c : Chip) : (periodPlayed c).clock.value =
    if c.clock.source = .audio ∧ c.clock.running = true then
      min clockTop (((periodPlayed c).playback.p - (periodPlayed c).playback.p0) / 48) else c.clock.value := by
  obtain ⟨-, -, value⟩ := clockFollowed_eq (framePlayed c.playback) c.clock
  obtain ⟨-, -, position, origin⟩ :=
    frameTested_is (framePlayed c.playback) (clockFollowed (framePlayed c.playback) c.clock) c.takePeriod.now
  rw [(periodPlayed_playback c).1, (periodPlayed_playback c).2]
  show (frameTested _ _ _).2.value = if _ then min clockTop (((frameTested _ _ _).1.p - (frameTested _ _ _).1.p0) / 48) else _
  rw [(frameTested_clock _ _ _).2, value, position, origin]
  rfl

/-- The sound and the clock's value stand as the frame has left them, whatever steps it makes due. -/
theorem audioPeriod_sound (c : Chip) :
    sound c.audioPeriod = sound (periodPlayed c) ∧ c.audioPeriod.clock.value = (periodPlayed c).clock.value := by
  rw [audioPeriod_eq]
  split
  · exact ⟨rfl, rfl⟩
  · exact ⟨(clockTook_sound _).trans (settle_sound _ _), settled_value _ _⟩

/-- A period leaves what is not the sound's, the clock's or the timebase's. -/
theorem periodPlayed_is (c : Chip) : periodPlayed c = { c with
    playback := (periodPlayed c).playback, clock := (periodPlayed c).clock, dac := (periodPlayed c).dac
    links := (periodPlayed c).links, now := (periodPlayed c).now, gainPeriods := min 48 (c.gainPeriods + 1)
    framesLeft := (periodPlayed c).framesLeft, hydTimer := (periodPlayed c).hydTimer
    lampTimer := (periodPlayed c).lampTimer, circ := (periodPlayed c).circ, sense := (periodPlayed c).sense } := by
  have played := (Chip.framePeriod_audio c.takePeriod).1
  have taken := takePeriod_is c
  unfold periodPlayed
  generalize c.takePeriod.framePeriod = e at played
  generalize c.takePeriod = d at played taken
  rw [played, taken]
  rfl

theorem periodPlayed_noted (c : Chip) : Noted [.audioStarved, .audioLow] c (periodPlayed c) :=
  .trans (.of_links (by rw [takePeriod_is c])) (framePeriod_noted c.takePeriod)

/-- Settles O21: AUDIO_END's tests in order; and a period's frame, whose sound stands through the steps it makes due. -/
theorem thePlaybackRunsToItsEnd : Obligations.ThePlaybackRunsToItsEnd := by
  refine ⟨fun s l f heard => ?_, ?_⟩
  · have reacts : Reacts (.audioEnd l f) s l 14 (ruleAudioEnd f true) := reacts_of_hears rfl rfl heard
    refine ⟨fun closed => reacts.refuses (ruleAudioEnd_closed closed), fun on open_end => ?_⟩
    have loaded : ¬(s.chip.playback.state = .off ∨ s.chip.playback.state = .finished) := by
      rintro (is | is)
      exacts [on is, open_end is]
    refine ⟨fun behind => reacts.refuses (ruleAudioEnd_behind loaded behind), fun ahead => ⟨fun goes_on => ?_, fun at_ sounds => ?_⟩⟩
    · refine reacts.answers ((ruleAudioEnd_cuts loaded ahead).trans (if_neg ?_))
      rintro ⟨at_, sounds⟩
      rcases goes_on with off | off | off
      · exact off at_
      all_goals rcases sounds with is | is <;> cases off.symm.trans is
    · have ended := (ruleAudioEnd_cuts loaded ahead).trans (if_pos ⟨at_, sounds⟩)
      exact reacts.answers ended
  · intro s free a is r ramp f frame
    subst is
    obtain ⟨stands, value⟩ := audioPeriod_sound s.chip
    have played := periodPlayed_sound s.chip
    rw [show rampMove s.chip.playback.state s.chip.playback.r = r from ramp.symm, ← frame] at played
    have sounds := stands.trans played
    simp only [sound, Prod.mk.injEq] at sounds
    obtain ⟨dac, gain, ramp', held, position, -⟩ := sounds
    refine ⟨s.chip.audioPeriod, event_next (f := Chip.audioPeriod) rfl free rfl, ramp', held, dac, gain, position, ?_, fun still => ?_⟩
    · simp only [sound, Prod.mk.injEq] at stands
      obtain ⟨-, -, -, -, p, p0⟩ := stands
      rw [value, periodPlayed_value, p, p0]
      rfl
    · have alone : s.chip.audioPeriod = periodPlayed s.chip := (audioPeriod_eq s.chip).trans (if_pos (value.symm.trans still))
      rw [alone]
      have taken : s.chip.takePeriod.playback = s.chip.playback := by rw [takePeriod_is s.chip]
      refine ⟨periodPlayed_is s.chip, ?_, fun is => ⟨fun done => ?_, fun more => ⟨?_, fun empty => ⟨?_, ?_⟩, fun left => ⟨?_, ?_⟩⟩⟩,
        fun is => ?_, fun is => ?_⟩
      · exact noticed_of_noted (periodPlayed_noted s.chip) (by simp) fun n mem => .inr mem
      · rw [(periodPlayed_playback s.chip).1, musicFramed_over (.inl is) done]
        exact ⟨rfl, rfl⟩
      · rw [(periodPlayed_playback s.chip).1, musicFramed_playing is more]
        exact (framePlayed_playing is).2.2.2
      · rw [(periodPlayed_playback s.chip).1, musicFramed_playing is more]
        exact if_pos empty
      · exact framePeriod_starves (c := s.chip.takePeriod) (by rw [taken]; exact is) (by rw [taken]; exact more)
          (by rw [taken]; exact empty)
      · rw [(periodPlayed_playback s.chip).1, musicFramed_playing is more]
        exact if_neg left
      · intro mark open_end
        exact framePeriod_low (c := s.chip.takePeriod) (by rw [taken]; exact is) (by rw [taken]; exact more)
          (by rw [taken]; exact mark) (by rw [taken]; exact open_end)
      · rw [(periodPlayed_playback s.chip).1]
        split
        next done => rw [musicFramed_over (.inr is) done]
        next more =>
          rw [musicFramed_starved is (Nat.not_le.mp more), (framePlayed_is _).2.2.2.1]
          exact is
      · rw [(periodPlayed_playback s.chip).1, musicFramed_silent is]
        exact ⟨rfl, rfl⟩

end Sys2Proof.Proofs.MusicPeriods


/-! PROOF. The lamp frame and the power cap (O49). -/

namespace Sys2Proof.Proofs.LampFrame

open Sys2Proof Sys2Proof.Machine Sys2Proof.Proofs.StepEffects Sys2Proof.Proofs.Water Sys2Proof.Proofs.FountainMoves
open Sys2Proof.Proofs.Links Sys2Proof.Proofs.Settling Sys2Proof.Proofs.ShowHeart

variable {s : State} {c d e before : Chip} {i : Fin 128} {u : LumId} {cap sum : Nat}

/-! ## The power cap (R137) -/

/-- Values scaled by `cap / sum`, each rounded down, do not add up to more than `cap`. -/
theorem sum_scaled_le (xs : List Nat) (is : xs.sum = sum) : (xs.map fun x => x * cap / sum).sum ≤ cap := by
  rcases Nat.eq_zero_or_pos sum with none | some
  · have zero : (xs.map fun x => x * cap / sum) = xs.map fun _ => 0 := by simp [none]
    rw [zero, List.sum_map_zero]
    exact Nat.zero_le cap
  · refine Nat.le_of_mul_le_mul_right (c := sum) ?_ some
    calc (xs.map fun x => x * cap / sum).sum * sum
        = (xs.map fun x => x * cap / sum * sum).sum := (List.sum_map_mul_right ..).symm
      _ ≤ (xs.map fun x => x * cap).sum := List.sum_le_sum fun x _ => Nat.div_mul_le_self _ _
      _ = (xs.map id).sum * cap := List.sum_map_mul_right ..
      _ = cap * sum := by rw [List.map_id, is, Nat.mul_comm]

theorem sum_underCap_le (xs : List Nat) (is : xs.sum = sum) : (xs.map (underCap cap sum)).sum ≤ cap := by
  by_cases within : sum ≤ cap
  · have same : xs.map (underCap cap sum) = xs := by
      have each : underCap cap sum = id := funext fun x => if_pos within
      rw [each, List.map_id]
    rw [same, is]
    exact within
  · have scaled : underCap cap sum = fun x => x * cap / sum := funext fun x => if_neg within
    rw [scaled]
    exact sum_scaled_le xs is

theorem cappedOutputs_get (c : Chip) (i : Fin 128) :
    c.cappedOutputs[i] = underCap c.limits.site.cap c.gatedSum (c.gated i) := Vector.getElem_ofFn _

theorem cappedOutputs_le (c : Chip) : c.cappedOutputs.toList.sum ≤ c.limits.site.cap := by
  have shape : c.cappedOutputs = Vector.ofFn fun i => underCap c.limits.site.cap c.gatedSum (c.gated i) := rfl
  have is : ((List.finRange 128).map c.gated).sum = c.gatedSum := rfl
  generalize c.gatedSum = sum at shape is
  rw [shape, Vector.toList_ofFn, List.ofFn_eq_map]
  have listed := sum_underCap_le (cap := c.limits.site.cap) _ is
  rwa [List.map_map] at listed

theorem frameOutputs_dark (h : c.mode.mode = .dormant ∨ c.mode.mode = .tripped) : c.frameOutputs = darkOutputs := by
  unfold Chip.frameOutputs
  rcases h with h | h <;> rw [h]

theorem frameOutputs_capped (h : ¬(c.mode.mode = .dormant ∨ c.mode.mode = .tripped)) : c.frameOutputs = c.cappedOutputs := by
  unfold Chip.frameOutputs
  split
  · rfl
  · rfl
  · rfl
  · rfl
  · exact absurd (.inr ‹_›) h
  · exact absurd (.inl ‹_›) h

theorem frameOutputs_le (c : Chip) : c.frameOutputs.toList.sum ≤ c.limits.site.cap := by
  by_cases dark : c.mode.mode = .dormant ∨ c.mode.mode = .tripped
  · rw [frameOutputs_dark dark, darkOutputs, Vector.toList_replicate, List.sum_replicate, smul_zero]
    exact Nat.zero_le _
  · rw [frameOutputs_capped dark]
    exact cappedOutputs_le c

/-! ## The gates and the crossfades (R136, R140) -/

theorem moveGates_lum (c : Chip) (u : LumId) : c.moveGates.lums[u] = { c.lums[u] with gate := c.gateMove u } := Vector.getElem_ofFn _

theorem moveGates_is (c : Chip) : ∃ ls : Vector Luminaire 32, c.moveGates = { c with lums := ls } := ⟨_, rfl⟩

/-- Moving the gates leaves the pre-gate levels. -/
theorem moveGates_preGate (c : Chip) (i : Fin 128) : c.moveGates.preGate i = c.preGate i := by
  have moved := moveGates_lum c (lumOf i)
  obtain ⟨ls, is⟩ := moveGates_is c
  rw [is] at moved ⊢
  rw [Chip.preGate, Chip.preGate, moved]
  rfl

theorem moveGates_gated (c : Chip) (i : Fin 128) : c.moveGates.gated i = c.preGate i * c.gateMove (lumOf i) / 256 := by
  rw [Chip.gated, moveGates_preGate, moveGates_lum]

/-- A luminaire after its crossfade has been tested at the moment `now`. -/
def crossfaded (now : Nat) (x : Luminaire) : Luminaire :=
  match x.crossfade with
  | some y => if crossfadeTime ≤ now - y.origin then { x with crossfade := none, active := .showLayer } else x
  | none => x

theorem endCrossfades_lum (c : Chip) (u : LumId) : c.endCrossfades.lums[u] = crossfaded c.now (c.lums[u]) := Vector.getElem_ofFn _

theorem crossfaded_gate (now : Nat) (x : Luminaire) : (crossfaded now x).gate = x.gate := by
  unfold crossfaded
  split
  · split <;> rfl
  · rfl

theorem lampFrame_is (c : Chip) : c.lampFrame = { c.moveGates.endCrossfades with
    outputs := c.moveGates.frameOutputs, lampLine := if c.mode.mode = .dormant then c.lampLine else some c.moveGates.frameOutputs
    lampTimer := 0 } := rfl

theorem lampFrame_panel (c : Chip) : c.lampFrame.panelLayer = c.panelLayer := by
  obtain ⟨moved, is_moved⟩ := moveGates_is c
  have ended (d : Chip) : ∃ ls : Vector Luminaire 32, d.endCrossfades = { d with lums := ls } := ⟨_, rfl⟩
  obtain ⟨ls, is_ended⟩ := ended c.moveGates
  rw [lampFrame_is, is_ended, is_moved]

/-- The lamp frame on a luminaire. -/
theorem lampFrame_lum (c : Chip) (u : LumId) : c.lampFrame.lums[u] = crossfaded c.now { c.lums[u] with gate := c.gateMove u } := by
  have lum : c.lampFrame.lums[u] = c.moveGates.endCrossfades.lums[u] := by rw [lampFrame_is]
  rw [lum, endCrossfades_lum, moveGates_lum, (Chip.moveGates_lamps c).now]

theorem lampFrame_gate (c : Chip) (u : LumId) : (c.lampFrame.lums[u]).gate = c.gateMove u := by
  rw [lampFrame_lum]
  exact crossfaded_gate _ _

theorem lampFrame_outputs (c : Chip) : c.lampFrame.outputs = c.moveGates.frameOutputs := by rw [lampFrame_is]

/-! ## What the tests that follow leave of the lamps -/

/-- The panel layer, the luminaires, the outputs, the lamp line and the lamp timer. -/
def lit (c : Chip) : Vector Fade 128 × Vector Luminaire 32 × Vector Nat 128 × Option (Vector Nat 128) × Nat :=
  (c.panelLayer, c.lums, c.outputs, c.lampLine, c.lampTimer)

/-- The end of a restore pass and of a show, and the flush that may begin, leave them. -/
theorem settle_lit (before c : Chip) : lit (Chip.settle before c) = lit c := by
  have toMode (m : FountainMode) (e : Chip) : lit (e.toMode m) = lit e := by
    unfold Chip.toMode
    split <;> rfl
  have resumed (e : Chip) : lit e.resumeAudio = lit e := by
    have audio := Chip.resumeAudio_audio e
    rw [lit, audio.panelLayer, audio.lums, audio.outputs, audio.lampLine, audio.lampTimer]
    rfl
  have restore : lit c.testRestore = lit c := by
    unfold Chip.testRestore
    split
    · exact resumed _
    · rfl
  have closed (e : Chip) : lit e.closeShow = lit e := by
    unfold Chip.closeShow Chip.releasePage
    split <;> rfl
  have ending : lit c.testRestore.testEnding = lit c.testRestore := by
    generalize c.testRestore = e
    unfold Chip.testEnding
    split
    · exact (toMode _ _).trans (closed e)
    · rfl
  rw [settle_eq, (((testFlush_calm _).trans (testPower_calm _)).trans (testDormancy_calm _ before)).frame]
  exact ending.trans restore

/-- The part at a lamp frame, before the tests that follow. -/
def lampFramed (c : Chip) : Chip := (c.advance (25 - c.lampTimer)).lampFrame

theorem frameReached_lit (c : Chip) : lit c.frameReached = lit (lampFramed c) := settle_lit c _

theorem frameReached_run (free : s.chip.resetHeld = false) : exec .lampFrame s = .next { s with chip := s.chip.frameReached } :=
  event_next (f := Chip.frameReached) rfl free rfl

/-- The tests after the frame leave the lamps, the limit table and the gains. -/
theorem frameReached_lamps (c : Chip) : c.frameReached.panelLayer = (lampFramed c).panelLayer ∧
    c.frameReached.lums = (lampFramed c).lums ∧ c.frameReached.outputs = (lampFramed c).outputs ∧
    c.frameReached.lampLine = (lampFramed c).lampLine ∧ c.frameReached.lampTimer = (lampFramed c).lampTimer ∧
    c.frameReached.limits = c.limits ∧ c.frameReached.gain = c.gain := by
  have lamps := frameReached_lit c
  simp only [lit, Prod.mk.injEq] at lamps
  obtain ⟨panel, lums, outputs, line, timer⟩ := lamps
  have settled := Chip.settle_fountain (lampFramed c) c
  have framed := Chip.lampFrame_lamps (c.advance (25 - c.lampTimer))
  exact ⟨panel, lums, outputs, line, timer, settled.limits.trans framed.limits, settled.gain.trans framed.gain⟩

/-- The frame's outputs, in terms of the gates as it leaves them. -/
theorem lampFrame_output (c : Chip) (i : Fin 128) (is : sum = ((List.finRange 128).map c.moveGates.gated).sum) :
    c.lampFrame.outputs[i] = if c.mode.mode = .dormant ∨ c.mode.mode = .tripped then 0
      else if sum ≤ c.limits.site.cap then c.moveGates.gated i else c.moveGates.gated i * c.limits.site.cap / sum := by
  have moved := Chip.moveGates_lamps c
  rw [lampFrame_outputs]
  by_cases dark : c.mode.mode = .dormant ∨ c.mode.mode = .tripped
  · rw [if_pos dark, frameOutputs_dark (by rw [moved.mode]; exact dark)]
    exact Vector.getElem_replicate _
  · rw [if_neg dark, frameOutputs_capped (by rw [moved.mode]; exact dark), cappedOutputs_get, moved.limits, is]
    rfl

/-- Settles O49: what the tests after the frame leave of the lamps, and the cap on the sum of floors. -/
theorem theLampFrameHoldsThePowerCap : Obligations.TheLampFrameHoldsThePowerCap := by
  refine ⟨?_, fun c i => ⟨fun within => ?_, fun beyond => ?_⟩, fun s free => ⟨_, frameReached_run free, ?_⟩⟩
  · rintro s free c is
    obtain ⟨panel, lums, outputs, line, timer, limits, gain⟩ := frameReached_lamps s.chip
    have framed : lampFramed s.chip = c.lampFrame := by rw [is]; rfl
    rw [framed] at panel lums outputs line timer
    have lum (u : LumId) : (s.chip.frameReached.lums[u]) = crossfaded c.now { s.chip.lums[u] with gate := c.gateMove u } := by
      rw [lums, lampFrame_lum, is]
      rfl
    have gate (u : LumId) : (s.chip.frameReached.lums[u]).gate = c.gateMove u := by rw [lum, crossfaded_gate]
    have gated (k : Fin 128) : c.preGate k * (s.chip.frameReached.lums[lumOf k]).gate / 256 = c.moveGates.gated k := by
      rw [gate, moveGates_gated]
    refine ⟨_, frameReached_run free, timer, fun u => ⟨?_, ?_⟩, fun i sum total => ?_, ?_, ?_, limits, gain⟩
    · have limits : c.limits = s.chip.limits := by rw [is]; rfl
      have jets : c.jets = s.chip.jets := by rw [is]; rfl
      have gates : c.lums = s.chip.lums := by rw [is]; rfl
      rw [gate]
      unfold Chip.gateMove
      dsimp only
      rw [limits, jets, gates]
      cases s.chip.limits.lums[u].coupling with
      | none => rfl
      | gate => cases s.chip.limits.lums[u].jet <;> rfl
    · rw [lum]
      unfold crossfaded
      dsimp only
      split
      next x fading =>
        rw [apply_ite (fun y : Luminaire => (y.active, y.crossfade))]
        dsimp only
        rw [fading]
        rfl
      next steady => rw [steady]
    · simp only [gated] at total ⊢
      rw [outputs, lampFrame_output c i total, is]
      rfl
    · rw [line, outputs, lampFrame_outputs, lampFrame_is, is]
      rfl
    · rw [panel, lampFrame_panel, is]
      rfl
  · rw [cappedOutputs_get, underCap, if_pos within]
  · rw [cappedOutputs_get, underCap, if_neg (Nat.not_le.mpr beyond)]
  · obtain ⟨-, -, outputs, -, -, -, -⟩ := frameReached_lamps s.chip
    rw [outputs]
    exact frameOutputs_le _

end Sys2Proof.Proofs.LampFrame


/-! PROOF. The hydraulic update (O46). -/

namespace Sys2Proof.Proofs.Hydraulics

open Sys2Proof Sys2Proof.Machine Sys2Proof.Proofs.StepEffects Sys2Proof.Proofs.Water Sys2Proof.Proofs.Links
open Sys2Proof.Proofs.FountainMoves

variable {s : State} {c : Chip} {j : JetId} {p : PumpId} {lo hi x up down target a : Nat}

/-! ## Bounds -/

theorem clampTo_bounds (range : lo ≤ hi) (x : Nat) : lo ≤ clampTo lo hi x ∧ clampTo lo hi x ≤ hi := by
  unfold clampTo
  omega

theorem slew_bounds (low : lo ≤ target) (high : target ≤ hi) (low' : lo ≤ a) (high' : a ≤ hi) (up down : Nat) :
    lo ≤ slew up down target a ∧ slew up down target a ≤ hi := by
  unfold slew
  split_ifs <;> omega

/-- Neither a factor nor the level makes a jet higher than its demand (R114). -/
theorem heightIfOpen_le (factors : ∀ w : Fin 4, c.sense.factors[w] ≤ 1000) (level : c.limits.site.levelFactor ≤ 1000) (j : JetId) :
    c.heightIfOpen j ≤ (c.limits.jets[j]).height ∧ c.heightIfOpen j ≤ (c.jets[j]).demand := by
  have low : c.levelFactor ≤ 1000 := by
    unfold Chip.levelFactor
    split
    · exact level
    · exact Nat.le_refl _
  refine ⟨Nat.min_le_left _ _, (Nat.min_le_right _ _).trans (Nat.div_le_of_le_mul ?_)⟩
  calc (c.jets[j]).demand * c.sense.factors[(c.limits.jets[j]).wind] * c.levelFactor
      ≤ (c.jets[j]).demand * 1000 * 1000 := Nat.mul_le_mul (Nat.mul_le_mul_left _ (factors _)) low
    _ = 1000000 * (c.jets[j]).demand := by omega

theorem effectiveHeight_le (factors : ∀ w : Fin 4, c.sense.factors[w] ≤ 1000) (level : c.limits.site.levelFactor ≤ 1000) (j : JetId) :
    c.effectiveHeight j ≤ (c.limits.jets[j]).height ∧ c.effectiveHeight j ≤ (c.jets[j]).demand := by
  unfold Chip.effectiveHeight
  split
  · exact heightIfOpen_le factors level j
  · exact ⟨Nat.zero_le _, Nat.zero_le _⟩

/-! ## Targets and setpoints (R101, R117) -/

theorem wantingJets_eq (c : Chip) (p : PumpId) : c.wantingJets p = (List.finRange 48).filter fun j =>
    decide (c.pumpOf j = p ∧ (c.jets[j]).state ≠ .closed ∧ 0 < (c.jets[j]).demand) := by
  rw [Chip.wantingJets, Chip.jetsOf, List.filter_filter]
  congr 1
  funext j
  simp only [Bool.decide_and, Bool.and_comm]

theorem targetOf_idle (none : c.wantingJets p = []) :
    c.targetOf p = if (c.pumps[p]).state.up = true then (c.limits.pumps[p]).sMin else 0 := by
  rw [Chip.targetOf, none]

theorem targetOf_wanted (some : c.wantingJets p ≠ []) : c.targetOf p =
    clampTo (c.limits.pumps[p]).sMin (c.limits.pumps[p]).sMax
      (((c.wantingJets p).map fun j => csqrt (c.heightIfOpen j * 1000)).foldl max 0) := by
  unfold Chip.targetOf
  split
  next none => exact absurd none some
  next => rfl

theorem targetOf_bounds (range : (c.limits.pumps[p]).sMin ≤ (c.limits.pumps[p]).sMax)
    (live : (c.pumps[p]).state.up = true ∨ c.wantingJets p ≠ []) :
    (c.limits.pumps[p]).sMin ≤ c.targetOf p ∧ c.targetOf p ≤ (c.limits.pumps[p]).sMax := by
  by_cases none : c.wantingJets p = []
  · rw [targetOf_idle none, if_pos (live.resolve_right fun some => some none)]
    exact ⟨Nat.le_refl _, range⟩
  · rw [targetOf_wanted none]
    exact clampTo_bounds range _

theorem setpointOf_running (is : (c.pumps[p]).state = .running) (target : Nat) : c.setpointOf p target =
    slew (c.limits.pumps[p]).rUp (c.limits.pumps[p]).rDown target
      (clampTo (c.limits.pumps[p]).sMin (c.limits.pumps[p]).sMax (c.pumps[p]).setpoint) := by
  rw [Chip.setpointOf, is]

/-! ## The update -/

theorem hydraulicUpdate_is (c : Chip) : c.hydraulicUpdate = { c with
    jets := c.hydraulicUpdate.jets, pumps := c.hydraulicUpdate.pumps, sMinInForce := c.limits.sMins, hydTimer := 0
    now := c.hydraulicUpdate.now, framesLeft := c.hydraulicUpdate.framesLeft, lampTimer := c.hydraulicUpdate.lampTimer
    circ := c.hydraulicUpdate.circ, sense := c.hydraulicUpdate.sense } := by
  have frame := Chip.hydraulics_eq (c.advance (20 - c.hydTimer))
  unfold Chip.hydraulicUpdate
  generalize (c.advance (20 - c.hydTimer)).hydraulics = d at frame
  rw [frame]
  rfl

theorem hydraulicUpdate_jet (c : Chip) (j : JetId) : c.hydraulicUpdate.jets[j] = { c.jets[j] with height := c.effectiveHeight j } :=
  Chip.hydraulics_jet (c := c.advance (20 - c.hydTimer)) j

theorem hydraulicUpdate_pump (c : Chip) (p : PumpId) : c.hydraulicUpdate.pumps[p] =
    { c.pumps[p] with target := c.targetOf p, setpoint := c.setpointOf p (c.targetOf p) } :=
  Chip.hydraulics_pump (c := c.advance (20 - c.hydTimer)) p

/-- Settles O46: the update writes the heights, the targets and the setpoints of its moment, and their bounds follow. -/
theorem hydraulicUpdateComputes : Obligations.HydraulicUpdateComputes := by
  intro s free
  have run : exec .hydraulicUpdate s = .next { s with chip := s.chip.hydraulicUpdate } :=
    event_next (f := Chip.hydraulicUpdate) rfl free rfl
  have frame := hydraulicUpdate_is s.chip
  have jet := hydraulicUpdate_jet s.chip
  have pump := hydraulicUpdate_pump s.chip
  generalize s.chip.hydraulicUpdate = d at run frame jet pump
  have inForce : d.sMinInForce = s.chip.limits.sMins := by rw [frame]
  have height (j : JetId) : (d.jets[j]).height = s.chip.effectiveHeight j := by rw [jet]
  have target (p : PumpId) : (d.pumps[p]).target = s.chip.targetOf p := by rw [pump]
  have setpoint (p : PumpId) : (d.pumps[p]).setpoint = s.chip.setpointOf p (s.chip.targetOf p) := by rw [pump]
  refine ⟨d, run, by rw [inForce]; exact frame, fun p => ?_, fun j => ⟨by rw [jet], ?_, fun factors level => ?_⟩, fun p => ?_⟩
  · rw [inForce]
    exact Vector.getElem_ofFn _
  · rw [height]
    rfl
  · rw [height]
    exact effectiveHeight_le factors level j
  · refine ⟨by rw [pump], ?_, fun range => ⟨?_, ?_⟩, fun priming => ?_, fun down => ?_⟩
    · rintro wanting is h heights
      obtain rfl : h = s.chip.heightIfOpen := funext heights
      rw [target, is, ← wantingJets_eq]
      split
      next none => exact targetOf_idle none
      next some => exact targetOf_wanted some
    · rintro ⟨j, fed, open_, wants⟩
      rw [target]
      refine targetOf_bounds range (.inr (List.ne_nil_of_mem (a := j) ?_))
      rw [wantingJets_eq]
      exact List.mem_filter.mpr ⟨List.mem_finRange j, decide_eq_true ⟨fed, open_, wants⟩⟩
    · rintro running a is
      have bounds := targetOf_bounds (c := s.chip) (p := p) range (.inl (by rw [running]; rfl))
      have clamped := clampTo_bounds range (s.chip.pumps[p]).setpoint
      rw [show clampTo _ _ _ = a from is.symm] at clamped
      have slewed : (d.pumps[p]).setpoint = slew (s.chip.limits.pumps[p]).rUp (s.chip.limits.pumps[p]).rDown (d.pumps[p]).target a := by
        rw [setpoint, setpointOf_running running, target, is]
        rfl
      rw [← target p] at bounds
      refine ⟨slewed, ?_⟩
      rw [slewed]
      exact slew_bounds bounds.1 bounds.2 clamped.1 clamped.2 _ _
    · rw [setpoint, setpointOf_priming priming]
    · rw [setpoint, setpointOf_down down]

end Sys2Proof.Proofs.Hydraulics


/-! PROOF. The catch-up's hand-over (O19), and what the water and light steps write (O17). -/

namespace Sys2Proof.Proofs.WaterSteps

open Sys2Proof Sys2Proof.Machine Sys2Proof.Proofs.StepEffects Sys2Proof.Proofs.Water Sys2Proof.Proofs.FountainMoves
open Sys2Proof.Proofs.Orders Sys2Proof.Proofs.ShowHeart Sys2Proof.Proofs.DueSteps Sys2Proof.Proofs.Tripped

variable {c d : Chip} {w : Written} {due e : Nat} {i n : StepIndex} {j : JetId} {p : PumpId} {raw : RawStep}

/-! ## The end of the event -/

theorem endEvent_order (c : Chip) (j : JetId) : orderOf c.endEvent j = orderOf c j :=
  waterMoves_order (endEvent_moves (J := noJet) (I := noPump) (b := true) (.refl c)) not_false

theorem endEvent_drive (c : Chip) (p : PumpId) : driveOf c.endEvent p = driveOf c p :=
  waterMoves_drive (endEvent_moves (J := noJet) (I := noPump) (b := true) (.refl c)) not_false

/-! ## A step of the catch-up -/

theorem stepImage_water (c : Chip) (raw : RawStep) (due : Nat) :
    (c.stepImage raw due).pumps = c.pumps ∧ (c.stepImage raw due).jets = c.jets ∧ (c.stepImage raw due).queue = c.queue := by
  have counter (n v : Nat) : (c.setCounter n v).pumps = c.pumps ∧ (c.setCounter n v).jets = c.jets ∧
      (c.setCounter n v).queue = c.queue := by
    unfold Chip.setCounter
    split <;> exact ⟨rfl, rfl, rfl⟩
  have image (m : ShowImage) : Chip.pumps { c with image := m } = c.pumps ∧ Chip.jets { c with image := m } = c.jets ∧
      Chip.queue { c with image := m } = c.queue := ⟨rfl, rfl, rfl⟩
  unfold Chip.stepImage
  split
  · exact image _
  · exact image _
  · exact image _
  · split
    · exact image _
    · exact ⟨rfl, rfl, rfl⟩
  · have lamps := Chip.fadeShow_lamps c (stepLums raw) (stepMask raw) (stepLevel raw) due (stepFade raw)
    exact ⟨lamps.pumps, lamps.jets, lamps.queue⟩
  · exact counter _ _
  · exact counter _ _
  all_goals exact ⟨rfl, rfl, rfl⟩

/-- A BURST that has ended is passed over (R55). -/
theorem catchUpStep_spent (burst : stepKind (c.stepAt i) = some .burst) (spent : due + stepLength (c.stepAt i) ≤ c.clock.value)
    (go : c.fallFrom i due = .arrive n e) : c.catchUpStep w i due = (c.placeMain n e, w) := by
  have passed : (c.stepActs (c.stepAt i) && !c.burstSpent (c.stepAt i) due) = false := by
    simp [Chip.burstSpent, burst, spent]
  unfold Chip.catchUpStep
  dsimp only
  rw [passed, arrival_passed, go]
  rfl

theorem enterEnding_cue (c : Chip) (fade origin : Nat) : (c.enterEnding fade origin).run.cue = .ending := by
  obtain ⟨stamp, ending⟩ := enterEnding_heart c fade origin
  generalize c.enterEnding fade origin = d at ending
  exact congrArg (fun h : Heart => h.run.cue) ending

/-- A step of the catch-up that does not end the show leaves the water. -/
theorem catchUpStep_water (lasts : (c.catchUpStep w i due).1.run.cue ≠ .ending) :
    (c.catchUpStep w i due).1.pumps = c.pumps ∧ (c.catchUpStep w i due).1.jets = c.jets ∧
      (c.catchUpStep w i due).1.queue = c.queue := by
  cases go : c.arrival i due (c.stepActs (c.stepAt i) && !c.burstSpent (c.stepAt i) due) false with
  | arrive n e =>
    rw [catchUpStep_arrive go]
    split
    · exact stepImage_water c _ due
    · exact ⟨rfl, rfl, rfl⟩
  | finish fade origin =>
    rw [catchUpStep_finish go] at lasts
    exact absurd (enterEnding_cue _ fade origin) lasts
  | resumed => exact absurd go arrival_ne_resumed

/-! ## The hand-over (R56) -/

/-- The jets that the catch-up has written, with what the image gives them. -/
def handJets (c : Chip) (w : Written) : Chip :=
  c.forEach ((List.finRange 48).filter fun j => decide (j ∈ w.jets)) fun j d =>
    d.demandWrite .showRun (c.image.jets[j]).demand (c.image.jets[j]).burstEnd j

/-- The pumps that the catch-up has written, with what the image of `c` gives them. -/
def handPumps (c d : Chip) (w : Written) : Chip :=
  d.forEach ((List.finRange 12).filter fun p => decide (p ∈ w.pumps)) fun p d =>
    d.handDrive p (c.image.pumps[p]).intent (c.image.pumps[p]).policy (decide (p ∈ w.intents))

theorem handOver_eq (c : Chip) (w : Written) : c.handOver w = (handPumps c (handJets c w) w).endEvent := rfl

theorem handJets_moves (c : Chip) (w : Written) : WaterMoves anyJet noPump true c (handJets c w) :=
  .forEach fun _ _ d => demandWrite_moves d _ _ _ trivial

theorem handPumps_moves (c d : Chip) (w : Written) : WaterMoves noJet anyPump true d (handPumps c d w) :=
  .forEach fun _ _ _ => handDrive_moves (I := anyPump) trivial _ _ _

theorem handOver_order (c : Chip) (w : Written) (j : JetId) : orderOf (c.handOver w) j =
    if j ∈ w.jets then (.showRun, (c.image.jets[j]).demand, (c.image.jets[j]).burstEnd) else orderOf c j := by
  rw [handOver_eq, endEvent_order, waterMoves_order (handPumps_moves c _ w) not_false, handJets,
    forEach_order _ (fun _ => .showRun) (fun j => (c.image.jets[j]).demand) fun j => (c.image.jets[j]).burstEnd]
  simp

theorem handOver_drive (c : Chip) (w : Written) (p : PumpId) : driveOf (c.handOver w) p =
    if p ∈ w.pumps then ((c.image.pumps[p]).intent, (c.image.pumps[p]).policy) else driveOf c p := by
  rw [handOver_eq, endEvent_drive, handPumps,
    forEach_drive (fun p _ => ((c.image.pumps[p]).intent, (c.image.pumps[p]).policy)) (fun _ _ => rfl)
      fun p d q => handDrive_drive d p q _ _ _,
    waterMoves_drive (handJets_moves c w) not_false]
  simp

/-- Settles O19: the spent BURST passed over, and the orders and drives of the hand-over. -/
theorem catchUpHandsOverOnce : Obligations.CatchUpHandsOverOnce := by
  refine ⟨fun c w i due n e => ⟨catchUpStep_spent, catchUpStep_water⟩, fun c w => ?_⟩
  have water := Chip.handOver_water c w
  refine ⟨_, rfl, water.image, water.run, fun j => ⟨fun written => ?_, fun other => ?_⟩, fun p => ⟨fun written => ?_, fun other => ?_⟩⟩
  · exact orderOf_iff.mp ((handOver_order c w j).trans (if_pos written))
  · exact orderOf_eq_iff.mp ((handOver_order c w j).trans (if_neg other))
  · exact driveOf_iff.mp ((handOver_drive c w p).trans (if_pos written))
  · exact driveOf_iff.mp ((handOver_drive c w p).trans (if_neg other))

end Sys2Proof.Proofs.WaterSteps


/-! PROOF. What the water and light steps write, and what they leave (O17). -/

namespace Sys2Proof.Proofs.WaterSteps

open Sys2Proof Sys2Proof.Machine Sys2Proof.Proofs.StepEffects Sys2Proof.Proofs.Water Sys2Proof.Proofs.FountainMoves
open Sys2Proof.Proofs.Orders Sys2Proof.Proofs.ShowHeart Sys2Proof.Proofs.DueSteps Sys2Proof.Proofs.Tripped
open Sys2Proof.Proofs.ClockTicks Sys2Proof.Proofs.Settling Sys2Proof.Proofs.Requests

variable {c d e : Chip} {due : Nat} {j : JetId} {p : PumpId} {raw : RawStep} {set : JetSet}

/-! ## One jet of a run over jets -/

/-- In a run over a list without repetition, one member's turn comes once. -/
theorem forEach_once {α : Type} {R : Chip → Chip → Prop} {f : α → Chip → Chip} {a : α} (refl : ∀ d, R d d)
    (trans : ∀ x y z, R x y → R y z → R x z) (others : ∀ b d, a ≠ b → R d (f b d)) {ids : List α} (once : ids.Nodup) (mem : a ∈ ids)
    (c : Chip) : ∃ x, R c x ∧ R (f a x) (Chip.forEach ids f c) := by
  obtain ⟨ahead, behind, rfl⟩ := List.append_of_mem mem
  have not_in (b : α) (among : b ∈ ahead ∨ b ∈ behind) : a ≠ b := by
    rintro rfl
    rw [List.nodup_middle, List.nodup_cons] at once
    exact once.1 (List.mem_append.mpr among)
  refine ⟨Chip.forEach ahead f c, Chip.forEach_rel _ refl trans fun b h d => others b d (not_in b (.inl h)), ?_⟩
  rw [Chip.forEach_append, Chip.forEach_cons]
  exact Chip.forEach_rel _ refl trans fun b h d => others b d (not_in b (.inr h))

/-- From `c` to `d` the clock stands, and the jet is told nothing new: if CLOSED, it stands too. -/
structure JetStands (j : JetId) (c d : Chip) : Prop where
  clock : d.clock = c.clock
  order : orderOf d j = orderOf c j
  shut  : StaysShut j c d

theorem JetStands.refl (j : JetId) (c : Chip) : JetStands j c c := ⟨rfl, rfl, fun _ => rfl⟩

theorem JetStands.trans (j : JetId) (x y z : Chip) (h : JetStands j x y) (k : JetStands j y z) : JetStands j x z :=
  ⟨k.clock.trans h.clock, k.order.trans h.order, h.shut.trans k.shut⟩

theorem JetStands.water {J : JetId → Prop} {I : PumpId → Prop} {b : Bool} (h : WaterMoves J I b c d) (out : ¬J j) : JetStands j c d :=
  ⟨(waterMoves_water h).clock, waterMoves_order h out, waterMoves_closed h out⟩

theorem JetStands.write (owner : Owner) (demand : Nat) (burstEnd : Option Nat) {k : JetId} (other : j ≠ k) (c : Chip) :
    JetStands j c (c.demandWrite owner demand burstEnd k) :=
  .water (demandWrite_moves (J := (· = k)) (I := noPump) c owner demand burstEnd rfl) other

/-- The jet is shut, its owner kept. -/
structure JetShut (j : JetId) (c d : Chip) : Prop where
  order : orderOf d j = ((c.jets[j]).owner, 0, none)
  state : (d.jets[j]).state = .closed

theorem jetShut_write (j : JetId) (c : Chip) : JetShut j c (c.demandWrite (c.jets[j]).owner 0 none j) :=
  ⟨by rw [demandWrite_order, if_pos rfl], by rw [demandWrite_shut]⟩

theorem JetShut.stands {x y z : Chip} (before : JetStands j x y) (shut : JetShut j y z) (after : JetStands j z e) :
    JetShut j x e :=
  ⟨by rw [after.order, shut.order, (orderOf_eq_iff.mp before.order).1], by rw [after.shut shut.state, shut.state]⟩

/-! ## Bursts that end (R30, R31, R111, R112) -/

/-- The clock has reached the end of the jet's burst. -/
def Reached (j : JetId) (c : Chip) : Prop := ∃ b, (c.jets[j]).burstEnd = some b ∧ b ≤ c.clock.value

theorem jetPast_reached (h : Reached j c) : jetPast j c = c.demandWrite (c.jets[j]).owner 0 none j := by
  obtain ⟨b, is, past⟩ := h
  unfold jetPast
  rw [is]
  exact if_pos past

theorem jetPast_ahead (h : ¬Reached j c) : jetPast j c = c := by
  unfold jetPast
  split
  next b is => exact if_neg fun past => h ⟨b, is, past⟩
  next => rfl

theorem jetPast_other {k : JetId} (c : Chip) (other : j ≠ k) : JetStands j c (jetPast k c) := by
  by_cases reached : Reached k c
  · rw [jetPast_reached reached]
    exact .write _ _ _ other c
  · rw [jetPast_ahead reached]
    exact .refl j c

theorem reached_of_stands (h : JetStands j c d) : Reached j d ↔ Reached j c := by
  unfold Reached
  rw [(orderOf_eq_iff.mp h.order).2.2, h.clock]

theorem expireJetBursts_reached (h : Reached j c) : JetShut j c c.expireJetBursts := by
  obtain ⟨x, before, after⟩ := forEach_once (R := JetStands j) (f := jetPast) (a := j) (.refl j) (.trans j)
    (fun k d other => jetPast_other d other) (List.nodup_finRange 48) (List.mem_finRange j) c
  rw [jetPast_reached ((reached_of_stands before).mpr h)] at after
  rw [expireJetBursts_eq]
  exact (jetShut_write j x).stands before after

theorem expireJetBursts_ahead (h : ¬Reached j c) : JetStands j c c.expireJetBursts := by
  rw [expireJetBursts_eq]
  refine Chip.forEach_keeps (P := JetStands j c) _ (fun k _ d stands => ?_) (.refl j c)
  by_cases same : j = k
  · subst same
    rw [jetPast_ahead fun reached => h ((reached_of_stands stands).mp reached)]
    exact stands
  · exact .trans j _ _ _ stands (jetPast_other d same)

/-- A CUT ends the burst of a jet (R112). -/
def jetCut (j : JetId) (c : Chip) : Chip :=
  if (c.jets[j]).burstEnd.isSome then c.demandWrite (c.jets[j]).owner 0 none j else c

theorem cutJets_eq (c : Chip) (set : JetSet) : c.cutJets set = c.forEach (jetsIn set) jetCut := rfl

theorem jetCut_other {k : JetId} (c : Chip) (other : j ≠ k) : JetStands j c (jetCut k c) := by
  unfold jetCut
  split
  · exact .write _ _ _ other c
  · exact .refl j c

theorem cutJets_cut (mem : j ∈ jetsIn set) (burst : (c.jets[j]).burstEnd.isSome = true) : JetShut j c (c.cutJets set) := by
  obtain ⟨x, before, after⟩ := forEach_once (R := JetStands j) (f := jetCut) (a := j) (.refl j) (.trans j)
    (fun k d other => jetCut_other d other) ((List.nodup_finRange 48).filter _) mem c
  rw [jetCut, if_pos (by rw [(orderOf_eq_iff.mp before.order).2.2]; exact burst)] at after
  rw [cutJets_eq]
  exact (jetShut_write j x).stands before after

theorem cutJets_stands (out : j ∉ jetsIn set ∨ (c.jets[j]).burstEnd.isSome = false) : JetStands j c (c.cutJets set) := by
  rw [cutJets_eq]
  refine Chip.forEach_keeps (P := JetStands j c) _ (fun k mem d stands => ?_) (.refl j c)
  by_cases same : j = k
  · subst same
    have none := out.resolve_left (not_not_intro mem)
    rw [jetCut, if_neg (by rw [(orderOf_eq_iff.mp stands.order).2.2, none]; exact Bool.false_ne_true)]
    exact stands
  · exact .trans j _ _ _ stands (jetCut_other d same)

theorem JetStands.told (h : JetStands j c d) : (d.jets[j]).owner = (c.jets[j]).owner ∧
    (d.jets[j]).demand = (c.jets[j]).demand ∧ (d.jets[j]).burstEnd = (c.jets[j]).burstEnd := orderOf_eq_iff.mp h.order

/-! ## The image -/

theorem imageJets_get (c : Chip) (js : List JetId) (demand : Nat) (burstEnd : Option Nat) (j : JetId) :
    (c.imageJets js demand burstEnd).image.jets[j] = if j ∈ js then ⟨demand, burstEnd⟩ else c.image.jets[j] := Vector.getElem_ofFn _

theorem imageJets_jets (c : Chip) (js : List JetId) (demand : Nat) (burstEnd : Option Nat) :
    (c.imageJets js demand burstEnd).jets = c.jets ∧ (c.imageJets js demand burstEnd).clock = c.clock := by
  unfold Chip.imageJets
  exact ⟨rfl, rfl⟩

theorem imageJets_order (c : Chip) (js : List JetId) (demand : Nat) (burstEnd : Option Nat) (j : JetId) :
    orderOf (c.imageJets js demand burstEnd) j = orderOf c j := orderOf_of_jets (imageJets_jets c js demand burstEnd).1 j

theorem imagePumps_drive (c : Chip) (ps : List PumpId) (act : PumpAction) (p : PumpId) :
    driveOf (c.imagePumps ps act) p = driveOf c p := by
  unfold Chip.imagePumps
  exact driveOf_of_pumps rfl p

theorem imagePumps_get (c : Chip) (ps : List PumpId) (act : PumpAction) (p : PumpId) :
    (c.imagePumps ps act).image.pumps[p] = if p ∈ ps then (c.image.pumps[p]).apply act else c.image.pumps[p] := Vector.getElem_ofFn _

/-- The bursts that end leave the image as `imagePast` says. -/
theorem expireBursts_image (c : Chip) (j : JetId) : c.expireBursts.image.jets[j] = imagePast c.clock.value (c.image.jets[j]) := by
  rw [expireBursts_eq, (Chip.expireJetBursts_water _).image]
  exact Vector.getElem_ofFn _

theorem imagePast_reached {t b : Nat} {x : ImageJet} (is : x.burstEnd = some b) (past : b ≤ t) : imagePast t x = ⟨0, none⟩ := by
  unfold imagePast
  rw [is]
  exact if_pos past

theorem imagePast_ahead {t : Nat} {x : ImageJet} (ahead : ∀ b, x.burstEnd = some b → t < b) : imagePast t x = x := by
  unfold imagePast
  split
  next b is => exact if_neg (Nat.not_le.mpr (ahead b is))
  next => rfl

/-- The part with the bursts ended in its image. -/
def imageExpired (c : Chip) : Chip :=
  { c with image.jets := Vector.ofFn fun j => imagePast c.clock.value (c.image.jets[j]) }

theorem imageExpired_is (c : Chip) : ∃ m : ShowImage, imageExpired c = { c with image := m } := ⟨_, rfl⟩

theorem expireBursts_of_image (c : Chip) : c.expireBursts = (imageExpired c).expireJetBursts := rfl

theorem expireBursts_reached (h : Reached j c) : JetShut j c c.expireBursts := by
  obtain ⟨m, is⟩ := imageExpired_is c
  rw [expireBursts_of_image, is]
  obtain ⟨order, state⟩ := expireJetBursts_reached (c := { c with image := m }) h
  exact ⟨order, state⟩

theorem expireBursts_ahead (h : ¬Reached j c) : JetStands j c c.expireBursts := by
  obtain ⟨m, is⟩ := imageExpired_is c
  rw [expireBursts_of_image, is]
  obtain ⟨clock, order, shut⟩ := expireJetBursts_ahead (c := { c with image := m }) h
  exact ⟨clock, order, shut⟩

/-! ## Steps of the water -/

/-- From `c` to `d` the image and the water alone have changed, and PUMP_FAULT alone has been raised. -/
structure Flows (c d : Chip) : Prop where
  frame : d = { c with
    image := d.image, pumps := d.pumps, queue := d.queue, joining := d.joining, history := d.history
    jets := d.jets, circ := d.circ, links := d.links }
  noted : Noted [.pumpFault] c d

namespace Flows

theorem trans (h : Flows c d) (k : Flows d e) : Flows c e := by
  refine ⟨?_, h.noted.trans k.noted⟩
  have first := h.frame
  have second := k.frame
  rw [first] at second
  exact second

theorem image (c : Chip) (m : ShowImage) : Flows c { c with image := m } := ⟨rfl, .of_links rfl⟩

theorem water {J : JetId → Prop} {I : PumpId → Prop} {b : Bool} (h : WaterMoves J I b c d) : Flows c d := by
  have only := waterMoves_water h
  refine ⟨?_, waterMoves_noted h⟩
  rw [only.image]
  exact only.1

theorem endEvent (h : Flows c d) : Flows c d.endEvent :=
  h.trans (.water (endEvent_moves (J := noJet) (I := noPump) (b := true) (.refl d)))

theorem expireBursts (c : Chip) : Flows c c.expireBursts := by
  obtain ⟨m, is⟩ := imageExpired_is c
  rw [expireBursts_of_image, is]
  exact (Flows.image c m).trans (.water (expireJetBursts_water (b := true) _))

end Flows

theorem endEvent_stands (c : Chip) (j : JetId) : JetStands j c c.endEvent :=
  .water (endEvent_moves (J := noJet) (I := noPump) (b := true) (.refl c)) not_false

/-! ## A JET step (R29) -/

section Jet

variable (is : stepKind raw = some .jet)
include is

theorem stepEffect_jet : c.stepEffect raw due =
    ((c.imageJets (jetsIn (stepJets raw)) (stepDemand raw) none).demandWrites (jetsIn (stepJets raw)) .showRun
      (stepDemand raw)).endEvent := by
  rw [Chip.stepEffect, Chip.stepImage, Chip.stepWater, is]

theorem jetStep_flows : Flows c (c.stepEffect raw due) := by
  rw [stepEffect_jet is]
  exact .endEvent (.trans (.image c _) (.water (demandWrites_moves (J := anyJet) (I := noPump) _ _ _ fun _ _ => trivial)))

theorem jetStep_image (j : JetId) : (c.stepEffect raw due).image.jets[j] =
    if j ∈ jetsIn (stepJets raw) then ⟨stepDemand raw, none⟩ else c.image.jets[j] := by
  rw [stepEffect_jet is, ((Chip.demandWrites_water _ _ _ _).trans (Chip.endEvent_water _)).image]
  exact imageJets_get c _ _ _ j

theorem jetStep_order (j : JetId) : orderOf (c.stepEffect raw due) j =
    if j ∈ jetsIn (stepJets raw) then (.showRun, stepDemand raw, none) else orderOf c j := by
  rw [stepEffect_jet is, endEvent_order, demandWrites_order, imageJets_order]

theorem jetStep_shut (zero : stepDemand raw = 0) (mem : j ∈ jetsIn (stepJets raw)) :
    ((c.stepEffect raw due).jets[j]).state = .closed := by
  rw [stepEffect_jet is, zero]
  have shut := demandWrites_shut (jetsIn (stepJets raw)) .showRun (c.imageJets (jetsIn (stepJets raw)) 0 none) j mem
  rw [(endEvent_stands _ j).shut (by rw [shut]), shut]

end Jet

/-! ## A BURST step (R30) -/

/-- The demand writes of a BURST step. -/
def burstWritten (c : Chip) (raw : RawStep) (finish : Nat) : Chip :=
  Chip.forEach (jetsIn (stepJets raw)) (fun j c => c.demandWrite .showRun (stepDemand raw) (some finish) j)
    (c.imageJets (jetsIn (stepJets raw)) (stepDemand raw) (some finish))

theorem burstWritten_moves (c : Chip) (raw : RawStep) (finish : Nat) : WaterMoves anyJet noPump true
    (c.imageJets (jetsIn (stepJets raw)) (stepDemand raw) (some finish)) (burstWritten c raw finish) :=
  .forEach fun _ _ d => demandWrite_moves d _ _ _ trivial

theorem burstWritten_order (c : Chip) (raw : RawStep) (finish : Nat) (j : JetId) : orderOf (burstWritten c raw finish) j =
    if j ∈ jetsIn (stepJets raw) then (.showRun, stepDemand raw, some finish) else orderOf c j := by
  rw [burstWritten, forEach_order _ (fun _ => .showRun) (fun _ => stepDemand raw) (fun _ => some finish), imageJets_order]

theorem burstWritten_image (c : Chip) (raw : RawStep) (finish : Nat) (j : JetId) : (burstWritten c raw finish).image.jets[j] =
    if j ∈ jetsIn (stepJets raw) then ⟨stepDemand raw, some finish⟩ else c.image.jets[j] := by
  rw [(waterMoves_water (burstWritten_moves c raw finish)).image]
  exact imageJets_get c _ _ _ j

theorem burstWritten_clock (c : Chip) (raw : RawStep) (finish : Nat) : (burstWritten c raw finish).clock = c.clock :=
  (waterMoves_water (burstWritten_moves c raw finish)).clock.trans (imageJets_jets c _ _ _).2

section Burst

variable (is : stepKind raw = some .burst)
include is

theorem stepEffect_burst : c.stepEffect raw due = (if due + stepLength raw ≤ c.clock.value then
    (burstWritten c raw (due + stepLength raw)).expireBursts else burstWritten c raw (due + stepLength raw)).endEvent := by
  rw [Chip.stepEffect, Chip.stepImage, Chip.stepWater, is]
  rfl

theorem burstStep_flows : Flows c (c.stepEffect raw due) := by
  rw [stepEffect_burst is]
  have written : Flows c (burstWritten c raw (due + stepLength raw)) := .trans (.image c _) (.water (burstWritten_moves c raw _))
  refine .endEvent ?_
  split
  · exact written.trans (.expireBursts _)
  · exact written

theorem burstStep_ahead (ahead : c.clock.value < due + stepLength raw) :
    c.stepEffect raw due = (burstWritten c raw (due + stepLength raw)).endEvent := by
  rw [stepEffect_burst is, if_neg (Nat.not_le.mpr ahead)]

theorem burstStep_spent (spent : due + stepLength raw ≤ c.clock.value) :
    c.stepEffect raw due = (burstWritten c raw (due + stepLength raw)).expireBursts.endEvent := by
  rw [stepEffect_burst is, if_pos spent]

end Burst

/-! ## A CUT step (R31) -/

section Cut

variable (is : stepKind raw = some .cut)
include is

theorem stepEffect_cut : c.stepEffect raw due =
    ((c.imageJets (c.cutMembers (stepJets raw)) 0 none).cutJets (stepJets raw)).endEvent := by
  rw [Chip.stepEffect, Chip.stepImage, Chip.stepWater, is]

theorem cutStep_flows : Flows c (c.stepEffect raw due) := by
  rw [stepEffect_cut is]
  exact .endEvent (.trans (.image c _) (.water (cutJets_water (b := true) _ _)))

theorem cutStep_image (j : JetId) : (c.stepEffect raw due).image.jets[j] =
    if (stepJets raw).getLsbD j.val = true ∧ (c.image.jets[j]).burstEnd.isSome = true then ⟨0, none⟩ else c.image.jets[j] := by
  rw [stepEffect_cut is, ((Chip.cutJets_water _ _).trans (Chip.endEvent_water _)).image]
  have member : j ∈ c.cutMembers (stepJets raw) ↔ (stepJets raw).getLsbD j.val = true ∧ (c.image.jets[j]).burstEnd.isSome = true := by
    rw [Chip.cutMembers, List.mem_filter, mem_jetsIn]
  simp only [← member]
  exact imageJets_get c _ _ _ j

theorem cutStep_cut (mem : (stepJets raw).getLsbD j.val = true) (burst : (c.jets[j]).burstEnd ≠ none) :
    orderOf (c.stepEffect raw due) j = ((c.jets[j]).owner, 0, none) := by
  rw [stepEffect_cut is, endEvent_order]
  have same := (imageJets_jets c (c.cutMembers (stepJets raw)) 0 none).1
  generalize c.imageJets (c.cutMembers (stepJets raw)) 0 none = d at same
  rw [← same] at burst ⊢
  exact (cutJets_cut (mem_jetsIn.mpr mem) (Option.isSome_iff_ne_none.mpr burst)).order

theorem cutStep_stands (out : (stepJets raw).getLsbD j.val = false ∨ (c.jets[j]).burstEnd = none) :
    orderOf (c.stepEffect raw due) j = orderOf c j := by
  rw [stepEffect_cut is, endEvent_order]
  have same := (imageJets_jets c (c.cutMembers (stepJets raw)) 0 none).1
  generalize c.imageJets (c.cutMembers (stepJets raw)) 0 none = d at same
  rw [← same] at out
  rw [← orderOf_of_jets same]
  refine (cutJets_stands (out.imp (fun out mem => ?_) fun none => ?_)).order
  · rw [mem_jetsIn, out] at mem
    contradiction
  · rw [none]
    rfl

end Cut

/-! ## A PUMP step (R32) -/

/-- What a PUMP step's action tells a pump. -/
def actTold : PumpAction → Intent × Policy → Intent × Policy
  | .start, x => (.run, x.2)
  | .stop, x => (.stop, x.2)
  | .follow, x => (x.1, .follow)
  | .explicit, x => (x.1, .explicit)

theorem drive_told (act : PumpAction) (p : PumpId) (c : Chip) (q : PumpId) :
    driveOf (c.drive act p) q = if q = p then actTold act (driveOf c p) else driveOf c q := by
  cases act with
  | start => exact intentRun_drive c p q .showRun
  | stop => exact intentStop_drive c p q
  | follow => exact setPolicy_drive c p q .follow
  | explicit => exact setPolicy_drive c p q .explicit

section Pump

variable {act : PumpAction} (is : stepKind raw = some .pump)
include is

theorem stepEffect_pump (acts : stepAction raw = some act) : c.stepEffect raw due =
    (Chip.forEach (pumpsIn (stepPumps raw)) (fun p c => c.drive act p) (c.imagePumps (pumpsIn (stepPumps raw)) act)).endEvent := by
  rw [Chip.stepEffect, Chip.stepImage, Chip.stepWater, is]
  dsimp only
  rw [acts]

theorem stepEffect_pumpless (none : stepAction raw = none) : c.stepEffect raw due = c := by
  rw [Chip.stepEffect, Chip.stepImage, Chip.stepWater, is]
  dsimp only
  rw [none]

theorem pumpStep_flows : Flows c (c.stepEffect raw due) := by
  cases acts : stepAction raw with
  | none =>
    rw [stepEffect_pumpless is acts]
    exact .image c c.image
  | some act =>
    rw [stepEffect_pump is acts]
    exact .endEvent (.trans (.image c _) (.water (J := anyJet) (I := anyPump) (b := true)
      (.forEach fun _ _ _ => drive_moves trivial _)))

theorem pumpStep_image (acts : stepAction raw = some act) (p : PumpId) : (c.stepEffect raw due).image.pumps[p] =
    if p ∈ pumpsIn (stepPumps raw) then (c.image.pumps[p]).apply act else c.image.pumps[p] := by
  rw [stepEffect_pump is acts, (Chip.WaterOnly.trans (.forEach fun p e => Chip.drive_water e act p) (Chip.endEvent_water _)).image]
  exact imagePumps_get c _ _ p

theorem pumpStep_drive (acts : stepAction raw = some act) (p : PumpId) : driveOf (c.stepEffect raw due) p =
    if p ∈ pumpsIn (stepPumps raw) then actTold act (driveOf c p) else driveOf c p := by
  rw [stepEffect_pump is acts, endEvent_drive, forEach_drive (fun _ => actTold act) (fun _ _ => by cases act <;> rfl)
    (fun p c q => drive_told act p c q), imagePumps_drive]

end Pump

/-! ## A LIGHT step (R33) -/

theorem stepEffect_light (is : stepKind raw = some .light) :
    c.stepEffect raw due = c.fadeShow (stepLums raw) (stepMask raw) (stepLevel raw) due (stepFade raw) := by
  rw [Chip.stepEffect, Chip.stepImage, Chip.stepWater, is]

theorem fadeShow_layer (c : Chip) (lums : LumSet) (mask : ChannelMask) (level : ColourId → Nat) (origin duration : Nat)
    (l : LumId) (k : ColourId) : (c.fadeShow lums mask level origin duration).showLayer[channelOf l k] =
      if lums.getLsbD l.val = true ∧ mask.getLsbD k.val = true then ⟨c.showLevel (channelOf l k), level k, origin, duration, .showTime⟩
      else c.showLayer[channelOf l k] := by
  have faded : (c.fadeShow lums mask level origin duration).showLayer[channelOf l k] =
      if inLights lums mask (channelOf l k) then
        ⟨c.showLevel (channelOf l k), level (colourOf (channelOf l k)), origin, duration, .showTime⟩
      else c.showLayer[channelOf l k] := Vector.getElem_ofFn _
  rw [faded, inLights, lumOf_channelOf, colourOf_channelOf]
  simp only [Bool.and_eq_true]

end Sys2Proof.Proofs.WaterSteps


/-! PROOF. The water and light steps (O17). -/

namespace Sys2Proof.Proofs.WaterSteps

open Sys2Proof Sys2Proof.Machine Sys2Proof.Proofs.StepEffects Sys2Proof.Proofs.Water Sys2Proof.Proofs.Orders
open Sys2Proof.Proofs.ClockTicks Sys2Proof.Proofs.Settling

variable {c : Chip} {due : Nat} {j : JetId} {p : PumpId} {raw : RawStep} {set : JetSet}

theorem not_mem_jetsIn (out : set.getLsbD j.val = false) : j ∉ jetsIn set := by rw [mem_jetsIn, out]; nofun

theorem not_mem_pumpsIn {set : PumpSet} (out : set.getLsbD p.val = false) : p ∉ pumpsIn set := by rw [mem_pumpsIn, out]; nofun

/-- A JET step on the jets of its set, and off it. -/
theorem jetStep_writes (is : stepKind raw = some .jet) (j : JetId) :
    ((stepJets raw).getLsbD j.val = true →
      (c.stepEffect raw due).image.jets[j] = ⟨stepDemand raw, none⟩ ∧ orderOf (c.stepEffect raw due) j = (.showRun, stepDemand raw, none) ∧
        (stepDemand raw = 0 → ((c.stepEffect raw due).jets[j]).state = .closed)) ∧
    ((stepJets raw).getLsbD j.val = false →
      (c.stepEffect raw due).image.jets[j] = c.image.jets[j] ∧ orderOf (c.stepEffect raw due) j = orderOf c j) := by
  rw [jetStep_image is, jetStep_order is]
  refine ⟨fun mem => ⟨if_pos (mem_jetsIn.mpr mem), if_pos (mem_jetsIn.mpr mem), fun zero => ?_⟩, fun out =>
    ⟨if_neg (not_mem_jetsIn out), if_neg (not_mem_jetsIn out)⟩⟩
  exact jetStep_shut is zero (mem_jetsIn.mpr mem)

/-- A BURST step that is still to end. -/
theorem burstStep_writes (is : stepKind raw = some .burst) (ahead : c.clock.value < due + stepLength raw) (j : JetId) :
    ((stepJets raw).getLsbD j.val = true →
      (c.stepEffect raw due).image.jets[j] = ⟨stepDemand raw, some (due + stepLength raw)⟩ ∧
        orderOf (c.stepEffect raw due) j = (.showRun, stepDemand raw, some (due + stepLength raw))) ∧
    ((stepJets raw).getLsbD j.val = false →
      (c.stepEffect raw due).image.jets[j] = c.image.jets[j] ∧ orderOf (c.stepEffect raw due) j = orderOf c j) := by
  rw [burstStep_ahead is ahead, (Chip.endEvent_water _).image, endEvent_order, burstWritten_order, burstWritten_image]
  exact ⟨fun mem => ⟨if_pos (mem_jetsIn.mpr mem), if_pos (mem_jetsIn.mpr mem)⟩, fun out =>
    ⟨if_neg (not_mem_jetsIn out), if_neg (not_mem_jetsIn out)⟩⟩

/-- A BURST step whose end has passed. -/
theorem burstStep_ends (is : stepKind raw = some .burst) (spent : due + stepLength raw ≤ c.clock.value)
    (mem : (stepJets raw).getLsbD j.val = true) :
    (c.stepEffect raw due).image.jets[j] = ⟨0, none⟩ ∧ ((c.stepEffect raw due).jets[j]).demand = 0 ∧
      ((c.stepEffect raw due).jets[j]).burstEnd = none := by
  rw [burstStep_spent is spent]
  have written := (burstWritten_order c raw (due + stepLength raw) j).trans (if_pos (mem_jetsIn.mpr mem))
  have imaged := (burstWritten_image c raw (due + stepLength raw) j).trans (if_pos (mem_jetsIn.mpr mem))
  have clock := burstWritten_clock c raw (due + stepLength raw)
  generalize burstWritten c raw (due + stepLength raw) = d at written imaged clock
  obtain ⟨-, -, burstEnd⟩ := orderOf_iff.mp written
  have shut := expireBursts_reached (c := d) (j := j) ⟨_, burstEnd, by rw [clock]; exact spent⟩
  have told := (endEvent_order d.expireBursts j).trans shut.order
  refine ⟨?_, (orderOf_iff.mp told).2⟩
  rw [(Chip.endEvent_water _).image, expireBursts_image, imaged]
  exact imagePast_reached rfl (by rw [clock]; exact spent)

/-- Settles O17: each kind's step, its image and its orders; and the bursts that the clock has reached. -/
theorem waterAndLightSteps : Obligations.WaterAndLightSteps := by
  refine ⟨fun c raw due => ⟨_, rfl, ?_, ?_, ?_, ?_, ?_, ?_⟩, fun c raw due is => ⟨_, rfl, ?_, fun l k => ?_⟩, fun c =>
    ⟨_, rfl, fun j => ⟨?_, fun ahead => ?_, fun reached => ?_, fun ahead => ?_⟩⟩⟩
  · intro is j
    obtain ⟨on, off⟩ := jetStep_writes (c := c) (due := due) is j
    refine ⟨fun mem => ?_, fun out => ?_⟩
    · obtain ⟨image, order, shut⟩ := on mem
      obtain ⟨owner, demand, burstEnd⟩ := orderOf_iff.mp order
      exact ⟨image, owner, demand, burstEnd, shut⟩
    · obtain ⟨image, order⟩ := off out
      exact ⟨image, orderOf_eq_iff.mp order⟩
  · intro is ahead j
    obtain ⟨on, off⟩ := burstStep_writes is ahead j
    refine ⟨fun mem => ?_, fun out => ?_⟩
    · obtain ⟨image, order⟩ := on mem
      exact ⟨image, orderOf_iff.mp order⟩
    · obtain ⟨image, order⟩ := off out
      exact ⟨image, orderOf_eq_iff.mp order⟩
  · intro is spent j mem
    exact burstStep_ends is spent mem
  · intro is j
    refine ⟨fun mem burst => ?_, fun out => ?_, fun mem burst => ?_, fun out => ?_⟩
    · exact (cutStep_image is j).trans (if_pos ⟨mem, Option.isSome_iff_ne_none.mpr burst⟩)
    · refine (cutStep_image is j).trans (if_neg ?_)
      rintro ⟨mem, burst⟩
      rcases out with out | none
      · rw [mem] at out; cases out
      · rw [none] at burst; cases burst
    · obtain ⟨owner, demand, burstEnd⟩ := orderOf_iff.mp (cutStep_cut (due := due) is mem burst)
      exact ⟨demand, burstEnd, owner⟩
    · obtain ⟨owner, demand, -⟩ := orderOf_eq_iff.mp (cutStep_stands (due := due) is out)
      exact ⟨demand, owner⟩
  · intro is act acts p
    have drive := pumpStep_drive (c := c) (due := due) is acts p
    have image := pumpStep_image (c := c) (due := due) is acts p
    refine ⟨fun mem => ?_, fun out => ?_⟩
    · rw [if_pos (mem_pumpsIn.mpr mem)] at drive image
      refine ⟨image, drive.trans ?_⟩
      cases act <;> rfl
    · rw [if_neg (not_mem_pumpsIn out)] at drive image
      exact ⟨image, driveOf_iff.mp drive⟩
  · intro is
    have flows : Flows c (c.stepEffect raw due) := by
      rcases is with is | is | is | is
      exacts [jetStep_flows is, burstStep_flows is, cutStep_flows is, pumpStep_flows is]
    exact ⟨flows.frame, noticed_of_noted flows.noted (by simp) fun n mem => .inr mem⟩
  · rw [stepEffect_light is]
    unfold Chip.fadeShow
    rfl
  · rw [stepEffect_light is]
    exact fadeShow_layer c _ _ _ _ _ l k
  · rintro ⟨b, is, past⟩
    exact (expireBursts_image c j).trans (imagePast_reached is past)
  · exact (expireBursts_image c j).trans (imagePast_ahead ahead)
  · obtain ⟨order, state⟩ := expireBursts_reached (c := c) (j := j) reached
    obtain ⟨owner, demand, burstEnd⟩ := orderOf_iff.mp order
    exact ⟨demand, burstEnd, state, owner⟩
  · have stands := expireBursts_ahead (c := c) (j := j) fun ⟨b, is, past⟩ => Nat.not_le.mpr (ahead b is) past
    obtain ⟨owner, demand, burstEnd⟩ := stands.told
    exact ⟨demand, burstEnd, owner⟩

end Sys2Proof.Proofs.WaterSteps


/-! PROOF. Pumps told to stop: none of them can be granted a start as the event ends (R40, R44, R92). -/

namespace Sys2Proof.Proofs.Halting

open Sys2Proof Sys2Proof.Machine Sys2Proof.Proofs.StepEffects Sys2Proof.Proofs.Water Sys2Proof.Proofs.Orders Sys2Proof.Proofs.OnePump
open Sys2Proof.Proofs.Trips Sys2Proof.Proofs.Arbiter Sys2Proof.Proofs.Tripped

variable {c d e : Chip} {p q : PumpId} {j : JetId}

/-! ## Nothing but a grant enters the grant history (R85) -/

/-- No grant has been made. -/
def Ungranted (c d : Chip) : Prop := d.history = c.history

namespace Ungranted

theorem refl (c : Chip) : Ungranted c c := rfl
theorem trans (h : Ungranted c d) (k : Ungranted d e) : Ungranted c e := Eq.trans k h
theorem ite {b : Prop} [Decidable b] (h : Ungranted c d) (k : Ungranted c e) : Ungranted c (if b then d else e) := by
  split <;> assumption
theorem forEach {α : Type} {ids : List α} {f : α → Chip → Chip} (h : ∀ (a : α) (d : Chip), Ungranted d (f a d)) :
    Ungranted c (Chip.forEach ids f c) :=
  Chip.forEach_rel ids .refl (fun _ _ _ => .trans) fun a _ d => h a d

end Ungranted

section History

variable (c) (p)

theorem updPump_ungranted (f : Pump → Pump) : Ungranted c (c.updPump p f) := rfl

theorem startRequest_ungranted (r : Requester) : Ungranted c (c.startRequest p r) := by
  have joins : Ungranted c (if c.queued p then c else { c with joining := insertEntry ⟨p, r, c.now⟩ c.joining }) :=
    .ite (.refl c) rfl
  unfold Chip.startRequest
  split
  · exact .refl c
  · split
    exacts [joins, joins, .refl c, .refl c, .refl c, .refl c]

theorem stopRequest_ungranted : Ungranted c (c.stopRequest p) := by
  have pends : Ungranted c ((c.updPump p fun r => { r with idleExpiry := none }).updPump p fun r => { r with stopPending := true }) := rfl
  unfold Chip.stopRequest
  dsimp only
  split
  exacts [rfl, rfl, pends, .ite (enterResting_history _ p) pends, rfl, rfl]

theorem demandAppears_ungranted (r : Requester) : Ungranted c (c.demandAppears p r) := by
  unfold Chip.demandAppears
  split
  exacts [startRequest_ungranted c p r, startRequest_ungranted c p r, rfl, rfl, .refl c, .refl c]

theorem idleOut_ungranted : Ungranted c (c.idleOut p) :=
  .ite (.ite (.refl c) (.ite (stopRequest_ungranted c p) rfl)) (stopRequest_ungranted c p)

theorem demandLost_ungranted (was : Owner) : Ungranted c (c.demandLost p was) :=
  .ite (.ite (.refl c) (.ite (idleOut_ungranted c p) (stopRequest_ungranted c p))) (idleOut_ungranted c p)

theorem stopUnlessDemanded_ungranted : Ungranted c (c.stopUnlessDemanded p) := .ite (.refl c) (stopRequest_ungranted c p)

theorem handDrive_ungranted (intent : Intent) (policy : Policy) (atOnce : Bool) :
    Ungranted c (c.handDrive p intent policy atOnce) := by
  have written : Ungranted c (c.updPump p fun q => { q with intent := intent, policy := policy }) := rfl
  unfold Chip.handDrive
  exact .ite (.trans (.ite written (written.trans (demandAppears_ungranted _ p _))) (startRequest_ungranted _ p _))
    (.ite (written.trans (stopRequest_ungranted _ p)) written)

theorem demandWrite_ungranted (owner : Owner) (demand : Nat) (burstEnd : Option Nat) (j : JetId) :
    Ungranted c (c.demandWrite owner demand burstEnd j) := by
  have written : Ungranted c (demandWritten c owner demand burstEnd j) := wetFlush_history _
  rw [demandWrite_eq]
  exact .ite (.ite written (written.trans (demandAppears_ungranted _ _ _)))
    (.ite (written.trans (demandLost_ungranted _ _ _)) written)

theorem demandWrites_ungranted (js : List JetId) (owner : Owner) (demand : Nat) : Ungranted c (c.demandWrites js owner demand) :=
  .forEach fun j d => demandWrite_ungranted d owner demand none j

end History

/-! ## Pumps that have been told to stop -/

/-- The pump has taken a stop request: if it is up, its stop is pending, and a RUNNING pump has still to run; if it is STOPPED, it
does not wait for a start. -/
structure Halted (p : PumpId) (c : Chip) : Prop where
  pending : (stateOf c p).up = true → (c.pumps[p]).stopPending = true ∧ (stateOf c p = .running → c.now < (c.pumps[p]).runMinEnd)
  gone    : stateOf c p = .stopped → ∀ x, Waiting c x → x.pump ≠ p

theorem Halted.aside (h : Halted p c) (aside : Aside p c d) (now : d.now = c.now) : Halted p d := by
  refine ⟨fun up => ?_, fun stopped x waits of => ?_⟩
  · rw [aside.state] at up ⊢
    rw [aside.record, now]
    exact h.pending up
  · rw [aside.state] at stopped
    exact h.gone stopped x ((aside.entries x of).mp waits) of

theorem Halted.of_down (down : (stateOf c p).up = false) (other : stateOf c p ≠ .stopped) : Halted p c :=
  ⟨fun up => absurd (down.symm.trans up) Bool.false_ne_true, fun stopped => absurd stopped other⟩

/-- The part with the pump's idle expiry dropped. -/
def idleCleared (c : Chip) (p : PumpId) : Chip := c.updPump p fun q => { q with idleExpiry := none }

theorem idleCleared_own (c : Chip) (p : PumpId) : (idleCleared c p).pumps[p] = { c.pumps[p] with idleExpiry := none } := updPump_own c p _

theorem idleCleared_state (c : Chip) (p : PumpId) : stateOf (idleCleared c p) p = stateOf c p := by
  rw [stateOf, idleCleared_own]
  rfl

theorem dequeue_halted (waits : stateOf c p = .stopped ∨ stateOf c p = .resting) : Halted p (c.dequeue p) := by
  refine ⟨fun up => ?_, fun _ x waiting => ?_⟩
  · have same : stateOf (c.dequeue p) p = stateOf c p := rfl
    rw [same] at up
    rcases waits with h | h <;> rw [h] at up <;> cases up
  · have left : x ∈ (c.queue.filter fun e => decide (e.pump ≠ p)) ++ (c.joining.filter fun e => decide (e.pump ≠ p)) := waiting
    rw [← List.filter_append, List.mem_filter, decide_eq_true_eq] at left
    exact left.2

theorem pending_halted (up : stateOf c p = .priming ∨ (stateOf c p = .running ∧ c.now < (c.pumps[p]).runMinEnd)) :
    Halted p (c.updPump p fun q => { q with idleExpiry := none, stopPending := true }) := by
  have record := updPump_own c p fun q => { q with idleExpiry := none, stopPending := true }
  have same : stateOf (c.updPump p fun q => { q with idleExpiry := none, stopPending := true }) p = stateOf c p := by
    rw [stateOf, record]
    rfl
  refine ⟨fun _ => ?_, fun stopped => ?_⟩
  · rw [same, record]
    refine ⟨rfl, fun running => ?_⟩
    rcases up with priming | ⟨-, early⟩
    · cases priming.symm.trans running
    · exact early
  · rw [same] at stopped
    rcases up with priming | ⟨running, -⟩
    · cases priming.symm.trans stopped
    · cases running.symm.trans stopped

theorem enterResting_halted (c : Chip) (p : PumpId) : Halted p (c.enterResting p) := by
  have rests : stateOf (c.enterResting p) p = if c.lines.drvOk[p] then .resting else .faulted := (enterResting_leaves c p).1
  refine .of_down ?_ ?_ <;> rw [rests] <;> split
  exacts [rfl, rfl, nofun, nofun]

theorem stopRequest_halted (c : Chip) (p : PumpId) : Halted p (c.stopRequest p) := by
  cases state : (c.pumps[p]).state with
  | stopped =>
    rw [stopRequest_waiting (.inl state)]
    exact dequeue_halted (.inl ((idleCleared_state c p).trans state))
  | resting =>
    rw [stopRequest_waiting (.inr state)]
    exact dequeue_halted (.inr ((idleCleared_state c p).trans state))
  | priming =>
    rw [stopRequest_pends (.inl state)]
    exact pending_halted (.inl state)
  | running =>
    by_cases early : c.now < (c.pumps[p]).runMinEnd
    · rw [stopRequest_pends (.inr ⟨state, early⟩)]
      exact pending_halted (.inr ⟨state, early⟩)
    · rw [stopRequest_rests state (Nat.not_lt.mp early)]
      exact enterResting_halted _ p
  | faulted =>
    rw [stopRequest_down (.inl state)]
    have same : stateOf (idleCleared c p) p = .faulted := (idleCleared_state c p).trans state
    exact .of_down (c := idleCleared c p) (by rw [same]; rfl) (by rw [same]; nofun)
  | outOfService =>
    rw [stopRequest_down (.inr state)]
    have same : stateOf (idleCleared c p) p = .outOfService := (idleCleared_state c p).trans state
    exact .of_down (c := idleCleared c p) (by rw [same]; rfl) (by rw [same]; nofun)

/-- A stop request leaves the others halted. -/
theorem stopRequest_stays (h : Halted p c) (q : PumpId) : Halted p (c.stopRequest q) := by
  by_cases same : p = q
  · subst same
    exact stopRequest_halted c p
  · exact h.aside (stopRequest_aside c same) (Chip.stopRequest_water c q).now

/-! ## The event ends without a grant -/

/-- Nothing can be granted, as no STOPPED pump waits. -/
theorem endEvent_ungranted (h : ∀ p, Halted p c) : c.endEvent = collected c := by
  refine Chip.testQueue_none (collected c) ?_
  rw [Option.eq_none_iff_forall_ne_some]
  intro x grants
  have waits : Waiting (collected c) x := List.mem_append_left _ (Chip.grantable_mem _ grants).1
  have stopped : stateOf c x.pump = .stopped := eligible_stopped (c := collected c) grants
  have aside := collected_aside x.pump c
  exact (h x.pump).gone stopped x ((aside.entries x rfl).mp waits) rfl

end Sys2Proof.Proofs.Halting


/-! PROOF. ENDING begins (O14): the record, the image, the water, the lamps, the audio and the clock. -/

namespace Sys2Proof.Proofs.EndingShow

open Sys2Proof Sys2Proof.Machine Sys2Proof.Proofs.StepEffects Sys2Proof.Proofs.Water Sys2Proof.Proofs.Orders Sys2Proof.Proofs.OnePump
open Sys2Proof.Proofs.ShowHeart Sys2Proof.Proofs.Trips Sys2Proof.Proofs.FountainMoves Sys2Proof.Proofs.Halting Sys2Proof.Proofs.Settling Sys2Proof.Proofs.Tripped

variable {c d e : Chip} {p q : PumpId} {j : JetId} {fade origin : Nat}

/-! ## The pumps stopped, the jets shut -/

/-- A pump is told to stop (R44). -/
def halt (p : PumpId) (c : Chip) : Chip := (c.updPump p fun q => { q with intent := .stop }).stopRequest p

theorem halt_moves (p : PumpId) (c : Chip) : WaterMoves noJet anyPump true c (halt p c) :=
  .trans (.move (.drive c p _ trivial rfl)) (stopRequest_moves _ p)

theorem halt_drive (p : PumpId) (c : Chip) (q : PumpId) :
    driveOf (halt p c) q = if q = p then (.stop, (driveOf c p).2) else driveOf c q := by
  rw [halt, waterMoves_drive (I := noPump) (J := noJet) (b := true) (stopRequest_moves _ p) not_false, updPump_drive]
  rfl

theorem halt_halts (p : PumpId) (c : Chip) : Halted p (halt p c) := stopRequest_halted _ p

theorem halt_stays (h : Halted p c) (q : PumpId) : Halted p (halt q c) := by
  by_cases same : p = q
  · subst same
    exact halt_halts p c
  · exact h.aside ((updPump_aside c same _).trans (stopRequest_aside _ same))
      (((Chip.updPump_water c q _).trans (Chip.stopRequest_water _ q)).now)

/-- The pumps told to stop, once the jets are shut. -/
def halted (c : Chip) : Chip := Chip.forEach (List.finRange 12) halt (c.demandWrites (List.finRange 48) .showRun 0)

theorem halted_all (c : Chip) (p : PumpId) : Halted p (halted c) :=
  forEach_makes (P := Halted) halt_halts (fun _ q _ h => halt_stays h q) _ _ p (List.mem_finRange p)

theorem shutDown_eq (c : Chip) : shutDown c = collected (halted c) := endEvent_ungranted (halted_all c)

theorem halts_moves (c : Chip) : WaterMoves noJet anyPump true (c.demandWrites (List.finRange 48) .showRun 0) (halted c) :=
  .forEach fun p _ d => halt_moves p d

theorem halted_moves (c : Chip) : WaterMoves anyJet anyPump true c (halted c) :=
  (demandWrites_moves c _ _ fun _ _ => trivial).trans (.forEach fun p _ d => (setIntent_moves d p _).trans (stopRequest_moves _ p))

theorem halted_jets (c : Chip) : (halted c).jets = Vector.replicate 48 shutByShow := by
  have shut := demandWrites_all_shut .showRun c
  have moves := halts_moves c
  generalize c.demandWrites (List.finRange 48) .showRun 0 = d at shut moves
  refine Vector.ext fun n inside => ?_
  have was : d.jets[(⟨n, inside⟩ : JetId)] = shutByShow := by
    rw [shut]
    exact Vector.getElem_replicate _
  rw [Vector.getElem_replicate]
  exact (waterMoves_closed (j := ⟨n, inside⟩) moves not_false (by rw [was])).trans was

theorem halted_drive (c : Chip) (p : PumpId) : driveOf (halted c) p = (.stop, (c.pumps[p]).policy) := by
  rw [halted, forEach_drive (fun _ x => (.stop, x.2)) (fun _ _ => rfl) fun p c q => halt_drive p c q, if_pos (List.mem_finRange p),
    waterMoves_drive (I := noPump) (demandWrites_moves (J := anyJet) c _ _ fun _ _ => trivial) not_false]
  rfl

theorem halted_ungranted (c : Chip) : Ungranted c (halted c) :=
  (demandWrites_ungranted c _ _ _).trans (.forEach fun p _ => stopRequest_ungranted _ p)

/-- The water of a show that ends: every jet shut, no start granted. -/
theorem shutDown_is (c : Chip) : shutDown c = { c with
      jets := Vector.replicate 48 shutByShow, pumps := (shutDown c).pumps, queue := (shutDown c).queue
      joining := (shutDown c).joining, circ := (shutDown c).circ, links := (shutDown c).links } := by
  have frame := (waterMoves_water (halted_moves c)).1
  rw [halted_jets, show (halted c).history = c.history from halted_ungranted c] at frame
  rw [shutDown_eq]
  generalize halted c = d at frame
  rw [frame]
  rfl

theorem shutDown_pump (c : Chip) (p : PumpId) : Halted p (shutDown c) ∧ driveOf (shutDown c) p = (.stop, (c.pumps[p]).policy) := by
  have all := halted_all c p
  have drive := halted_drive c p
  rw [shutDown_eq]
  generalize halted c = d at all drive
  exact ⟨all.aside (collected_aside p _) rfl, drive⟩

theorem shutDown_noted (c : Chip) : Noted [.pumpFault] c (shutDown c) := waterMoves_noted (shutDown_moves (b := true) c)

theorem shutDown_flush (c : Chip) : FlushStands c (shutDown c) := waterMoves_flush (shutDown_moves (b := true) c)

/-! ## Entry into ENDING (R44) -/

theorem fadeOut_is (c : Chip) (origin fade : Nat) : ∃ ls : Vector Fade 128, c.fadeOut origin fade = { c with showLayer := ls } ∧
    ∀ i : Fin 128, ls[i] = ⟨c.showLevel i, 0, origin, fade, .showTime⟩ := ⟨_, rfl, fun _ => Vector.getElem_ofFn _⟩

/-- The image of an ended show keeps each pump's policy. -/
theorem endingImage_pump (m : ShowImage) (p : PumpId) : (endingImage m).pumps[p] = ⟨.stop, (m.pumps[p]).policy⟩ := Vector.getElem_ofFn _

/-- The part with its show record, image and lamps those of an ENDING show. -/
def endingBegun (c : Chip) (fade origin : Nat) : Chip := endingRecorded (c.fadeOut origin fade)

/-- What entry into ENDING leaves. -/
structure Ended (fade origin : Nat) (c d : Chip) : Prop where
  frame : d = { c with
    run := endingRun c.run, image := endingImage c.image, jets := Vector.replicate 48 shutByShow
    pumps := d.pumps, queue := d.queue, joining := d.joining, circ := d.circ, showLayer := d.showLayer
    playback := if c.playback.state = .off then c.playback else { c.playback with state := .off, buffer := [], endAt := none }
    clock := ⟨c.clock.value, .localTime, true, d.clock.stamp⟩, mode := { c.mode with restore := none }, links := d.links }
  noted : Noted [.showState, .pumpFault] c d
  heard : ∀ m : LinkId, .showState ∈ (d.links[m]).notices
  pumps : ∀ p : PumpId, Halted p d ∧ driveOf d p = (.stop, (c.pumps[p]).policy)
  lamps : ∀ i : Fin 128, d.showLayer[i] = ⟨c.showLevel i, 0, origin, fade, .showTime⟩
  flush : FlushStands c d

theorem endingBegun_is (c : Chip) (fade origin : Nat) : ∃ ls : Vector Fade 128, endingBegun c fade origin = { c with
      run := endingRun c.run, image := endingImage c.image, mode := { c.mode with restore := none }, showLayer := ls } ∧
    ∀ i : Fin 128, ls[i] = ⟨c.showLevel i, 0, origin, fade, .showTime⟩ := by
  obtain ⟨ls, is, levels⟩ := fadeOut_is c origin fade
  refine ⟨ls, ?_, levels⟩
  rw [endingBegun, is]
  rfl

theorem enterEnding_ends (c : Chip) (fade origin : Nat) : Ended fade origin c (c.enterEnding fade origin) := by
  obtain ⟨ls, begun, levels⟩ := endingBegun_is c fade origin
  have is : c.enterEnding fade origin = ((shutDown (endingBegun c fade origin)).endAudio).notify .showState := enterEnding_eq c fade origin
  have frame := shutDown_is (endingBegun c fade origin)
  have pumps := shutDown_pump (endingBegun c fade origin)
  have noted := shutDown_noted (endingBegun c fade origin)
  have flush := shutDown_flush (endingBegun c fade origin)
  generalize shutDown (endingBegun c fade origin) = d at is frame pumps noted flush
  rw [begun] at frame pumps noted flush
  rw [is]
  have same (p : PumpId) : Aside p d (d.endAudio.notify .showState) := .of_same rfl rfl rfl
  refine ⟨?_, ?_, notify_heard _ _, fun p => ⟨(pumps p).1.aside (same p) rfl, (pumps p).2⟩, fun i => ?_, flush⟩
  · rw [frame]
    rfl
  · have raised := Noted.notify (may := [.showState, .pumpFault]) (n := .showState) (by simp) d.endAudio
    exact .trans (.of_links rfl) ((noted.mono (by simp)).trans (.trans (.of_links rfl) raised))
  · rw [← levels i]
    show d.showLayer[i] = _
    rw [frame]

end Sys2Proof.Proofs.EndingShow


/-! PROOF. ENDING completes (O14). -/

namespace Sys2Proof.Proofs.EndingShow

open Sys2Proof Sys2Proof.Machine Sys2Proof.Proofs.StepEffects Sys2Proof.Proofs.Water Sys2Proof.Proofs.Orders Sys2Proof.Proofs.OnePump
open Sys2Proof.Proofs.ShowHeart Sys2Proof.Proofs.Trips Sys2Proof.Proofs.FountainMoves Sys2Proof.Proofs.Halting
open Sys2Proof.Proofs.Settling Sys2Proof.Proofs.Flushing Sys2Proof.Proofs.LampFrame Sys2Proof.Proofs.SleepWake

variable {s : State} {c d e before : Chip} {p q : PumpId} {j : JetId} {fade origin : Nat} {k : PageId}

theorem lampsDark_iff : c.lampsDark = true ↔ c.outputs = darkOutputs := by
  rw [Chip.lampsDark, darkOutputs, List.all_eq_true]
  constructor
  · intro dark
    ext1 i inside
    rw [Vector.getElem_replicate]
    exact of_decide_eq_true (dark _ (Vector.mem_toList_iff.mpr (Vector.getElem_mem inside)))
  · intro is x mem
    rw [is, Vector.toList_replicate] at mem
    exact decide_eq_true (List.eq_of_mem_replicate mem)

/-- The page of an ended show is READY again. -/
theorem closeShow_live (live : c.run.livePage = some k) : c.closeShow =
    Chip.notify { c with pages := c.pages.set k { c.pages[k] with state := .ready }, run := c.run.over } .showState := by
  unfold Chip.closeShow Chip.releasePage
  rw [live]
  rfl

/-- What the completion of ENDING leaves (R45). -/
structure Completed (k : PageId) (c d : Chip) : Prop where
  run      : d.run = c.run.over
  pages    : d.pages = c.pages.set k { c.pages[k] with state := .ready }
  mode     : d.mode.mode = .standby
  image    : d.image = c.image
  playback : d.playback = c.playback
  clock    : d.clock = { c.clock with running := false }
  outputs  : d.outputs = c.outputs
  noted    : Noted [.showState, .mode, .pumpFault] c d
  heard    : ∀ m : LinkId, .showState ∈ (d.links[m]).notices ∧ .mode ∈ (d.links[m]).notices

theorem darkenShow_is (c : Chip) : ∃ ls : Vector Fade 128, c.darkenShow = { c with showLayer := ls } := ⟨_, rfl⟩

theorem completeEnding_completes (live : c.run.livePage = some k) (mode : c.mode.mode ≠ .standby) :
    Completed k c c.completeEnding ∧ c.completeEnding.circ = c.circ := by
  have closed := closeShow_live live
  obtain ⟨ls, dark⟩ := darkenShow_is c.closeShow.stopClock
  have is : c.completeEnding = Chip.toMode c.closeShow.stopClock.darkenShow .standby := rfl
  rw [dark, toMode_other (by rw [closed]; exact mode)] at is
  have closing := Noted.notify (may := [.showState, .mode, .pumpFault]) (n := .showState) (by simp)
    { c with pages := c.pages.set k { c.pages[k] with state := .ready }, run := c.run.over }
  rw [← closed] at closing
  have told : ∀ m : LinkId, .showState ∈ (c.closeShow.links[m]).notices := by
    rw [closed]
    exact notify_heard _ _
  have same : c.closeShow.run = c.run.over ∧ c.closeShow.pages = c.pages.set k { c.pages[k] with state := .ready } ∧
      c.closeShow.image = c.image ∧ c.closeShow.playback = c.playback ∧ c.closeShow.clock = c.clock ∧
      c.closeShow.outputs = c.outputs ∧ c.closeShow.circ = c.circ := by
    rw [closed]
    exact ⟨rfl, rfl, rfl, rfl, rfl, rfl, rfl⟩
  generalize c.closeShow = d at is closing told same
  obtain ⟨run, pages, image, playback, clock, outputs, circ⟩ := same
  rw [is]
  have raised := Noted.notify (may := [.showState, .mode, .pumpFault]) (n := .mode) (by simp)
    { d.stopClock with showLayer := ls, mode := { d.stopClock.mode with mode := .standby } }
  refine ⟨⟨run, pages, rfl, image, playback, ?_, outputs, closing.trans (.trans (.of_links rfl) raised), fun m => ⟨?_, ?_⟩⟩, circ⟩
  · rw [← clock]
    rfl
  · exact (raised m).kept _ (told m)
  · exact notify_heard _ _ m

/-- A show whose ENDING completes is settled after its completion. -/
theorem settle_completed (ending : c.run.cue = .ending) (down : c.pumpsDown = true) (dark : c.lampsDark = true)
    (live : c.run.livePage = some k) (mode : c.mode.mode ≠ .standby) (before : Chip) :
    Chip.settle before c = Chip.settle before c.completeEnding := by
  have idle : c.completeEnding.run.cue = .idle := by rw [(completeEnding_completes live mode).1.run]
  have completes : c.testEnding = c.completeEnding := if_pos ⟨ending, down, dark⟩
  have over_ : c.completeEnding.testRestore.testEnding = c.completeEnding := by
    rw [testRestore_stands (.inl (by rw [idle]; nofun)), testEnding_stands (.inl (by rw [idle]; nofun))]
  rw [settle_eq, settle_eq, over_, testRestore_stands (.inl (by rw [ending]; nofun)), completes]

theorem completed_calm (completed : Completed k c d) (calm : Calm d e) : Completed k c e := by
  have frame := calm.frame
  refine ⟨?_, ?_, ?_, ?_, ?_, ?_, ?_, completed.noted.trans (calm.noted.mono (by simp)), fun m =>
    ⟨(calm.noted m).kept _ (completed.heard m).1, (calm.noted m).kept _ (completed.heard m).2⟩⟩
  · rw [frame]; exact completed.run
  · rw [frame]; exact completed.pages
  · rw [calm.mode]; exact completed.mode
  · rw [frame]; exact completed.image
  · rw [frame]; exact completed.playback
  · rw [frame]; exact completed.clock
  · rw [frame]; exact completed.outputs

/-- The tests after a command complete an ENDING that is to complete (R45); with no debt no flush begins after it. -/
theorem settle_completes (ending : c.run.cue = .ending) (down : c.pumpsDown = true) (dark : c.lampsDark = true)
    (live : c.run.livePage = some k) (mode : c.mode.mode ≠ .standby) (before : Chip) :
    Completed k c (Chip.settle before c) ∧ (c.circ.debt = 0 → c.waterSame (Chip.settle before c)) := by
  obtain ⟨completed, circ⟩ := completeEnding_completes live mode
  have water := completeEnding_waterSame c
  rw [settle_completed ending down dark live mode]
  generalize c.completeEnding = d at completed circ water
  have idle : d.run.cue = .idle := by rw [completed.run]
  refine ⟨completed_calm completed (settle_calm before (.inl idle)), fun paid => ?_⟩
  rw [settle_stands (.inl (by rw [idle]; nofun)) (.inl (by rw [idle]; nofun)) (not_flushDue_of_debt (by rw [circ]; exact paid))
    (by rw [completed.mode]; nofun)]
  exact water

/-- An ENDING that is not to complete stands. -/
theorem settle_endingStands (ending : c.run.cue = .ending) (mode : c.mode.mode = .showMode)
    (stands : c.pumpsDown = false ∨ c.lampsDark = false) (before : Chip) :
    Chip.settle before c = { c with mode := { c.mode with dormancy := none } } :=
  settle_attended (.inl (by rw [ending]; nofun)) (.inr stands) (by rw [mode]; nofun) (by rw [mode]; nofun)

theorem not_pumpsDown_iff : c.pumpsDown = false ↔ ∃ p : PumpId, (c.pumps[p]).state.up = true := by
  rw [Bool.eq_false_iff, ne_eq, pumpsDown_iff, not_forall]
  exact exists_congr fun p => by rw [Bool.not_eq_false]

/-- Settles O14: the shape of a show that enters ENDING, and the one test that completes it. -/
theorem endingBeginsAndCompletes : Obligations.EndingBeginsAndCompletes := by
  refine ⟨fun c fade origin => ?_, fun s free ending mode k live => ?_⟩
  · have ended := enterEnding_ends c fade origin
    generalize c.enterEnding fade origin = d at ended
    have image : d.image = endingImage c.image := by rw [ended.frame]
    refine ⟨d, rfl, ?_, noticed_of_noted ended.noted (by simpa using ended.heard) (by simp), fun p => ?_, ended.lamps,
      flushStands_none ended.flush⟩
    · rw [image]
      exact ended.frame
    · obtain ⟨halted, drive⟩ := ended.pumps p
      obtain ⟨intent, policy⟩ := driveOf_iff.mp drive
      refine ⟨by rw [image]; exact endingImage_pump _ p, intent, policy, fun up => ?_⟩
      obtain ⟨pending, early⟩ := halted.pending up
      cases state : (d.pumps[p]).state with
      | running => exact .inl ⟨pending, early state⟩
      | priming => exact .inr rfl
      | _ => rw [state] at up; cases up
  · have framed : (lampFramed s.chip).run = s.chip.run ∧ (lampFramed s.chip).pages = s.chip.pages ∧
        (lampFramed s.chip).clock = s.chip.clock ∧ (lampFramed s.chip).mode = s.chip.mode ∧ (lampFramed s.chip).pumps = s.chip.pumps := by
      have lamps := Chip.lampFrame_lamps (s.chip.advance (25 - s.chip.lampTimer))
      exact ⟨lamps.run, lamps.pages, lamps.clock, lamps.mode, lamps.pumps⟩
    have is : s.chip.frameReached = Chip.settle s.chip (lampFramed s.chip) := rfl
    refine ⟨_, frameReached_run free, ?_⟩
    rw [is]
    generalize lampFramed s.chip = c at framed
    obtain ⟨run, pages, clock, same, pumps⟩ := framed
    rw [← run, ← pages, ← clock, ← pumps]
    rw [← run] at ending live
    rw [← same] at mode
    by_cases completes : c.pumpsDown = true ∧ c.lampsDark = true
    · obtain ⟨down, dark⟩ := completes
      have completed := (settle_completes ending down dark live (by rw [mode]; nofun) s.chip).1
      refine .inl ⟨by rw [completed.run], pumpsDown_iff.mp down, ?_, completed.run, completed.pages, completed.clock,
        completed.mode, completed.heard⟩
      rw [completed.outputs]
      exact lampsDark_iff.mp dark
    · have stands : c.pumpsDown = false ∨ c.lampsDark = false := by
        rw [not_and_or, Bool.not_eq_true, Bool.not_eq_true] at completes
        exact completes
      rw [settle_endingStands ending mode stands]
      refine .inr ⟨rfl, rfl, rfl, mode, stands.imp not_pumpsDown_iff.mp fun lit dark => ?_⟩
      have dark : c.lampsDark = true := lampsDark_iff.mpr dark
      rw [dark] at lit
      cases lit

end Sys2Proof.Proofs.EndingShow


/-! PROOF. STOP by the cue state (O13). -/

namespace Sys2Proof.Proofs.EndingShow

open Sys2Proof Sys2Proof.Machine Sys2Proof.Proofs.StepEffects Sys2Proof.Proofs.Water Sys2Proof.Proofs.Orders Sys2Proof.Proofs.OnePump
open Sys2Proof.Proofs.ShowHeart Sys2Proof.Proofs.Trips Sys2Proof.Proofs.FountainMoves Sys2Proof.Proofs.Halting
open Sys2Proof.Proofs.Settling Sys2Proof.Proofs.Flushing Sys2Proof.Proofs.SleepWake Sys2Proof.Proofs.Requests

variable {s : State} {l : LinkId} {c d e before : Chip} {k : PageId} {fade origin : Nat}

/-! ## UNCUE (R39, R61) -/

/-- The part once a CUED show has been uncued, before SHOW_STATE is noticed. -/
def uncued (c : Chip) (k : PageId) : Chip :=
  { c with
    pages := c.pages.set k { c.pages[k] with state := .ready }, run := c.run.over
    playback := { c.playback with state := .off, buffer := [], endAt := none } }

theorem uncue_is (live : c.run.livePage = some k) : c.uncue = (uncued c k).notify .showState := by
  rw [Chip.uncue, closeShow_live live]
  rfl

/-- What UNCUE leaves, after the tests that follow. -/
structure Uncued (k : PageId) (c d : Chip) : Prop where
  calm  : Calm ((uncued c k).notify .showState) d
  noted : Noted [.showState, .pumpFault] c d
  heard : ∀ m : LinkId, .showState ∈ (d.links[m]).notices
  dry   : c.mode.mode ≠ .dormant → c.circ.debt = 0 → c.waterSame d

theorem settle_uncued (live : c.run.livePage = some k) (before : Chip) : Uncued k c (Chip.settle before c.uncue) := by
  have told := notify_heard (uncued c k) .showState
  have raised := Noted.notify (may := [.showState, .pumpFault]) (n := .showState) (by simp) (uncued c k)
  rw [uncue_is live]
  have idle : ((uncued c k).notify .showState).run.cue = .idle := rfl
  have calm := settle_calm before (.inl idle)
  refine ⟨calm, .trans (.of_links rfl) (raised.trans (calm.noted.mono (by simp))), fun m => (calm.noted m).kept _ (told m),
    fun dormant paid => ?_⟩
  rw [settle_stands (c := (uncued c k).notify .showState) (.inl (by rw [idle]; nofun)) (.inl (by rw [idle]; nofun))
    (not_flushDue_of_debt paid) dormant]
  exact ⟨rfl, rfl, rfl, rfl, rfl, rfl⟩

/-! ## A show that the panel has taken (R43) -/

/-- The part once a show that the panel has taken is ended, before SHOW_STATE is noticed; `ls` is its darkened show layer. -/
def dropped (c : Chip) (k : PageId) (ls : Vector Fade 128) : Chip :=
  { c with
    pages := c.pages.set k { c.pages[k] with state := .ready }, run := c.run.over, image := clearedImage, showLayer := ls
    playback := { c.playback with state := .off, buffer := [] } }

theorem dropShow_is (live : c.run.livePage = some k) : ∃ ls : Vector Fade 128, c.dropShow = (dropped c k ls).notify .showState ∧
    ∀ i : Fin 128, ls[i] = ⟨0, 0, (c.showLayer[i]).origin, 0, .showTime⟩ := by
  obtain ⟨ls, dark, levels⟩ : ∃ ls : Vector Fade 128, c.darkenShow = { c with showLayer := ls } ∧
    ∀ i : Fin 128, ls[i] = { (c.showLayer[i]).settled 0 with clock := .showTime } := ⟨_, rfl, fun _ => Vector.getElem_ofFn _⟩
  refine ⟨ls, ?_, levels⟩
  rw [Chip.dropShow, dark]
  exact closeShow_live (c := { c with showLayer := ls, playback.state := .off, playback.buffer := [], image := clearedImage }) live

/-! ## STOP -/

theorem stopShow_ends (cue : c.run.cue = .running ∨ c.run.cue = .holding ∨ c.run.cue = .restoring ∨
    (c.run.cue = .paused ∧ c.run.pauseCause = some .program)) : c.stopShow = c.enterEnding 2000 c.clock.value := by
  unfold Chip.stopShow
  rcases cue with is | is | is | ⟨is, cause⟩ <;> rw [is]
  · rfl
  · rfl
  · rfl
  · exact if_neg (by rw [cause]; nofun)

theorem stopShow_drops (cue : c.run.cue = .paused) (cause : c.run.pauseCause = some .take) : c.stopShow = c.dropShow := by
  unfold Chip.stopShow
  rw [cue]
  exact if_pos cause

theorem ruleStop_stops (idle : c.run.cue ≠ .idle) (ending : c.run.cue ≠ .ending) : ruleStop c = (c.settle c.stopShow).taken := by
  rw [ruleStop, if_neg idle, if_neg ending]

theorem ended_stays (ended : Ended fade origin c d) : d.run = endingRun c.run ∧ d.outputs = c.outputs ∧ d.pages = c.pages ∧
    d.mode.mode = c.mode.mode ∧ d.jets = Vector.replicate 48 shutByShow ∧ d.circ.debt = c.circ.debt := by
  obtain ⟨f, circ, -⟩ := ended.flush
  have frame := ended.frame
  refine ⟨by rw [frame], by rw [frame], by rw [frame], by rw [frame], by rw [frame], by rw [circ]⟩

/-- Settles O13: STOP's tests, and by the cue state the ENDING, the completion or the end of the show. -/
theorem stopByCueState : Obligations.StopByCueState := by
  intro s l heard
  have reacts : Reacts (.stop l) s l 16 ruleStop := reacts_of_hears rfl rfl heard
  refine ⟨fun idle => reacts.refuses (if_pos idle), fun ending => reacts.answers ?_, fun cued k live => ?_, fun cue mode => ?_,
    fun paused cause mode k live => ?_⟩
  · rw [ruleStop, if_neg (by rw [ending]; nofun), if_pos ending]
    rfl
  · have stops : s.chip.stopShow = s.chip.uncue := by rw [Chip.stopShow, cued]
    have rule := ruleStop_stops (c := s.chip) (by rw [cued]; nofun) (by rw [cued]; nofun)
    rw [stops] at rule
    have left := settle_uncued live s.chip
    generalize s.chip.settle s.chip.uncue = d at rule left
    have frame := left.calm.frame
    refine reacts.takes rule (noticed_of_noted left.noted (by simpa using left.heard) (by simp)) ⟨?_, ?_, ?_⟩
    · show d.pages = _
      rw [frame]
      rfl
    · show d.run = _
      rw [frame]
      rfl
    · show d.playback = _
      rw [frame]
      rfl
  · have rule := ruleStop_stops (c := s.chip) (by rcases cue with is | is | is | ⟨is, -⟩ <;> rw [is] <;> nofun)
      (by rcases cue with is | is | is | ⟨is, -⟩ <;> rw [is] <;> nofun)
    rw [stopShow_ends cue] at rule
    have ended := enterEnding_ends s.chip 2000 s.chip.clock.value
    obtain ⟨run, outputs, pages, same_mode, jets, debt⟩ := ended_stays ended
    generalize s.chip.enterEnding 2000 s.chip.clock.value = e at rule ended run outputs pages same_mode jets debt
    have dark_iff : e.lampsDark = s.chip.lampsDark := by rw [Chip.lampsDark, Chip.lampsDark, outputs]
    have ending : e.run.cue = .ending := by rw [run]; rfl
    have show_mode : e.mode.mode = .showMode := same_mode.trans mode
    refine ⟨e, rfl, fun stands => reacts.answers ?_, fun dark down k live => ?_⟩
    · rw [rule, settle_endingStands ending show_mode]
      · rfl
      · rw [dark_iff, not_pumpsDown_iff]
        exact stands.symm
    · obtain ⟨completed, dry⟩ := settle_completes (k := k) ending (pumpsDown_iff.mpr down) (by rw [dark_iff]; exact dark)
        (by rw [run]; exact live) (by rw [show_mode]; nofun) s.chip
      generalize s.chip.settle e = d at rule completed dry
      refine reacts.takes rule (noticed_of_noted (all := [.showState, .mode, .pumpFault])
        ((ended.noted.mono (by simp)).trans completed.noted) ?_ (by simp)) ⟨?_, ?_, completed.mode, completed.image, completed.playback,
        completed.clock, fun paid => ?_⟩
      · intro n mem m
        obtain ⟨show_, mode_⟩ := completed.heard m
        rcases List.mem_cons.mp mem with rfl | mem
        · exact show_
        · rw [List.mem_singleton.mp mem]
          exact mode_
      · show d.run = _
        rw [completed.run, run]
        rfl
      · show d.pages = _
        rw [completed.pages, pages]
      · obtain ⟨pumps, -, -, -, same_jets, -⟩ := dry (debt.trans paid)
        exact ⟨same_jets.trans jets, pumps⟩
  · have rule := ruleStop_stops (c := s.chip) (by rw [paused]; nofun) (by rw [paused]; nofun)
    obtain ⟨ls, is, levels⟩ := dropShow_is live
    rw [stopShow_drops paused cause, is, settle_attended (c := (dropped s.chip k ls).notify .showState) (.inl nofun) (.inl nofun)
      (by rw [show ((dropped s.chip k ls).notify .showState).mode.mode = _ from mode]; nofun)
      (by rw [show ((dropped s.chip k ls).notify .showState).mode.mode = _ from mode]; nofun)] at rule
    refine reacts.takes rule (noticed_notify (d := { dropped s.chip k ls with mode := { s.chip.mode with dormancy := none } })
      .showState rfl) ⟨rfl, levels⟩

end Sys2Proof.Proofs.EndingShow


/-! PROOF. CUE and UNCUE (O10). -/

namespace Sys2Proof.Proofs.CueShow

open Sys2Proof Sys2Proof.Machine Sys2Proof.Proofs.StepEffects Sys2Proof.Proofs.Water Sys2Proof.Proofs.EndingShow
open Sys2Proof.Proofs.Trips Sys2Proof.Proofs.Settling Sys2Proof.Proofs.SleepWake Sys2Proof.Proofs.Requests Sys2Proof.Proofs.Flushing

variable {s : State} {l : LinkId} {c d e before : Chip} {k : PageId} {i : StepIndex} {page origin : Nat} {music : Bool}

/-! ## CUE's tests (R2, R38) -/

theorem ruleCue_page (beyond : 4 ≤ page) : ruleCue page music origin true c = c.refuse .badArg :=
  dif_neg fun ⟨within, _⟩ => absurd within (Nat.not_lt.mpr beyond)

theorem ruleCue_busy (busy : c.run.cue ≠ .idle) : ruleCue k music origin true c = c.refuse .state := by
  rw [ruleCue, dif_pos ⟨k.isLt, rfl⟩, if_pos busy]

theorem ruleCue_mode (idle : c.run.cue = .idle) (mode : c.mode.mode.mayCue = false) : ruleCue k music origin true c = c.refuse .state := by
  rw [ruleCue, dif_pos ⟨k.isLt, rfl⟩, if_neg (not_not_intro idle), if_pos (by rw [mode]; rfl)]

theorem ruleCue_page_state (idle : c.run.cue = .idle) (mode : c.mode.mode.mayCue = true) (state : (c.pages[k]).state ≠ .ready) :
    ruleCue k music origin true c = c.refuse .state := by
  rw [ruleCue, dif_pos ⟨k.isLt, rfl⟩, if_neg (not_not_intro idle), if_neg (by rw [mode]; nofun)]
  exact if_pos state

theorem ruleCue_ready (idle : c.run.cue = .idle) (mode : c.mode.mode.mayCue = true) (state : (c.pages[k]).state = .ready) :
    (startIndex : (c.pages[k]).startIndex = none) → ruleCue k music origin true c = c.refuse .badScene := by
  intro startIndex
  rw [ruleCue, dif_pos ⟨k.isLt, rfl⟩, if_neg (not_not_intro idle), if_neg (by rw [mode]; nofun)]
  refine (if_neg (not_not_intro state)).trans ?_
  have startIndex : (c.pages[k.val]).startIndex = none := startIndex
  rw [startIndex]

theorem ruleCue_takes (idle : c.run.cue = .idle) (mode : c.mode.mode.mayCue = true) (state : (c.pages[k]).state = .ready)
    (startIndex : (c.pages[k]).startIndex = some i) :
    ruleCue k music origin true c = (c.settle (c.cueShow k i music origin)).taken := by
  rw [ruleCue, dif_pos ⟨k.isLt, rfl⟩, if_neg (not_not_intro idle), if_neg (by rw [mode]; nofun)]
  refine (if_neg (not_not_intro state)).trans ?_
  have startIndex : (c.pages[k.val]).startIndex = some i := startIndex
  rw [startIndex]

theorem startIndex_none {pg : Page} (empty : pg.scenes[0] = none) : pg.startIndex = none := by rw [Page.startIndex, empty]

theorem startIndex_some {pg : Page} (start : pg.scenes[0] = some i.val) : pg.startIndex = some i := by
  rw [Page.startIndex, start]
  exact dif_pos i.isLt

/-! ## What CUE sets up (R38, R61, R77) -/

/-- The page taken by CUE, and the show record before its cursors. -/
def pageTaken (c : Chip) (k : PageId) : Chip :=
  { c with
    pages := c.pages.set k { c.pages[k] with state := .live }
    run := ⟨.cued, some k, c.run.mainCursor, c.run.mainDue, c.run.holdCursor, none, Vector.replicate 4 0, none, none, none, none⟩ }

/-- The part once a show has been cued, before SHOW_STATE is noticed. -/
def cued (c : Chip) (k : PageId) (i : StepIndex) (hold : Option StepIndex) (music : Bool) (origin : Nat) : Chip :=
  { c with
    pages := c.pages.set k { c.pages[k] with state := .live }
    run := ⟨.cued, some k, some i, some (stepDelay (c.pages[k]).steps[i]), hold, none, #v[0, 0, 0, 0], none, none, none, none⟩
    image := clearedImage
    playback :=
      if music then ⟨.filling, true, origin, origin, none, c.playback.held, 0, []⟩
      else ⟨.off, false, c.playback.p, c.playback.p0, none, c.playback.held, 0, []⟩
    clock := ⟨0, if music then .audio else .localTime, false, c.clock.stamp⟩ }

theorem pageTaken_page (c : Chip) (k : PageId) : (pageTaken c k).pages[k] = { c.pages[k] with state := .live } :=
  Vector.getElem_set_self _

theorem pageTaken_live (c : Chip) (k : PageId) : (pageTaken c k).live = { c.pages[k] with state := .live } := by
  rw [live_eq (c := pageTaken c k) (k := k) rfl, pageTaken_page]

theorem pageTaken_step (c : Chip) (k : PageId) (i : StepIndex) : (pageTaken c k).stepAt i = (c.pages[k]).steps[i] := by
  rw [Chip.stepAt, pageTaken_live]

/-- The part once its page has been taken and its cursors placed. -/
def cursorsPlaced (c : Chip) (k : PageId) (i : StepIndex) : Chip :=
  { pageTaken c k with
    run := { (pageTaken c k).run with
      mainCursor := some i, mainDue := some (stepDelay ((pageTaken c k).stepAt i)), holdCursor := (pageTaken c k).sceneStart 15 }
    image := clearedImage }

theorem cursorsPlaced_cued (c : Chip) (k : PageId) (i : StepIndex) (music : Bool) (origin : Nat) :
    (cursorsPlaced c k i).cueAudio music origin = cued c k i ((pageTaken c k).sceneStart 15) music origin := by
  rw [cursorsPlaced, pageTaken_step]
  cases music <;> rfl

theorem cueShow_is (c : Chip) (k : PageId) (i : StepIndex) (music : Bool) (origin : Nat) : c.cueShow k i music origin =
    if c.mode.mode = .dormant then ((cued c k i ((pageTaken c k).sceneStart 15) music origin).notify .showState).beginWake .standby
    else (cued c k i ((pageTaken c k).sceneStart 15) music origin).notify .showState := by
  rw [← cursorsPlaced_cued]
  rfl

/-- What CUE leaves, after the tests that follow (R38, R157). -/
structure Cued (k : PageId) (i : StepIndex) (music : Bool) (origin : Nat) (c d : Chip) : Prop where
  frame : d = { cued c k i ((pageTaken c k).sceneStart 15) music origin with
    pumps := d.pumps, queue := d.queue, joining := d.joining, history := d.history, jets := d.jets, circ := d.circ
    mode := d.mode, links := d.links }
  noted : Noted [.showState, .mode, .pumpFault] c d
  heard : ∀ m : LinkId, .showState ∈ (d.links[m]).notices
  awake : c.mode.mode ≠ .dormant → d.mode.mode = c.mode.mode ∧ (c.circ.debt = 0 → c.waterSame d)
  woken : c.mode.mode = .dormant → (c.mode.power = .on → d.mode.mode = .standby) ∧
    (c.mode.power ≠ .on → d.mode.mode = .settling ∧ d.mode.wake = some .standby ∧ d.mode.power = .settling)

theorem beginWake_wakes (dormant : c.mode.mode = .dormant) : ∃ (m : ModeRecord) (js : Vector Jet 48),
    c.beginWake .standby = Chip.notify { c with mode := m, jets := js } .mode ∧ m.mode ≠ .dormant ∧
      (c.mode.power = .on → m.mode = .standby) ∧
      (c.mode.power ≠ .on → m.mode = .settling ∧ m.wake = some .standby ∧ m.power = .settling) := by
  by_cases on : c.mode.power = .on
  · refine ⟨{ c.mode with mode := .standby }, c.jets, ?_, nofun, fun _ => rfl, fun off => absurd on off⟩
    rw [beginWake_on on]
    exact toMode_other (by rw [dormant]; nofun)
  · obtain ⟨js, is⟩ := beginWake_is (w := .standby) dormant on
    exact ⟨_, js, is, nofun, fun is_on => absurd is_on on, fun _ => ⟨rfl, rfl, rfl⟩⟩

theorem settle_cued (c : Chip) (k : PageId) (i : StepIndex) (music : Bool) (origin : Nat) (before : Chip) :
    Cued k i music origin c (Chip.settle before (c.cueShow k i music origin)) := by
  rw [cueShow_is]
  have raised : Noted [.showState, .mode, .pumpFault] c ((cued c k i ((pageTaken c k).sceneStart 15) music origin).notify .showState) :=
    .trans (.of_links rfl) (.notify (by simp) (cued c k i ((pageTaken c k).sceneStart 15) music origin))
  have told := notify_heard (cued c k i ((pageTaken c k).sceneStart 15) music origin) .showState
  have mode : ((cued c k i ((pageTaken c k).sceneStart 15) music origin).notify .showState).mode = c.mode := rfl
  have cue : ((cued c k i ((pageTaken c k).sceneStart 15) music origin).notify .showState).run.cue = .cued := rfl
  have same : c.waterSame ((cued c k i ((pageTaken c k).sceneStart 15) music origin).notify .showState) := ⟨rfl, rfl, rfl, rfl, rfl, rfl⟩
  have frame : (cued c k i ((pageTaken c k).sceneStart 15) music origin).notify .showState =
      { cued c k i ((pageTaken c k).sceneStart 15) music origin with
        links := ((cued c k i ((pageTaken c k).sceneStart 15) music origin).notify .showState).links } := rfl
  generalize (cued c k i ((pageTaken c k).sceneStart 15) music origin).notify .showState = d at raised told mode cue same frame
  split
  next dormant =>
    obtain ⟨m, js, woken, out, on, raises⟩ := beginWake_wakes (c := d) (by rw [mode]; exact dormant)
    have telling := Noted.notify (may := [.showState, .mode, .pumpFault]) (n := .mode) (by simp) { d with mode := m, jets := js }
    have all : Noted [.showState, .mode, .pumpFault] c (d.beginWake .standby) := by
      rw [woken]
      exact raised.trans (.trans (.of_links rfl) telling)
    have heard : ∀ m : LinkId, .showState ∈ ((d.beginWake .standby).links[m]).notices := by
      rw [woken]
      exact fun m => (telling m).kept _ (told m)
    have run : (d.beginWake .standby).run.cue = .cued := by rw [woken]; exact cue
    have moved : d.beginWake .standby = { d with
        jets := (d.beginWake .standby).jets, mode := m, links := (d.beginWake .standby).links } := by rw [woken]; rfl
    generalize d.beginWake .standby = e at all heard run moved
    have is : e.mode = m := by rw [moved]
    have calm := settle_calm before (.inr run)
    have power := settle_power (before := before) (.inr run) (by rw [is]; exact out)
    refine ⟨?_, all.trans (calm.noted.mono (by simp)), fun m => (calm.noted m).kept _ (heard m), fun awake => absurd dormant awake,
      fun _ => ⟨fun is_on => ?_, fun is_off => ?_⟩⟩
    · have settled := calm.frame
      generalize Chip.settle before e = f at settled
      rw [settled, moved, frame]
    · rw [power, is]
      exact on (by rw [mode]; exact is_on)
    · rw [power, is]
      exact raises (by rw [mode]; exact is_off)
  next awake =>
    have calm := settle_calm before (.inr cue)
    refine ⟨?_, raised.trans (calm.noted.mono (by simp)), fun m => (calm.noted m).kept _ (told m), fun _ => ⟨?_, fun paid => ?_⟩,
      fun dormant => absurd dormant awake⟩
    · have moved := calm.frame
      generalize Chip.settle before d = e at moved
      rw [moved, frame]
    · rw [calm.mode]
      show d.mode.mode = _
      rw [mode]
    · have debt : d.circ.debt = 0 := by rw [same.2.2.2.2.2]; exact paid
      rw [settle_stands (.inl (by rw [cue]; nofun)) (.inl (by rw [cue]; nofun)) (not_flushDue_of_debt debt) (by rw [mode]; exact awake)]
      exact same

/-- The hold cursor of a cued show stands on the start of S15, if there is one (R38, R48). -/
theorem pageTaken_hold (c : Chip) (k : PageId) :
    ((c.pages[k]).scenes[15] = none → (pageTaken c k).sceneStart 15 = none) ∧
    (∀ h : StepIndex, (c.pages[k]).scenes[15] = some h.val → (pageTaken c k).sceneStart 15 = some h) := by
  have scenes : ((pageTaken c k).pages[k]).scenes = (c.pages[k]).scenes := by rw [pageTaken_page]
  refine ⟨fun empty => ?_, fun h start => ?_⟩
  · exact sceneStart_empty (c := pageTaken c k) (k := k) rfl (n := 15) (by rw [scenes]; exact empty)
  · exact sceneStart_start (c := pageTaken c k) (k := k) rfl (n := 15) (by rw [scenes]; exact start)

/-- Settles O10: the tests of the two requests, and the show that CUE sets up and UNCUE takes down. -/
theorem cueAndUncue : Obligations.CueAndUncue := by
  refine ⟨fun s l music origin heard => ?_, fun s l heard => ?_⟩
  · have reacts (page : Nat) : Reacts (.cue l page music origin) s l 7 (ruleCue page music origin true) :=
      reacts_of_hears rfl rfl heard
    refine ⟨fun page beyond => (reacts page).refuses (ruleCue_page beyond), fun k => ⟨fun busy => (reacts k).refuses (ruleCue_busy busy),
      fun idle => ⟨fun mode => ?_, fun mode => ?_⟩⟩⟩
    · refine (reacts k).refuses (ruleCue_mode idle ?_)
      rcases mode with is | is | is <;> rw [is] <;> rfl
    · have may : s.chip.mode.mode.mayCue = true := by rcases mode with is | is | is <;> rw [is] <;> rfl
      refine ⟨fun state => (reacts k).refuses (ruleCue_page_state idle may state), fun state => ⟨fun empty =>
        (reacts k).refuses (ruleCue_ready idle may state (startIndex_none empty)), fun i start => ?_⟩⟩
      have rule := ruleCue_takes (music := music) (origin := origin) idle may state (startIndex_some start)
      have left := settle_cued s.chip k i music origin s.chip
      generalize s.chip.settle (s.chip.cueShow k i music origin) = d at rule left
      obtain ⟨no_hold, hold⟩ := pageTaken_hold s.chip k
      have frame := left.frame
      have placed : d.run.holdCursor = (pageTaken s.chip k).sceneStart 15 := by rw [frame]; rfl
      refine (reacts k).takes rule (noticed_of_noted left.noted (by simpa using left.heard) (by simp)) ⟨?_, fun empty => ?_,
        fun h start => ?_, left.awake, left.woken⟩
      · show { d with links := (d.reply l 7 .ok .none).links } = { cued s.chip k i d.run.holdCursor music origin with
          pumps := d.pumps, queue := d.queue, joining := d.joining, history := d.history, jets := d.jets, circ := d.circ
          mode := d.mode, links := (d.reply l 7 .ok .none).links }
        generalize (d.reply l 7 .ok .none).links = links
        rw [placed, frame]
      · exact placed.trans (no_hold empty)
      · exact placed.trans (hold h start)
  · have reacts : Reacts (.uncue l) s l 8 ruleUncue := reacts_of_hears rfl rfl heard
    refine ⟨fun other => reacts.refuses (if_neg other), fun is_cued k live => ?_⟩
    have rule : ruleUncue s.chip = (s.chip.settle s.chip.uncue).taken := if_pos is_cued
    have left := settle_uncued live s.chip
    generalize s.chip.settle s.chip.uncue = d at rule left
    refine reacts.takes rule (noticed_of_noted left.noted (by simpa using left.heard) (by simp)) ⟨?_, ?_, left.dry⟩
    · exact (reply_calm (l := l) (kind := 8) (code := .ok) (data := .none) left.calm).trans rfl
    · show d.mode.mode = _
      rw [left.calm.mode]
      rfl

end Sys2Proof.Proofs.CueShow


/-! PROOF. START (O11): every jet shut, every pump told to stop, a flush cut, and the show running from tick 0. -/

namespace Sys2Proof.Proofs.StartShow

open Sys2Proof Sys2Proof.Machine Sys2Proof.Proofs.StepEffects Sys2Proof.Proofs.Water Sys2Proof.Proofs.Orders Sys2Proof.Proofs.OnePump
open Sys2Proof.Proofs.Trips Sys2Proof.Proofs.Tripped Sys2Proof.Proofs.Halting Sys2Proof.Proofs.Settling Sys2Proof.Proofs.Requests
open Sys2Proof.Proofs.ClockTicks

variable {s : State} {l : LinkId} {c d e before : Chip} {p q : PumpId} {j : JetId}

/-! ## Handing a pump to a stopped show -/

/-- No jet has a demand. -/
def Dry (c : Chip) : Prop := ∀ j : JetId, (c.jets[j]).demand = 0

theorem dry_iff {b : Bool} (h : WaterMoves noJet anyPump b c d) : Dry d ↔ Dry c :=
  forall_congr' fun _ => by rw [(orderOf_eq_iff.mp (waterMoves_order h not_false)).2.1]

theorem dry_of_jets (h : d.jets = c.jets) (dry : Dry c) : Dry d := fun j => by rw [h]; exact dry j

/-- A pump with intent STOP has no run demand where no jet has a demand. -/
theorem hasRunDemand_dry (dry : Dry c) (stopped : (c.pumps[p]).intent = .stop) : c.hasRunDemand p = false := by
  have wants (j : JetId) : (c.jets[j]).wants = false := by rw [Jet.wants, dry j]; rfl
  have flushes (j : JetId) : (c.jets[j]).wantsFlush = false := by rw [Jet.wantsFlush, dry j]; rfl
  have no_jet : ((c.jetsOf p).any fun j => (c.jets[j]).wants) = false := List.any_eq_false.mpr fun j _ => by rw [wants]; nofun
  have no_flush : c.flushUses p = false := List.any_eq_false.mpr fun j _ => by rw [flushes]; nofun
  rw [Chip.hasRunDemand, no_jet, no_flush, stopped, Bool.and_false]
  rfl

/-- A pump handed to a stopped show (R40). -/
def handStop (p : PumpId) (c : Chip) : Chip := c.handDrive p .stop .follow true

theorem handStop_dry (dry : Dry c) : handStop p c = (c.updPump p fun q => { q with intent := .stop, policy := .follow }).stopRequest p := by
  have record := updPump_own c p fun q => { q with intent := .stop, policy := .follow }
  have none : (c.updPump p fun q => { q with intent := .stop, policy := .follow }).hasRunDemand p = false :=
    hasRunDemand_dry (dry_of_jets rfl dry) (by rw [record])
  rw [handStop, Chip.handDrive, none]
  exact (if_neg Bool.false_ne_true).trans (if_pos (Or.inl rfl))

theorem handStop_moves (p : PumpId) (c : Chip) : WaterMoves noJet anyPump true c (handStop p c) :=
  handDrive_moves (I := anyPump) trivial _ _ _

theorem handStop_halts (p : PumpId) (c : Chip) (dry : Dry (handStop p c)) : Halted p (handStop p c) := by
  have before := (dry_iff (handStop_moves p c)).mp dry
  rw [handStop_dry before]
  exact stopRequest_halted _ p

theorem handStop_stays (p q : PumpId) (c : Chip) (h : Dry c → Halted p c) (dry : Dry (handStop q c)) : Halted p (handStop q c) := by
  by_cases same : p = q
  · subst same
    exact handStop_halts p c dry
  · have before := (dry_iff (handStop_moves q c)).mp dry
    rw [handStop_dry before]
    exact (h before).aside ((updPump_aside c same _).trans (stopRequest_aside _ same))
      (((Chip.updPump_water c q _).trans (Chip.stopRequest_water _ q)).now)

/-! ## The water of a show that starts -/

/-- Every jet shut under the show, every pump handed over. -/
def handed (c : Chip) : Chip := Chip.forEach (List.finRange 12) handStop (c.demandWrites (List.finRange 48) .showRun 0)

theorem hands_moves (c : Chip) : WaterMoves noJet anyPump true (c.demandWrites (List.finRange 48) .showRun 0) (handed c) :=
  .forEach fun p _ d => handStop_moves p d

theorem handed_moves (c : Chip) : WaterMoves anyJet anyPump true c (handed c) :=
  (demandWrites_moves c _ _ fun _ _ => trivial).trans (.forEach fun _ _ _ => handDrive_moves (I := anyPump) trivial _ _ _)

/-- The jets of a shut show stay shut while the pumps are told to stop. -/
theorem jets_stay_shut {I : PumpId → Prop} {b : Bool} {jet : Jet} (closed : jet.state = .closed)
    (shut : c.jets = Vector.replicate 48 jet) (moves : WaterMoves noJet I b c d) : d.jets = Vector.replicate 48 jet := by
  refine Vector.ext fun n inside => ?_
  have was : c.jets[(⟨n, inside⟩ : JetId)] = jet := by
    rw [shut]
    exact Vector.getElem_replicate _
  rw [Vector.getElem_replicate]
  exact (waterMoves_closed (j := ⟨n, inside⟩) moves not_false (by rw [was]; exact closed)).trans was

theorem handed_jets (c : Chip) : (handed c).jets = Vector.replicate 48 shutByShow :=
  jets_stay_shut rfl (demandWrites_all_shut .showRun c) (hands_moves c)

theorem dry_of_shut (shut : c.jets = Vector.replicate 48 shutByShow) : Dry c := fun j => by
  rw [shut, show (Vector.replicate 48 shutByShow)[j] = shutByShow from Vector.getElem_replicate _]

theorem handed_halted (c : Chip) (p : PumpId) : Halted p (handed c) :=
  forEach_makes (P := fun p c => Dry c → Halted p c) handStop_halts (fun p q c h => handStop_stays p q c h) _ _ p (List.mem_finRange p)
    (dry_of_shut (handed_jets c))

theorem handed_drive (c : Chip) (p : PumpId) : driveOf (handed c) p = (.stop, .follow) := by
  have drive (p : PumpId) (c : Chip) (q : PumpId) : driveOf (handStop p c) q = if q = p then (.stop, .follow) else driveOf c q :=
    handDrive_drive c p q .stop .follow true
  rw [handed, forEach_drive (f := handStop) (fun _ _ => (.stop, .follow)) (fun _ _ => rfl) drive, if_pos (List.mem_finRange p)]

theorem handed_ungranted (c : Chip) : Ungranted c (handed c) :=
  (demandWrites_ungranted c _ _ _).trans (.forEach fun p d => handDrive_ungranted d p _ _ _)

/-! ## A flush cut (R126) -/

/-- What a cut leaves, of pumps that have been told to stop. -/
structure Cut (c d : Chip) : Prop where
  frame  : d = { c with
    pumps := d.pumps, queue := d.queue, joining := d.joining, jets := d.jets, circ := d.circ
    mode := { c.mode with flushRunning := d.mode.flushRunning }, links := d.links }
  noted  : Noted [.pumpFault] c d
  flush  : d.circ.flush = none
  stands : c.circ.flush = none → d = c
  halted : (∀ p, Halted p c) → ∀ p, Halted p d
  drives : ∀ p, driveOf d p = driveOf c p
  order  : ∀ j, orderOf d j = orderOf c j
  shut   : ∀ j, StaysShut j c d

theorem releaseStarted_halted (h : ∀ p, Halted p c) (started : Vector Bool 12) (p : PumpId) : Halted p (c.releaseStarted started) :=
  Chip.forEach_keeps (P := Halted p) _ (fun q _ d halted => by
    unfold Chip.stopUnlessDemanded
    split
    · exact halted
    · exact stopRequest_stays halted q) (h p)

theorem cutFlush_cut (c : Chip) : Cut c c.cutFlush := by
  cases runs : c.circ.flush with
  | none =>
    have stands : c.cutFlush = c := by rw [Chip.cutFlush, runs]
    rw [stands]
    exact ⟨rfl, .refl c, runs, fun _ => rfl, fun h => h, fun _ => rfl, fun _ => rfl, fun _ _ => rfl⟩
  | some f =>
    obtain ⟨r, is⟩ : ∃ r : Circulation, c.cutFlush = (Chip.releaseStarted { c with circ := r } f.started).dropFlush := by
      rw [Chip.cutFlush, runs]
      dsimp only
      split
      · exact ⟨_, rfl⟩
      · exact ⟨_, rfl⟩
    have moves : WaterMoves noJet noPump true { c with circ := r } (Chip.releaseStarted { c with circ := r } f.started) :=
      .forEach fun p _ d => stopUnlessDemanded_moves d p
    have ungranted : Ungranted { c with circ := r } (Chip.releaseStarted { c with circ := r } f.started) :=
      .forEach fun p d => stopUnlessDemanded_ungranted d p
    have halted (h : ∀ p, Halted p { c with circ := r }) := releaseStarted_halted h f.started
    rw [is]
    generalize Chip.releaseStarted { c with circ := r } f.started = d at moves ungranted halted
    have frame := (waterMoves_water moves).1
    have history : d.history = c.history := ungranted
    rw [history] at frame
    refine ⟨?_, ?_, rfl, fun none => ?_, fun h p => ?_, fun p =>
      waterMoves_drive (I := noPump) (c := { c with circ := r }) (d := d) moves not_false,
      fun j =>
      waterMoves_order (J := noJet) (c := { c with circ := r }) (d := d) moves not_false, fun j shut =>
      waterMoves_closed (J := noJet) (j := j) (c := { c with circ := r }) (d := d) moves not_false shut⟩
    · rw [frame]
      rfl
    · exact .trans (.of_links (d := { c with circ := r }) rfl) ((waterMoves_noted moves).trans (.of_links rfl))
    · cases runs.symm.trans none
    · exact (halted (fun p => (h p).aside (.of_same rfl rfl rfl) rfl) p).aside (.of_same rfl rfl rfl) rfl

/-! ## START taken (R40) -/

/-- The record and the mode of a show that starts. -/
def startRecorded (c : Chip) : Chip :=
  { c with run := { c.run with cue := .running }, mode := { c.mode with mode := .showMode, dormancy := none } }

/-- The show about to start, MODE and SHOW_STATE noticed. -/
def startBegun (c : Chip) : Chip := ((startRecorded c).notify .mode).notify .showState

/-- The water of the show that starts, the flush cut. -/
def startHanded (c : Chip) : Chip := (handed (startBegun c)).cutFlush

theorem startShow_is (standby : c.mode.mode = .standby) :
    c.startShow = ((startHanded c).endEvent.startAudio).clockTook := by
  have begun : c.toMode .showMode = Chip.notify { c with mode := { c.mode with mode := .showMode } } .mode :=
    toMode_other (by rw [standby]; nofun)
  rw [Chip.startShow, begun]
  rfl

/-- What START leaves before the steps due at tick 0. -/
structure Started (c d : Chip) : Prop where
  frame  : d = { c with
    run := { c.run with cue := .running }
    playback := if c.playback.music then { c.playback with state := .playing, r := 64 } else c.playback
    clock := ⟨0, c.clock.source, true, c.now⟩, jets := Vector.replicate 48 shutByShow
    pumps := d.pumps, queue := d.queue, joining := d.joining, circ := d.circ
    mode := { c.mode with mode := .showMode, dormancy := none, flushRunning := d.mode.flushRunning }, links := d.links }
  noted  : Noted [.mode, .showState, .pumpFault] c d
  heard  : ∀ m : LinkId, .mode ∈ (d.links[m]).notices ∧ .showState ∈ (d.links[m]).notices
  flush  : d.circ.flush = none
  stands : c.circ.flush = none → d.circ = c.circ
  pumps  : ∀ p : PumpId, Halted p d ∧ driveOf d p = (.stop, .follow)

theorem startBegun_noted (c : Chip) : Noted [.mode, .showState, .pumpFault] c (startBegun c) ∧
    ∀ m : LinkId, .mode ∈ ((startBegun c).links[m]).notices ∧ .showState ∈ ((startBegun c).links[m]).notices := by
  have first := Noted.notify (may := [.mode, .showState, .pumpFault]) (n := .mode) (by simp) (startRecorded c)
  have second := Noted.notify (may := [.mode, .showState, .pumpFault]) (n := .showState) (by simp) ((startRecorded c).notify .mode)
  exact ⟨.trans (.of_links rfl) (first.trans second), fun m => ⟨(second m).kept _ (notify_heard _ _ m), notify_heard _ _ m⟩⟩

/-- The water that START has handed over, the flush cut. -/
theorem startHanded_leaves (c : Chip) : startHanded c = { startBegun c with
      jets := Vector.replicate 48 shutByShow, pumps := (startHanded c).pumps, queue := (startHanded c).queue
      joining := (startHanded c).joining, circ := (startHanded c).circ
      mode := { (startBegun c).mode with flushRunning := (startHanded c).mode.flushRunning }, links := (startHanded c).links } ∧
    Noted [.pumpFault] (startBegun c) (startHanded c) ∧ (startHanded c).circ.flush = none ∧
    (c.circ.flush = none → (startHanded c).circ = c.circ) ∧
    ∀ p : PumpId, Halted p (startHanded c) ∧ driveOf (startHanded c) p = (.stop, .follow) := by
  have begun : (startBegun c).circ = c.circ := rfl
  have moves := handed_moves (startBegun c)
  have frame := (waterMoves_water moves).1
  rw [handed_jets, show (handed (startBegun c)).history = (startBegun c).history from handed_ungranted _] at frame
  have halted := handed_halted (startBegun c)
  have drive := handed_drive (startBegun c)
  have shut := handed_jets (startBegun c)
  unfold startHanded
  generalize startBegun c = b at begun moves frame halted drive shut
  generalize handed b = d at moves frame halted drive shut
  have cut := cutFlush_cut d
  have stay : d.cutFlush.jets = Vector.replicate 48 shutByShow := by
    refine Vector.ext fun n inside => ?_
    have was : d.jets[(⟨n, inside⟩ : JetId)] = shutByShow := by
      rw [shut]
      exact Vector.getElem_replicate _
    rw [Vector.getElem_replicate]
    exact (cut.shut ⟨n, inside⟩ (by rw [was])).trans was
  generalize d.cutFlush = e at cut stay
  refine ⟨?_, (waterMoves_noted moves).trans cut.noted, cut.flush, fun idle => ?_, fun p =>
    ⟨cut.halted halted p, (cut.drives p).trans (drive p)⟩⟩
  · have last := cut.frame
    rw [stay] at last
    rw [last, frame]
  · have flush : b.circ.flush = none := by rw [begun]; exact idle
    have same : d.circ = b.circ := flushStands_none (waterMoves_flush moves) flush
    rw [cut.stands (by rw [same]; exact flush), same, begun]

theorem startShow_starts (c : Chip) : Started c ((startHanded c).endEvent.startAudio) := by
  obtain ⟨frame, noted, flush, stands, pumps⟩ := startHanded_leaves c
  obtain ⟨raised, told⟩ := startBegun_noted c
  have ended := endEvent_ungranted fun p => (pumps p).1
  rw [ended]
  have begun : startBegun c = { startRecorded c with links := (startBegun c).links } := rfl
  generalize startHanded c = d at frame noted flush stands pumps
  have links : d.links = (collected d).startAudio.links := rfl
  refine ⟨?_, raised.trans ((noted.mono (by simp)).trans (.of_links rfl)), fun m => ⟨?_, ?_⟩, flush, stands, fun p => ⟨?_, (pumps p).2⟩⟩
  · rw [frame, begun]
    rfl
  · rw [← links]
    exact (noted m).kept _ (told m).1
  · rw [← links]
    exact (noted m).kept _ (told m).2
  · exact ((pumps p).1.aside (collected_aside p d) rfl).aside (.of_same rfl rfl rfl) rfl

/-- With no step due at tick 0 and no burst in the image, START is all that happens. -/
theorem settle_started {m : Nat} (standby : c.mode.mode = .standby) (due : c.run.mainDue = some m) (later : 0 < m)
    (image : c.image = clearedImage) (before : Chip) : Started c (Chip.settle before c.startShow) := by
  rw [startShow_is standby]
  have started := startShow_starts c
  generalize (startHanded c).endEvent.startAudio = d at started
  have frame := started.frame
  have run : d.run = { c.run with cue := .running } := by rw [frame]
  have mode : d.mode.mode = .showMode := by rw [frame]
  have unburst : Unburst d := fun j => by
    have jets : d.jets = Vector.replicate 48 shutByShow := by rw [frame]
    have same : d.image = clearedImage := by rw [frame]; exact image
    rw [jets, same]
    constructor
    · show ((Vector.replicate 48 (⟨0, none⟩ : ImageJet))[j]).burstEnd = none
      rw [show (Vector.replicate 48 (⟨0, none⟩ : ImageJet))[j] = ⟨0, none⟩ from Vector.getElem_replicate _]
    · rw [show (Vector.replicate 48 shutByShow)[j] = shutByShow from Vector.getElem_replicate _]
  have took : d.clockTook = d := by
    rw [Chip.clockTook, if_pos (.inl (by rw [run])), expireBursts_unburst unburst]
    refine runSteps_ahead (m := m) (by rw [run]) (by rw [run]; exact due) ?_
    have zero : d.clock.value = 0 := by rw [frame]
    rw [zero]
    exact later
  rw [took, settle_attended (.inl (by rw [run]; nofun)) (.inl (by rw [run]; nofun)) (by rw [mode]; nofun) (by rw [mode]; nofun)]
  refine ⟨?_, started.noted.trans (.of_links rfl), started.heard, started.flush, started.stands, fun p =>
    ⟨(started.pumps p).1.aside (.of_same rfl rfl rfl) rfl, (started.pumps p).2⟩⟩
  rw [frame]

/-! ## START's tests -/

theorem ruleStart_takes (cue : c.run.cue = .cued) (standby : c.mode.mode = .standby)
    (primed : c.playback.music = false ∨ prebuffer ≤ c.playback.buffer.length) : ruleStart c = (c.settle c.startShow).taken := by
  rw [ruleStart, if_neg (not_not_intro cue), if_neg (by rw [standby]; nofun), if_neg (not_not_intro standby), if_neg]
  rintro ⟨music, short⟩
  rcases primed with silent | enough
  · rw [silent] at music
    cases music
  · exact absurd short (Nat.not_lt.mpr enough)

/-- Settles O11: START's tests in order, and the show that starts with nothing due. -/
theorem startRunsTheShow : Obligations.StartRunsTheShow := by
  intro s l heard
  have reacts : Reacts (.start l) s l 9 ruleStart := reacts_of_hears rfl rfl heard
  refine ⟨fun other => reacts.refuses (if_pos other), fun cue => ⟨fun manual => reacts.refuses ?_, fun mode => reacts.refuses ?_,
    fun standby => ⟨fun music short => reacts.refuses ?_, fun primed m due later image => ?_⟩⟩⟩
  · rw [ruleStart, if_neg (not_not_intro cue), if_pos manual]
  · rw [ruleStart, if_neg (not_not_intro cue), if_neg (by rcases mode with is | is | is | is <;> rw [is] <;> nofun),
      if_pos (by rcases mode with is | is | is | is <;> rw [is] <;> nofun)]
  · rw [ruleStart, if_neg (not_not_intro cue), if_neg (by rw [standby]; nofun), if_neg (not_not_intro standby)]
    exact if_pos ⟨music, short⟩
  · have rule := ruleStart_takes cue standby primed
    have started := settle_started standby due later image s.chip
    generalize s.chip.settle s.chip.startShow = d at rule started
    have mode : d.mode = { s.chip.mode with mode := .showMode, dormancy := none, flushRunning := d.mode.flushRunning } := by
      have frame := started.frame
      generalize d.mode.flushRunning = b at frame ⊢
      rw [frame]
    refine reacts.takes rule (noticed_of_noted started.noted ?_ (by simp)) ⟨?_, mode, started.flush, started.stands, fun p => ?_⟩
    · intro n mem m
      obtain ⟨mode_, show_⟩ := started.heard m
      rcases List.mem_cons.mp mem with rfl | mem
      · exact mode_
      · rw [List.mem_singleton.mp mem]
        exact show_
    · show { d with links := (d.reply l 9 .ok .none).links } = { s.chip with
        run := { s.chip.run with cue := .running }
        playback := if s.chip.playback.music then { s.chip.playback with state := .playing, r := 64 } else s.chip.playback
        clock := ⟨0, s.chip.clock.source, true, s.chip.now⟩, jets := Vector.replicate 48 shutByShow, pumps := d.pumps
        queue := d.queue, joining := d.joining, circ := d.circ, mode := d.mode, links := (d.reply l 9 .ok .none).links }
      have frame := started.frame
      generalize (d.reply l 9 .ok .none).links = links
      rw [frame]
    · obtain ⟨intent, policy⟩ := driveOf_iff.mp (started.pumps p).2
      exact ⟨intent, policy, fun up => ((started.pumps p).1.pending up).1⟩

end Sys2Proof.Proofs.StartShow


/-! PROOF. TAKE (O24): the show paused for the panel, the jets and the lamps the panel's, and the mode. -/

namespace Sys2Proof.Proofs.TakeFountain

open Sys2Proof Sys2Proof.Machine Sys2Proof.Proofs.StepEffects Sys2Proof.Proofs.Water Sys2Proof.Proofs.Orders Sys2Proof.Proofs.Trips
open Sys2Proof.Proofs.Tripped Sys2Proof.Proofs.Settling Sys2Proof.Proofs.Requests Sys2Proof.Proofs.SleepWake Sys2Proof.Proofs.Flushing
open Sys2Proof.Proofs.WaterSteps Sys2Proof.Proofs.StartShow

variable {s : State} {l : LinkId} {c d e before : Chip} {j : JetId} {p : PumpId}

/-! ## The show paused for the panel (R57, R162) -/

/-- The audio that a pause holds (R70). -/
def playbackHeld (a : Playback) : Playback := if a.state = .playing ∨ a.state = .starved then { a with state := .held } else a

/-- A show runs, or will run once it has been released. -/
def Shown (c : Chip) : Prop := c.run.cue = .running ∨ c.run.cue = .holding ∨ c.run.cue = .paused ∨ c.run.cue = .restoring

theorem undoHold_is (c : Chip) : c.undoHold = { c with run := c.undoHold.run } := by
  unfold Chip.undoHold
  split <;> rfl

theorem undoHold_stands (other : c.run.cue ≠ .holding) : c.undoHold = c := if_neg other

theorem undoHold_cue (c : Chip) : c.undoHold.run.cue = c.run.cue := by
  unfold Chip.undoHold
  split <;> rfl

theorem undoHold_run {saved : Vector Nat 4} (holding : c.run.cue = .holding) (shadow : c.run.shadow = some saved) :
    c.undoHold.run = { c.run with counters := saved, shadow := none, holdDue := none, holdEntry := none } := by
  rw [Chip.undoHold, if_pos holding, shadow]
  rfl

/-- The part paused, before SHOW_STATE is noticed. -/
def pausedFor (c : Chip) (cause : PauseCause) : Chip :=
  { c with
    run := { c.run with cue := .paused, pauseCause := some cause }, clock := { c.clock with running := false }
    playback := playbackHeld c.playback }

theorem pauseShow_again {cause : PauseCause} (paused : c.run.cue = .paused) : c.pauseShow cause = pausedFor c cause := by
  unfold Chip.pauseShow
  rw [holdAudio_eq, if_pos paused]
  rfl

theorem pauseShow_is (c : Chip) (cause : PauseCause) :
    c.pauseShow cause = { pausedFor c cause with links := (c.pauseShow cause).links } ∧ Noted [.showState] c (c.pauseShow cause) := by
  by_cases paused : c.run.cue = .paused
  · rw [pauseShow_again paused]
    exact ⟨rfl, .of_links rfl⟩
  · have told := Noted.notify (may := [.showState]) (n := .showState) (by simp) (pausedFor c cause)
    rw [pauseShow_eq cause paused]
    exact ⟨rfl, .trans (.of_links rfl) told⟩

theorem pauseShow_heard {cause : PauseCause} (other : c.run.cue ≠ .paused) (m : LinkId) :
    .showState ∈ ((c.pauseShow cause).links[m]).notices := by
  rw [pauseShow_eq cause other]
  exact notify_heard _ _ m

theorem takeShow_shown (shown : Shown c) : c.takeShow =
    { c.undoHold.pauseShow .take with mode := { (c.undoHold.pauseShow .take).mode with restore := none } } := by
  unfold Chip.takeShow
  rcases shown with is | is | is | is <;> rw [is]

/-- What the pause for the panel leaves. -/
structure ShowTaken (c d : Chip) : Prop where
  frame  : d = { c with
    run := d.run, clock := { c.clock with running := d.clock.running }, playback := d.playback
    mode := { c.mode with restore := d.mode.restore }, links := d.links }
  noted  : Noted [.showState] c d
  cue    : d.run.cue = .idle ∨ d.run.cue = .cued ∨ d.run.cue = .paused
  stands : c.run.cue = .idle ∨ c.run.cue = .cued → d = c
  paused : Shown c → d.run = { c.undoHold.run with cue := .paused, pauseCause := some .take } ∧ d.clock.running = false ∧
    d.mode.restore = none ∧ d.playback = playbackHeld c.playback
  heard  : Shown c → c.run.cue ≠ .paused → ∀ m : LinkId, .showState ∈ (d.links[m]).notices

theorem takeShow_takes (other : c.run.cue ≠ .ending) : ShowTaken c c.takeShow := by
  by_cases shown : Shown c
  · have not_idle : ¬(c.run.cue = .idle ∨ c.run.cue = .cued) := by rcases shown with is | is | is | is <;> rw [is] <;> nofun
    rw [takeShow_shown shown]
    have undone := undoHold_is c
    have cue := undoHold_cue c
    generalize taken : c.undoHold = b at undone cue
    obtain ⟨paused, noted⟩ := pauseShow_is b .take
    have heard (running : b.run.cue ≠ .paused) := pauseShow_heard (cause := .take) running
    generalize b.pauseShow .take = d at paused noted heard
    refine ⟨?_, .trans (.of_links ?_) (noted.trans (.of_links rfl)), .inr (.inr ?_), fun idle => absurd idle not_idle,
      fun _ => ⟨?_, ?_, rfl, ?_⟩, fun _ running => heard (by rw [cue]; exact running)⟩
    · rw [paused, undone]
      rfl
    · rw [undone]
    · rw [paused]
      rfl
    · rw [paused, taken]
      rfl
    · rw [paused]
      rfl
    · rw [paused, undone]
      rfl
  · have idle : c.run.cue = .idle ∨ c.run.cue = .cued := by
      unfold Shown at shown
      cases is : c.run.cue <;> rw [is] at shown other <;> simp_all
    have stands : c.takeShow = c := by
      unfold Chip.takeShow
      rcases idle with is | is <;> rw [is]
    rw [stands]
    exact ⟨rfl, .refl c, idle.imp_right .inl, fun _ => rfl, fun yes => absurd yes shown, fun yes => absurd yes shown⟩

/-! ## The jets the panel's, a flush cut (R162) -/

theorem takeJets_moves (c : Chip) : WaterMoves anyJet noPump true c c.takeJets :=
  .forEach fun _ _ d => demandWrite_moves d _ _ _ (I := noPump) trivial

/-- Every jet keeps its demand, and is the panel's without a burst. -/
theorem takeJets_order (c : Chip) (j : JetId) : orderOf c.takeJets j = (.panel, (c.jets[j]).demand, none) := by
  have demand : (c.takeJets.jets[j]).demand = (c.jets[j]).demand := by
    refine Chip.forEach_keeps (P := fun d => (d.jets[j]).demand = (c.jets[j]).demand) _ (fun k _ d same => ?_) rfl
    have written := demandWrite_order d .panel (d.jets[k]).demand none k j
    split at written
    next e =>
      subst e
      exact (orderOf_iff.mp written).2.1.trans same
    next => exact (orderOf_eq_iff.mp written).2.1.trans same
  have owned : (c.takeJets.jets[j]).owner = .panel ∧ (c.takeJets.jets[j]).burstEnd = none := by
    refine forEach_makes (P := fun j d => (d.jets[j]).owner = .panel ∧ (d.jets[j]).burstEnd = none) (fun k d => ?_)
      (fun k i d same => ?_) _ c j (List.mem_finRange j)
    · have written := orderOf_iff.mp ((demandWrite_order d .panel (d.jets[k]).demand none k k).trans (if_pos rfl))
      exact ⟨written.1, written.2.2⟩
    · have written := demandWrite_order d .panel (d.jets[i]).demand none i k
      split at written
      next => exact ⟨(orderOf_iff.mp written).1, (orderOf_iff.mp written).2.2⟩
      next => exact ⟨(orderOf_eq_iff.mp written).1.trans same.1, (orderOf_eq_iff.mp written).2.2.trans same.2⟩
  exact orderOf_iff.mpr ⟨owned.1, demand, owned.2⟩

/-- The water handed to the panel. -/
structure WaterTaken (c d : Chip) : Prop where
  frame  : d = { c with
    pumps := d.pumps, queue := d.queue, joining := d.joining, history := d.history, jets := d.jets, circ := d.circ
    mode := { c.mode with flushRunning := d.mode.flushRunning }, links := d.links }
  noted  : Noted [.pumpFault] c d
  orders : ∀ j : JetId, orderOf d j = (.panel, (c.jets[j]).demand, none)
  drives : ∀ p : PumpId, driveOf d p = driveOf c p
  flush  : d.circ.flush = none

theorem waterTaken (c : Chip) : WaterTaken c c.takeJets.cutFlush.endEvent := by
  have moves := takeJets_moves c
  have order := takeJets_order c
  generalize c.takeJets = d at moves order
  have cut := cutFlush_cut d
  generalize d.cutFlush = e at cut
  have ends : WaterMoves noJet noPump true e e.endEvent := endEvent_moves (.refl e)
  have settled := waterMoves_water ends
  have written := waterMoves_water moves
  have flush := flushStands_none (waterMoves_flush ends) cut.flush
  refine ⟨?_, (waterMoves_noted moves).trans (cut.noted.trans (waterMoves_noted ends)), fun j => ?_, fun p => ?_, ?_⟩
  · refine settled.1.trans ?_
    have frame := cut.frame
    have mode := settled.mode
    have first := written.1
    generalize e.endEvent = f at settled mode flush
    rw [mode, frame, first]
  · rw [endEvent_order, cut.order, order]
  · rw [endEvent_drive, cut.drives, waterMoves_drive moves not_false]
  · rw [flush, cut.flush]

/-! ## The lamps the panel's (R139) -/

theorem lampsToPanel_is (c : Chip) : ∃ (ls : Vector Fade 128) (us : Vector Luminaire 32),
    c.lampsToPanel = { c with panelLayer := ls, lums := us } ∧
    (∀ i : Fin 128, ls[i] = ⟨c.preGate i, c.preGate i, (c.panelLayer[i]).origin, 0, .localTime⟩) ∧
    ∀ k : LumId, us[k] = ⟨(c.lums[k]).gate, .panelLayer, none⟩ :=
  ⟨_, _, rfl, fun _ => Vector.getElem_ofFn _, fun _ => Vector.getElem_ofFn _⟩

theorem levelOf_of (value : d.clock.value = c.clock.value) (now : d.now = c.now) (before : c.run.cue ≠ .ending)
    (after : d.run.cue ≠ .ending) (f : Fade) : d.levelOf f = c.levelOf f := by
  unfold Chip.levelOf
  rw [if_neg fun h => after h.1, if_neg fun h => before h.1, value, now]

/-- The level before the gate is that of the layers, the clocks and the crossfades. -/
theorem preGate_of {i : Fin 128} (lums : d.lums = c.lums) (shows : d.showLayer = c.showLayer) (panel : d.panelLayer = c.panelLayer)
    (value : d.clock.value = c.clock.value) (now : d.now = c.now) (before : c.run.cue ≠ .ending) (after : d.run.cue ≠ .ending) :
    d.preGate i = c.preGate i := by
  have level := levelOf_of value now before after
  unfold Chip.preGate Chip.showLevel Chip.panelLevel
  simp only [level, lums, shows, panel, now]

/-! ## The mode (R157, R158, R162) -/

/-- The mode that a TAKE leaves. -/
structure ModeTaken (c d : Chip) : Prop where
  frame    : d = { c with jets := d.jets, mode := d.mode, links := d.links }
  noted    : Noted [.mode] c d
  order    : ∀ j, orderOf d j = orderOf c j
  attended : d.mode.mode ≠ .dormant ∧ d.mode.mode ≠ .standby
  restore  : d.mode.restore = c.mode.restore
  now      : c.mode.mode = .standby ∨ c.mode.mode = .showMode ∨ (c.mode.mode = .dormant ∧ c.mode.power = .on) →
    d.mode.mode = .manual ∧ ∀ m : LinkId, .mode ∈ (d.links[m]).notices
  later    : c.mode.mode = .settling ∨ (c.mode.mode = .dormant ∧ c.mode.power ≠ .on) →
    d.mode.mode = .settling ∧ d.mode.wake = some .manual

/-- The mode becomes MANUAL at once. -/
theorem modeTaken_manual (other : c.mode.mode ≠ .manual) (ready : c.mode.mode = .dormant → c.mode.power = .on)
    (awake : c.mode.mode ≠ .settling) :
    ModeTaken c (Chip.toMode { c with mode := { c.mode with dormancy := none } } .manual) := by
  have is : Chip.toMode { c with mode := { c.mode with dormancy := none } } .manual =
      Chip.notify { c with mode := { c.mode with mode := .manual, dormancy := none } } .mode := toMode_other other
  have told := Noted.notify (may := [.mode]) (n := .mode) (by simp) { c with mode := { c.mode with mode := .manual, dormancy := none } }
  rw [is]
  exact ⟨rfl, .trans (.of_links rfl) told, fun _ => rfl, ⟨nofun, nofun⟩, rfl, fun _ => ⟨rfl, notify_heard _ _⟩, fun waits =>
    waits.elim (fun is => absurd is awake) fun ⟨is, off⟩ => absurd (ready is) off⟩

theorem toMode_order (c : Chip) (m : FountainMode) (j : JetId) : orderOf (c.toMode m) j = orderOf c j := by
  unfold Chip.toMode
  split <;> rfl

/-- A wake tells the jets nothing. -/
theorem beginWake_order (c : Chip) (w : WakeTo) (j : JetId) : orderOf (c.beginWake w) j = orderOf c j := by
  by_cases on : c.mode.power = .on
  · rw [beginWake_on on, toMode_order]
  · rw [beginWake_raises on, toMode_order]
    exact raisePower_order c j

/-- The mode becomes MANUAL when the power has settled. -/
theorem modeTaken_wakes (dormant : c.mode.mode = .dormant) (off : c.mode.power ≠ .on) :
    ModeTaken c (Chip.beginWake { c with mode := { c.mode with dormancy := none } } .manual) := by
  have order := beginWake_order { c with mode := { c.mode with dormancy := none } } .manual
  obtain ⟨js, is⟩ := beginWake_is (c := { c with mode := { c.mode with dormancy := none } }) (w := .manual) dormant off
  rw [is] at order ⊢
  refine ⟨rfl, .trans (.of_links rfl) (.notify (by simp) _), order, ⟨nofun, nofun⟩, rfl, fun at_once => ?_, fun _ => ⟨rfl, rfl⟩⟩
  rcases at_once with waits | waits | ⟨-, on⟩
  · exact absurd (dormant.symm.trans waits) nofun
  · exact absurd (dormant.symm.trans waits) nofun
  · exact absurd on off

theorem takeMode_takes (tripped : c.mode.mode ≠ .tripped) (manual : c.mode.mode ≠ .manual) : ModeTaken c c.takeMode := by
  unfold Chip.takeMode
  cases is : c.mode.mode with
  | dormant =>
    by_cases on : c.mode.power = .on
    · have taken := modeTaken_manual (c := c) (by rw [is]; nofun) (fun _ => on) (by rw [is]; nofun)
      have woken : Chip.beginWake { c with mode := { c.mode with dormancy := none } } .manual = _ := beginWake_on on
      exact (congrArg (ModeTaken c) woken).mpr taken
    · exact modeTaken_wakes is on
  | settling => exact ⟨rfl, .of_links rfl, fun _ => rfl, ⟨by rw [is]; nofun, by rw [is]; nofun⟩, rfl, fun at_once => by simp [is] at at_once, fun _ => ⟨is, rfl⟩⟩
  | standby => exact modeTaken_manual (by rw [is]; nofun) (by rw [is]; nofun) (by rw [is]; nofun)
  | showMode => exact modeTaken_manual (by rw [is]; nofun) (by rw [is]; nofun) (by rw [is]; nofun)
  | manual => exact absurd is manual
  | tripped => exact absurd is tripped

/-! ## TAKE -/

/-- What a TAKE leaves. -/
structure Taken (c d : Chip) : Prop where
  frame  : d = { c with
    run := d.run, clock := d.clock, playback := d.playback, panelLayer := d.panelLayer, lums := d.lums
    pumps := d.pumps, queue := d.queue, joining := d.joining, history := d.history, jets := d.jets
    circ := d.circ, mode := d.mode, links := d.links }
  noted  : Noted [.showState, .mode, .pumpFault] c d
  shows  : ∃ e : Chip, ShowTaken c e ∧ d.run = e.run ∧ d.clock = e.clock ∧ d.playback = e.playback ∧ d.mode.restore = e.mode.restore ∧
    ∀ n, (∀ m : LinkId, n ∈ (e.links[m]).notices) → ∀ m : LinkId, n ∈ (d.links[m]).notices
  orders : ∀ j : JetId, orderOf d j = (.panel, (c.jets[j]).demand, none)
  drives : ∀ p : PumpId, driveOf d p = driveOf c p
  flush  : d.circ.flush = none
  lums   : ∀ k : LumId, d.lums[k] = ⟨(c.lums[k]).gate, .panelLayer, none⟩
  lamps  : ∀ i : Fin 128, d.panelLayer[i] = ⟨c.preGate i, c.preGate i, (c.panelLayer[i]).origin, 0, .localTime⟩
  dormancy : d.mode.dormancy = none
  now    : c.mode.mode = .standby ∨ c.mode.mode = .showMode ∨ (c.mode.mode = .dormant ∧ c.mode.power = .on) →
    d.mode.mode = .manual ∧ ∀ m : LinkId, .mode ∈ (d.links[m]).notices
  later  : c.mode.mode = .settling ∨ (c.mode.mode = .dormant ∧ c.mode.power ≠ .on) →
    d.mode.mode = .settling ∧ d.mode.wake = some .manual

theorem settle_taken (ending : c.run.cue ≠ .ending) (tripped : c.mode.mode ≠ .tripped) (manual : c.mode.mode ≠ .manual) (before : Chip) :
    Taken c (Chip.settle before c.takeFountain) := by
  have shown := takeShow_takes ending
  have watered := waterTaken c.takeShow
  obtain ⟨ls, us, lamped, levels, gates⟩ := lampsToPanel_is c.takeShow.takeJets.cutFlush.endEvent
  have is : c.takeFountain = (c.takeShow.takeJets.cutFlush.endEvent).lampsToPanel.takeMode := rfl
  rw [is, lamped]
  generalize c.takeShow = b at shown watered levels gates
  generalize b.takeJets.cutFlush.endEvent = w at watered levels gates
  have mode : w.mode.mode = c.mode.mode := by rw [watered.frame, shown.frame]
  have power : w.mode.power = c.mode.power := by rw [watered.frame, shown.frame]
  have moded := takeMode_takes (c := { w with panelLayer := ls, lums := us }) (by rw [mode]; exact tripped) (by rw [mode]; exact manual)
  generalize Chip.takeMode { w with panelLayer := ls, lums := us } = d at moded
  have run : d.run = b.run := by rw [moded.frame, watered.frame]
  have ready : d.run.cue ≠ .restoring ∧ d.run.cue ≠ .ending := by
    rw [run]
    rcases shown.cue with at_ | at_ | at_ <;> rw [at_] <;> exact ⟨nofun, nofun⟩
  have still : w.run.cue ≠ .ending := by rw [watered.frame]; rw [← run]; exact ready.2
  have gate (i : Fin 128) : w.preGate i = c.preGate i :=
    preGate_of (by rw [watered.frame, shown.frame]) (by rw [watered.frame, shown.frame]) (by rw [watered.frame, shown.frame])
      (by rw [watered.frame, shown.frame]) (by rw [watered.frame, shown.frame]) ending still
  rw [settle_attended (.inl ready.1) (.inl ready.2) moded.attended.1 moded.attended.2]
  have same (j : JetId) : (b.jets[j]).demand = (c.jets[j]).demand := by rw [shown.frame]
  have pumps : driveOf b = driveOf c := funext fun p => driveOf_of_pumps (by rw [shown.frame]) p
  have noted : Noted [.showState, .mode, .pumpFault] c d := (shown.noted.mono (by simp)).trans
    ((watered.noted.mono (by simp)).trans (.trans (d := { w with panelLayer := ls, lums := us }) (.of_links rfl) (moded.noted.mono (by simp))))
  refine ⟨?_, noted.trans (.of_links rfl), ⟨b, shown, run, ?_, ?_, ?_, fun n heard m => ?_⟩, fun j => ?_, fun p => ?_, ?_, fun k => ?_,
    fun i => ?_, rfl, fun at_once => ?_, fun waits => ?_⟩
  · rw [moded.frame, watered.frame, shown.frame]
  · rw [moded.frame, watered.frame]
  · rw [moded.frame, watered.frame]
  · show d.mode.restore = _
    rw [moded.restore, watered.frame]
  · have told := (watered.noted m).kept n (heard m)
    exact (moded.noted m).kept n told
  · exact (moded.order j).trans ((watered.orders j).trans (by rw [same]))
  · have kept : driveOf d p = driveOf w p := driveOf_of_pumps (by rw [moded.frame]) p
    rw [← pumps, ← watered.drives p, ← kept]
    rfl
  · show d.circ.flush = none
    rw [moded.frame]
    exact watered.flush
  · show d.lums[k] = _
    have lums : d.lums = us := by rw [moded.frame]
    rw [lums, gates, watered.frame, shown.frame]
  · show d.panelLayer[i] = _
    have lamps : d.panelLayer = ls := by rw [moded.frame]
    have origin : w.panelLayer = c.panelLayer := by rw [watered.frame, shown.frame]
    rw [lamps, levels, gate, origin]
  · exact moded.now (by rw [← mode, ← power] at at_once; exact at_once)
  · exact moded.later (by rw [← mode, ← power] at waits; exact waits)

theorem ruleTake_takes (ending : c.run.cue ≠ .ending) (tripped : c.mode.mode ≠ .tripped) (manual : c.mode.mode ≠ .manual)
    (wake : c.mode.mode = .settling → c.mode.wake ≠ some .manual) : ruleTake c = (c.settle c.takeFountain).taken := by
  rw [ruleTake, if_neg (by rintro (is | is) <;> contradiction), if_neg]
  rintro (is | ⟨is, wakes⟩)
  · exact manual is
  · exact wake is wakes

/-- Settles O24: TAKE's tests, and the fountain handed to the panel. -/
theorem takeHandsTheFountainOver : Obligations.TakeHandsTheFountainOver := by
  intro s l heard
  have reacts : Reacts (.take l) s l 17 ruleTake := reacts_of_hears rfl rfl heard
  refine ⟨fun refused => reacts.refuses (if_pos refused), fun ending held => reacts.answers ?_, fun ending tripped manual wake => ?_⟩
  · rw [ruleTake, if_neg, if_pos held]
    · rfl
    · rintro (is | is)
      · rcases held with at_ | ⟨at_, -⟩ <;> exact absurd (is.symm.trans at_) nofun
      · exact ending is
  · have rule := ruleTake_takes ending tripped manual wake
    have taken := settle_taken ending tripped manual s.chip
    generalize s.chip.settle s.chip.takeFountain = d at rule taken
    obtain ⟨e, shown, run, clock, playback, restore, kept⟩ := taken.shows
    refine reacts.takes rule (noticed_of_noted taken.noted (by simp) (by simp)) ⟨?_, fun idle => ?_, fun cue => ?_, fun cue saved shadow => ?_,
      fun cue => ?_, fun cue => ?_, fun j => ?_, fun p => ?_, taken.flush, taken.lums, taken.lamps, taken.dormancy,
      fun at_once => (taken.now at_once).imp_right reply_heard, taken.later⟩
    · show { d with links := (d.reply l 17 .ok .none).links } = { s.chip with
        run := d.run, clock := d.clock, playback := d.playback, panelLayer := d.panelLayer, lums := d.lums
        pumps := d.pumps, queue := d.queue, joining := d.joining, history := d.history, jets := d.jets
        circ := d.circ, mode := d.mode, links := (d.reply l 17 .ok .none).links }
      have frame := taken.frame
      generalize (d.reply l 17 .ok .none).links = links
      rw [frame]
    · have stands := shown.stands idle
      rw [stands] at run clock playback
      exact ⟨run, clock, playback⟩
    · have on : Shown s.chip := by rcases cue with is | is | is <;> rw [Shown, is] <;> simp
      have other : s.chip.run.cue ≠ .holding := by rcases cue with is | is | is <;> rw [is] <;> nofun
      refine run.trans ((shown.paused on).1.trans ?_)
      rw [undoHold_stands other]
    · refine run.trans ((shown.paused (.inr (.inl cue))).1.trans ?_)
      rw [undoHold_run cue shadow]
    · obtain ⟨-, stopped, no_restore, held⟩ := shown.paused cue
      have frame := shown.frame
      refine ⟨clock.trans ?_, restore.trans no_restore, playback.trans held⟩
      generalize e.clock.running = running at stopped frame
      rw [frame, stopped]
    · have on : Shown s.chip := by rcases cue with is | is | is <;> rw [Shown, is] <;> simp
      exact reply_heard (kept _ (shown.heard on (by rcases cue with is | is | is <;> rw [is] <;> nofun)))
    · exact orderOf_iff.mp (taken.orders j)
    · exact driveOf_iff.mp (taken.drives p)

end Sys2Proof.Proofs.TakeFountain


/-! PROOF. RELEASE, the restore pass and its timeout (O25). -/

namespace Sys2Proof.Proofs.ReleaseFountain

open Sys2Proof Sys2Proof.Machine Sys2Proof.Proofs.StepEffects Sys2Proof.Proofs.Water Sys2Proof.Proofs.Orders Sys2Proof.Proofs.Trips
open Sys2Proof.Proofs.Tripped Sys2Proof.Proofs.Settling Sys2Proof.Proofs.SleepWake Sys2Proof.Proofs.Flushing Sys2Proof.Proofs.Links
open Sys2Proof.Proofs.WaterSteps Sys2Proof.Proofs.StartShow Sys2Proof.Proofs.TakeFountain

variable {s : State} {l : LinkId} {c d e before : Chip} {j : JetId} {p : PumpId} {k : LumId}

/-! ## The restore pass completes (R164) -/

/-- The show RUNNING again, its clock going on, before its music does. -/
def resumed (c : Chip) : Chip :=
  Chip.startClock (Chip.notify { c with run := { c.run with cue := .running }, mode := { c.mode with restore := none } } .showState)

/-- What the completion of a restore pass leaves. -/
structure PassEnded (c d : Chip) : Prop where
  frame : d = { c with
    run := { c.run with cue := .running }, mode := { c.mode with restore := none }, playback := d.playback, clock := d.clock
    links := d.links }
  noted : Noted [.showState, .audioStarved] c d
  heard : ∀ m : LinkId, .showState ∈ (d.links[m]).notices
  clock : d.clock.value = c.clock.value ∧ d.clock.running = true

theorem endRestore_ends (c : Chip) : PassEnded c c.endRestore := by
  have is : c.endRestore = (resumed c).resumeAudio := rfl
  have told : Noted [.showState] c (resumed c) := .trans (.of_links rfl) (.trans (.notify (by simp) _) (.of_links rfl))
  have heard (m : LinkId) : .showState ∈ ((resumed c).links[m]).notices :=
    notify_heard { c with run := { c.run with cue := .running }, mode := { c.mode with restore := none } } .showState m
  have frame := Requests.resumeAudio_eq (resumed c)
  have clock := Requests.musicResumed_clock (resumed c).playback (resumed c).clock (resumed c).now
  have music := Requests.resumeAudio_noted (resumed c)
  rw [is]
  refine ⟨?_, (told.mono (by simp)).trans (music.mono (by simp)), Noted.keeps music heard, ?_⟩
  · rw [frame]
    rfl
  · rw [frame]
    exact clock

/-- After the tests that follow a completion, the dormancy timer alone is stopped. -/
theorem settle_passEnded (ended : PassEnded c d) (mode : c.mode.mode = .showMode) (before : Chip) :
    Chip.settle before d = { d with mode := { c.mode with restore := none, dormancy := none } } := by
  have run : d.run.cue = .running := by rw [ended.frame]
  have same : d.mode = { c.mode with restore := none } := by rw [ended.frame]
  rw [settle_attended (.inl (by rw [run]; nofun)) (.inl (by rw [run]; nofun)) (by rw [same, mode]; nofun) (by rw [same, mode]; nofun), same]

/-! ## The restore timeout (R164) -/

theorem restoreExpiry_other (other : c.run.cue ≠ .restoring) : c.restoreExpiry = c := by
  unfold Chip.restoreExpiry
  split
  · exact absurd ‹_› other
  · rfl

theorem restoreExpiry_restores {t : Nat} (restoring : c.run.cue = .restoring) (timeout : c.mode.restore = some t) :
    c.restoreExpiry = c.settle (c.reach (t + 30000)).endRestore := by
  rw [Chip.restoreExpiry, restoring, timeout]
  rfl

theorem restoreTimeout_ends (free : s.chip.resetHeld = false) :
    (s.chip.run.cue ≠ .restoring → exec .restoreTimeout s = .next s) ∧
     (s.chip.run.cue = .restoring → s.chip.mode.mode = .showMode → ∀ t : Nat, s.chip.mode.restore = some t →
       Becomes .restoreTimeout s [.showState] [.audioStarved] fun d =>
         d.run = { s.chip.run with cue := .running } ∧
         d.mode = { s.chip.mode with restore := none, dormancy := none } ∧
         d.now = max s.chip.now (t + 30000) ∧ d.clock.value = s.chip.clock.value ∧ d.clock.running = true ∧
         d.image = s.chip.image ∧ d.jets = s.chip.jets ∧ d.pumps = s.chip.pumps ∧ d.queue = s.chip.queue ∧
         d.showLayer = s.chip.showLayer ∧ d.panelLayer = s.chip.panelLayer ∧ d.lums = s.chip.lums ∧
         d.pages = s.chip.pages) := by
  refine ⟨fun other => event_next (f := Chip.restoreExpiry) rfl free (restoreExpiry_other other), fun restoring mode t timeout => ?_⟩
  have run : exec .restoreTimeout s = .next { s with chip := _ } :=
    event_next (f := Chip.restoreExpiry) rfl free (restoreExpiry_restores restoring timeout)
  have ended := endRestore_ends (s.chip.reach (t + 30000))
  rw [settle_passEnded ended mode] at run
  generalize (s.chip.reach (t + 30000)).endRestore = e at ended run
  obtain ⟨value, running⟩ := ended.clock
  have frame := ended.frame
  have stands : e.image = s.chip.image ∧ e.jets = s.chip.jets ∧ e.pumps = s.chip.pumps ∧ e.queue = s.chip.queue ∧
      e.showLayer = s.chip.showLayer ∧ e.panelLayer = s.chip.panelLayer ∧ e.lums = s.chip.lums ∧ e.pages = s.chip.pages := by
    rw [frame]
    exact ⟨rfl, rfl, rfl, rfl, rfl, rfl, rfl, rfl⟩
  have show_ : e.run = { s.chip.run with cue := .running } := by rw [frame]; rfl
  have now : e.now = max s.chip.now (t + 30000) := by
    rw [← Chip.reach_now, frame]
  exact ⟨_, run, noticed_of_noted (.trans (.of_links rfl) (ended.noted.trans (.of_links rfl))) (by simpa using ended.heard) (by simp),
    show_, rfl, now, value, running, stands⟩

/-! ## The release crossfade (R140) -/

/-- Every luminaire fades from the panel's levels, from now on. -/
def Crossfades (c : Chip) (us : Vector Luminaire 32) : Prop := ∀ k : LumId, ∃ x : Crossfade,
  (us[k]).crossfade = some x ∧ x.origin = c.now ∧ ∀ q : ColourId, x.start[q] = c.panelLevel (channelOf k q)

theorem beginCrossfade_is (c : Chip) : ∃ us : Vector Luminaire 32, c.beginCrossfade = { c with lums := us } ∧ Crossfades c us := by
  refine ⟨_, rfl, fun k => ⟨⟨Vector.ofFn fun q => c.panelLevel (channelOf k q), c.now⟩, ?_, rfl, fun q => Vector.getElem_ofFn _⟩⟩
  rw [show (Vector.ofFn fun l => ({ c.lums[l] with crossfade := some ⟨Vector.ofFn fun k => c.panelLevel (channelOf l k), c.now⟩ } :
    Luminaire))[k] = _ from Vector.getElem_ofFn _]

theorem Crossfades.of_same {us : Vector Luminaire 32} (h : Crossfades d us) (panel : d.panelLayer = c.panelLayer)
    (value : d.clock.value = c.clock.value) (now : d.now = c.now) (before : c.run.cue ≠ .ending) (after : d.run.cue ≠ .ending) :
    Crossfades c us := fun k => by
  obtain ⟨x, is, origin, start⟩ := h k
  refine ⟨x, is, origin.trans now, fun q => (start q).trans ?_⟩
  rw [Chip.panelLevel, Chip.panelLevel, levelOf_of value now before after, panel]

/-! ## RELEASE without a paused show (R165) -/

/-- The jets shut and the pumps told to stop. -/
def watersFreed (c : Chip) : Chip :=
  Chip.endEvent (Chip.forEach (List.finRange 12) (fun p c => c.intentStop p) (c.demandWrites (List.finRange 48) .none 0))

/-- The water of a released fountain. -/
structure WaterFreed (c d : Chip) : Prop where
  frame  : d = { c with
    pumps := d.pumps, queue := d.queue, joining := d.joining, history := d.history, jets := Vector.replicate 48 idleJet
    circ := d.circ, links := d.links }
  noted  : Noted [.pumpFault] c d
  drives : ∀ p : PumpId, driveOf d p = (.stop, (c.pumps[p]).policy)
  debt   : d.circ.debt = c.circ.debt

theorem watersFreed_is (c : Chip) : WaterFreed c (watersFreed c) := by
  have writes : WaterMoves anyJet anyPump true c (c.demandWrites (List.finRange 48) .none 0) :=
    demandWrites_moves c _ _ fun _ _ => trivial
  have drives (p : PumpId) : driveOf (c.demandWrites (List.finRange 48) .none 0) p = driveOf c p :=
    waterMoves_drive (I := noPump) (demandWrites_moves (J := anyJet) c _ _ fun _ _ => trivial) not_false
  have shut := demandWrites_all_shut .none c
  unfold watersFreed
  generalize c.demandWrites (List.finRange 48) .none 0 = d at writes drives shut
  have stops : WaterMoves noJet anyPump true d (d.forEach (List.finRange 12) fun p c => c.intentStop p) :=
    .forEach fun _ _ d => intentStop_moves (c := d) trivial
  have stopped : WaterMoves anyJet anyPump true d (d.forEach (List.finRange 12) fun p c => c.intentStop p) :=
    .forEach fun _ _ d => intentStop_moves (c := d) trivial
  have drive := intentStops_drive d
  generalize d.forEach (List.finRange 12) (fun p c => c.intentStop p) = e at stops stopped drive
  have jets := jets_stay_shut rfl shut (endEvent_moves (b := true) stops)
  have ended := endEvent_drive e
  have all : WaterMoves anyJet anyPump true c e.endEvent := endEvent_moves (writes.trans stopped)
  generalize e.endEvent = w at jets ended all
  have frame := (waterMoves_water all).1
  rw [jets] at frame
  refine ⟨frame, waterMoves_noted all, fun p => ?_, ?_⟩
  · rw [ended, drive]
    exact congrArg (fun x => (Intent.stop, x.2)) (drives p)
  · obtain ⟨f, circ, -⟩ := waterMoves_flush all
    rw [circ]

/-- What RELEASE leaves where no show is paused. -/
structure Released (c d : Chip) : Prop where
  frame    : d = { c with
    lums := d.lums, pumps := d.pumps, queue := d.queue, joining := d.joining, history := d.history, jets := d.jets
    circ := d.circ, mode := d.mode, links := d.links }
  noted    : Noted [.mode, .pumpFault] c d
  heard    : ∀ m : LinkId, .mode ∈ (d.links[m]).notices
  mode     : d.mode.mode = .standby
  drives   : ∀ p : PumpId, driveOf d p = (.stop, (c.pumps[p]).policy)
  lamps    : Crossfades c d.lums
  jets     : c.circ.debt = 0 → d.jets = Vector.replicate 48 idleJet
  dormancy : c.circ.debt = 0 → c.run.cue = .idle → c.mode.flushRunning = false → d.mode.dormancy =
    if c.limits.site.dormancy = 0 then none else some ⟨c.now, c.limits.site.dormancy⟩

theorem settle_released (manual : c.mode.mode = .manual) (cue : c.run.cue = .idle ∨ c.run.cue = .cued) :
    Released c (Chip.settle c c.releaseFountain) := by
  obtain ⟨us, crossed, fades⟩ := beginCrossfade_is (watersFreed c)
  have is : c.releaseFountain = (watersFreed c).beginCrossfade.toMode .standby := rfl
  obtain ⟨frame, noted, drives, debt⟩ := watersFreed_is c
  rw [is, crossed]
  generalize watersFreed c = w at fades frame noted drives debt
  have mode : w.mode = c.mode := by rw [frame]
  have run : w.run = c.run := by rw [frame]
  have ending : c.run.cue ≠ .ending := by rcases cue with at_ | at_ <;> rw [at_] <;> nofun
  have restoring : c.run.cue ≠ .restoring := by rcases cue with at_ | at_ <;> rw [at_] <;> nofun
  have lamps : Crossfades c us := fades.of_same (by rw [frame]) (by rw [frame]) (by rw [frame]) ending (by rw [run]; exact ending)
  have moded : Chip.toMode { w with lums := us } .standby =
      Chip.notify { w with lums := us, mode := { c.mode with mode := .standby } } .mode := by
    rw [toMode_other (by show w.mode.mode ≠ _; rw [mode, manual]; nofun), ← mode]
  have told := Noted.notify (may := [.mode, .pumpFault]) (n := .mode) (by simp)
    { w with lums := us, mode := { c.mode with mode := .standby } }
  have heard := notify_heard { w with lums := us, mode := { c.mode with mode := .standby } } .mode
  rw [moded]
  generalize e_is : Chip.notify { w with lums := us, mode := { c.mode with mode := .standby } } .mode = e at told heard
  have e_frame : e = { w with lums := us, mode := { c.mode with mode := .standby }, links := e.links } := by
    rw [← e_is]
    rfl
  have e_run : e.run = c.run := by rw [e_frame]; exact run
  have calm : Calm e (c.settle e) := settle_calm c (by rw [e_run]; exact cue)
  have quiet (paid : c.circ.debt = 0) : c.settle e = { e with mode := { e.mode with dormancy := dormancyAfter c e } } :=
    settle_stands (.inl (by rw [e_run]; exact restoring)) (.inl (by rw [e_run]; exact ending))
      (not_flushDue_of_debt (by rw [e_frame]; exact debt.trans paid)) (by rw [e_frame]; nofun)
  generalize c.settle e = f at calm quiet
  refine ⟨?_, (noted.mono (by simp)).trans (.trans (.of_links rfl) (told.trans (calm.noted.mono (by simp)))), Noted.keeps calm.noted heard, ?_,
    fun p => ?_, ?_, fun paid => ?_, fun paid idle still => ?_⟩
  · refine calm.frame.trans ?_
    have lums : f.lums = us := by rw [calm.frame, e_frame]
    rw [lums, e_frame, frame]
  · rw [calm.modeIs, e_frame]
  · have same : driveOf e p = driveOf w p := driveOf_of_pumps (by rw [e_frame]) p
    rw [calm.drives, same, drives]
  · have lums : f.lums = us := by rw [calm.frame, e_frame]
    rw [lums]
    exact lamps
  · rw [quiet paid]
    show e.jets = _
    rw [e_frame]
    show w.jets = _
    rw [frame]
  · have before : c.unattended = false := by simp [Chip.unattended, manual]
    have after : e.unattended = true := by
      have e_mode : e.mode = { c.mode with mode := .standby } := by rw [e_frame]
      simp [Chip.unattended, e_mode, e_run, idle, still]
    have limits : e.limits = c.limits := by rw [e_frame]; show w.limits = _; rw [frame]
    have now : e.now = c.now := by rw [e_frame]; show w.now = _; rw [frame]
    rw [quiet paid]
    show dormancyAfter c e = _
    rw [dormancyAfter, after, before, limits, now]
    rfl

theorem ruleRelease_manual (manual : c.mode.mode = .manual) (unpaused : c.run.cue ≠ .paused) :
    ruleRelease c = (c.settle c.releaseFountain).taken := by
  rw [ruleRelease, if_neg (by rw [manual]; nofun), if_neg (not_not_intro manual), if_neg fun h => unpaused h.1]

theorem release_frees (heard : s.chip.hears l 18) (manual : s.chip.mode.mode = .manual)
    (cue : s.chip.run.cue = .idle ∨ s.chip.run.cue = .cued) :
    Takes (.release l) s l 18 [.mode] [.pumpFault] fun d =>
       d = { s.chip with
         lums := d.lums, pumps := d.pumps, queue := d.queue, joining := d.joining, history := d.history, jets := d.jets
         circ := d.circ, mode := d.mode, links := d.links } ∧
       d.mode.mode = .standby ∧
       (∀ p : PumpId, (d.pumps[p]).intent = .stop ∧ (d.pumps[p]).policy = (s.chip.pumps[p]).policy) ∧
       (∀ k : LumId, ∃ x : Crossfade, (d.lums[k]).crossfade = some x ∧ x.origin = s.chip.now ∧
         ∀ q : ColourId, x.start[q] = s.chip.panelLevel (channelOf k q)) ∧
       (s.chip.circ.debt = 0 →
         d.jets = Vector.replicate 48 idleJet ∧
         (s.chip.run.cue = .idle → s.chip.mode.flushRunning = false →
           d.mode.dormancy =
             if s.chip.limits.site.dormancy = 0 then none else some ⟨s.chip.now, s.chip.limits.site.dormancy⟩)) := by
  have reacts : Requests.Reacts (.release l) s l 18 ruleRelease := Requests.reacts_of_hears rfl rfl heard
  have rule := ruleRelease_manual manual (by rcases cue with at_ | at_ <;> rw [at_] <;> nofun)
  have left := settle_released manual cue
  generalize s.chip.settle s.chip.releaseFountain = d at rule left
  refine reacts.takes rule (noticed_mode left.noted left.heard) ⟨?_, left.mode, fun p => driveOf_iff.mp (left.drives p), left.lamps,
    fun paid => ⟨left.jets paid, left.dormancy paid⟩⟩
  show { d with links := (d.reply l 18 .ok .none).links } = { s.chip with
    lums := d.lums, pumps := d.pumps, queue := d.queue, joining := d.joining, history := d.history, jets := d.jets
    circ := d.circ, mode := d.mode, links := (d.reply l 18 .ok .none).links }
  have frame := left.frame
  generalize (d.reply l 18 .ok .none).links = links
  rw [frame]

/-! ## The restore pass begins (R163) -/

/-- The show record and the mode of a restore pass. -/
def passRecorded (c : Chip) : Chip :=
  { c with run := { c.run with cue := .restoring, pauseCause := none }, mode := { c.mode with mode := .showMode } }

/-- The restore pass begun, SHOW_STATE and MODE noticed. -/
def passBegun (c : Chip) : Chip := ((passRecorded c).notify .showState).notify .mode

/-- The jets as the image of `c` has them. -/
def jetsRestored (c d : Chip) : Chip :=
  d.forEach (List.finRange 48) fun j d => d.demandWrite .showRun (c.image.jets[j]).demand (c.image.jets[j]).burstEnd j

/-- The pumps as the image of `c` has them. -/
def pumpsRestored (c d : Chip) : Chip :=
  d.forEach (List.finRange 12) fun p d => d.handDrive p (c.image.pumps[p]).intent (c.image.pumps[p]).policy false

/-- The water handed back to the show. -/
def waterRestoring (c : Chip) : Chip := (pumpsRestored c (jetsRestored c (passBegun c)).expireBursts).endEvent

theorem beginRestore_is (manual : c.mode.mode = .manual) : c.beginRestore =
    { (waterRestoring c).beginCrossfade with mode := { (waterRestoring c).beginCrossfade.mode with restore := some c.now } } := by
  have begun : Chip.toMode (Chip.notify { c with run := { c.run with cue := .restoring, pauseCause := none } } .showState) .showMode =
      passBegun c := (toMode_other (by show c.mode.mode ≠ _; rw [manual]; nofun)).trans rfl
  unfold Chip.beginRestore waterRestoring pumpsRestored jetsRestored
  dsimp only
  rw [begun]

theorem jetsRestored_moves (c d : Chip) : WaterMoves anyJet noPump true d (jetsRestored c d) :=
  .forEach fun _ _ d => demandWrite_moves d _ _ _ trivial

theorem pumpsRestored_moves (c d : Chip) : WaterMoves noJet anyPump true d (pumpsRestored c d) :=
  .forEach fun _ _ _ => handDrive_moves (I := anyPump) trivial _ _ _

theorem jetsRestored_order (c d : Chip) (j : JetId) :
    orderOf (jetsRestored c d) j = (.showRun, (c.image.jets[j]).demand, (c.image.jets[j]).burstEnd) :=
  (forEach_order _ (fun _ => .showRun) (fun j => (c.image.jets[j]).demand) (fun j => (c.image.jets[j]).burstEnd) d j).trans
    (if_pos (List.mem_finRange j))

theorem pumpsRestored_drive (c d : Chip) (p : PumpId) :
    driveOf (pumpsRestored c d) p = ((c.image.pumps[p]).intent, (c.image.pumps[p]).policy) := by
  rw [pumpsRestored, forEach_drive (fun p _ => ((c.image.pumps[p]).intent, (c.image.pumps[p]).policy)) (fun _ _ => rfl)
    fun p d q => handDrive_drive d p q _ _ _, if_pos (List.mem_finRange p)]

/-- What the restore pass hands back before the tests that follow. -/
structure WaterHanded (c d : Chip) : Prop where
  flows  : Flows (passBegun c) d
  owners : ∀ j : JetId, (d.jets[j]).owner = .showRun
  ahead  : ∀ j : JetId, (∀ b, (c.image.jets[j]).burstEnd = some b → c.clock.value < b) →
    (d.jets[j]).demand = (c.image.jets[j]).demand ∧ (d.jets[j]).burstEnd = (c.image.jets[j]).burstEnd ∧
      d.image.jets[j] = c.image.jets[j]
  drives : ∀ p : PumpId, driveOf d p = ((c.image.pumps[p]).intent, (c.image.pumps[p]).policy)

theorem waterRestoring_is (c : Chip) : WaterHanded c (waterRestoring c) := by
  have begun : (passBegun c).image = c.image ∧ (passBegun c).clock = c.clock := ⟨rfl, rfl⟩
  unfold waterRestoring
  generalize is : passBegun c = b at begun
  have writes := jetsRestored_moves c b
  have order := jetsRestored_order c b
  generalize jetsRestored c b = d at writes order
  have expired := Flows.expireBursts d
  have reached (j : JetId) := expireBursts_reached (j := j) (c := d)
  have ahead (j : JetId) := expireBursts_ahead (j := j) (c := d)
  have image := expireBursts_image d
  generalize d.expireBursts = e at expired reached ahead image
  have hands := pumpsRestored_moves c e
  have drive := pumpsRestored_drive c e
  generalize pumpsRestored c e = f at hands drive
  have water : WaterMoves noJet anyPump true e f.endEvent := endEvent_moves hands
  have ended := endEvent_drive f
  generalize f.endEvent = w at water ended
  have last (j : JetId) : orderOf w j = orderOf e j := waterMoves_order water not_false
  have d_image : d.image = c.image := (waterMoves_water writes).image.trans begun.1
  have d_clock : d.clock = c.clock := (waterMoves_water writes).clock.trans begun.2
  refine ⟨?_, fun j => ?_, fun j later => ?_, fun p => (ended p).trans (drive p)⟩
  · rw [is]
    exact ((Flows.water writes).trans expired).trans (.water water)
  · by_cases due : Reached j d
    · have shut := (last j).trans (reached j due).order
      exact (orderOf_iff.mp shut).1.trans (orderOf_iff.mp (order j)).1
    · have stands := (last j).trans ((ahead j due).order.trans (order j))
      exact (orderOf_iff.mp stands).1
  · have due : ¬Reached j d := by
      rintro ⟨b, is, past⟩
      rw [(orderOf_iff.mp (order j)).2.2] at is
      rw [d_clock] at past
      exact absurd past (Nat.not_le.mpr (later b is))
    have stands := orderOf_iff.mp ((last j).trans ((ahead j due).order.trans (order j)))
    refine ⟨stands.2.1, stands.2.2, ?_⟩
    rw [(waterMoves_water water).image, image, d_image, d_clock, imagePast_ahead later]

theorem waterRestored_iff : c.waterRestored = true ↔ ∀ j : JetId, 0 < (c.image.jets[j]).demand → (c.jets[j]).state = .opened := by
  simp only [Chip.waterRestored, List.all_eq_true, List.mem_finRange, true_implies, Bool.or_eq_true, decide_eq_true_eq]
  exact forall_congr' fun j => by rw [or_iff_not_imp_left, Nat.pos_iff_ne_zero]

/-- A pass whose water is restored completes in the tests that follow. -/
theorem settle_restored (restoring : c.run.cue = .restoring) (restored : c.waterRestored = true) (before : Chip) :
    Chip.settle before c = Chip.settle before c.endRestore := by
  have ended : c.testRestore = c.endRestore := if_pos ⟨restoring, restored⟩
  have run : c.endRestore.run.cue = .running := by rw [(endRestore_ends c).frame]
  rw [settle_eq, settle_eq, ended, testRestore_stands (c := c.endRestore) (.inl (by rw [run]; nofun))]

/-- What RELEASE leaves of a show that the panel took. -/
structure PassLeft (c d : Chip) : Prop where
  frame  : d = { c with
    run := d.run, image := d.image, clock := d.clock, playback := d.playback, lums := d.lums
    pumps := d.pumps, queue := d.queue, joining := d.joining, history := d.history, jets := d.jets
    circ := d.circ, mode := d.mode, links := d.links }
  noted  : Noted [.showState, .mode, .pumpFault, .audioStarved] c d
  heard  : ∀ m : LinkId, .showState ∈ (d.links[m]).notices ∧ .mode ∈ (d.links[m]).notices
  mode   : d.mode.mode = .showMode ∧ d.mode.dormancy = none
  jets   : ∀ j : JetId, (d.jets[j]).owner = .showRun ∧
    ((∀ b, (c.image.jets[j]).burstEnd = some b → c.clock.value < b) →
      (d.jets[j]).demand = (c.image.jets[j]).demand ∧ (d.jets[j]).burstEnd = (c.image.jets[j]).burstEnd ∧
        d.image.jets[j] = c.image.jets[j])
  drives : ∀ p : PumpId, driveOf d p = ((c.image.pumps[p]).intent, (c.image.pumps[p]).policy)
  lamps  : Crossfades c d.lums
  pass   : (d.run = { c.run with cue := .restoring, pauseCause := none } ∧ d.mode.restore = some c.now ∧
      d.clock = c.clock ∧ d.playback = c.playback ∧
      ∃ j : JetId, 0 < (d.image.jets[j]).demand ∧ (d.jets[j]).state ≠ .opened) ∨
    (d.run = { c.run with cue := .running, pauseCause := none } ∧ d.mode.restore = none ∧
      d.clock.value = c.clock.value ∧ d.clock.running = true ∧
      ∀ j : JetId, 0 < (d.image.jets[j]).demand → (d.jets[j]).state = .opened)

theorem passBegun_noted (c : Chip) : Noted [.showState, .mode] c (passBegun c) ∧
    ∀ m : LinkId, .showState ∈ ((passBegun c).links[m]).notices ∧ .mode ∈ ((passBegun c).links[m]).notices := by
  have first := Noted.notify (may := [.showState, .mode]) (n := .showState) (by simp) (passRecorded c)
  have second := Noted.notify (may := [.showState, .mode]) (n := .mode) (by simp) ((passRecorded c).notify .showState)
  exact ⟨.trans (.of_links rfl) (first.trans second), fun m => ⟨(second m).kept _ (notify_heard _ _ m), notify_heard _ _ m⟩⟩

theorem settle_passBegun (manual : c.mode.mode = .manual) (paused : c.run.cue = .paused) (before : Chip) :
    PassLeft c (Chip.settle before c.beginRestore) := by
  have handed := waterRestoring_is c
  obtain ⟨us, crossed, fades⟩ := beginCrossfade_is (waterRestoring c)
  obtain ⟨told, heard⟩ := passBegun_noted c
  rw [beginRestore_is manual, crossed]
  generalize waterRestoring c = w at handed fades
  have flows := handed.flows
  have begun : passBegun c = { passRecorded c with links := (passBegun c).links } := rfl
  generalize passBegun c = b at told heard flows begun
  have w_frame := flows.frame
  rw [begun] at w_frame
  have lamps : Crossfades c us := fades.of_same (by rw [w_frame]; rfl) (by rw [w_frame]; rfl) (by rw [w_frame]; rfl)
    (by rw [paused]; nofun) (by rw [w_frame]; nofun)
  have noted : Noted [.showState, .mode, .pumpFault, .audioStarved] c w := (told.mono (by simp)).trans (flows.noted.mono (by simp))
  have w_heard (m : LinkId) : .showState ∈ (w.links[m]).notices ∧ .mode ∈ (w.links[m]).notices :=
    ⟨(flows.noted m).kept _ (heard m).1, (flows.noted m).kept _ (heard m).2⟩
  generalize e_is : ({ w with lums := us, mode := { w.mode with restore := some c.now } } : Chip) = e
  have e_frame : e = { c with
      run := { c.run with cue := .restoring, pauseCause := none }, image := w.image, lums := us, pumps := w.pumps, queue := w.queue
      joining := w.joining, history := w.history, jets := w.jets, circ := w.circ
      mode := { c.mode with mode := .showMode, restore := some c.now }, links := w.links } := by
    rw [← e_is, w_frame]
    rfl
  have e_links : e.links = w.links := by rw [e_frame]
  have e_run : e.run.cue = .restoring := by rw [e_frame]
  have e_mode : e.mode.mode = .showMode := by rw [e_frame]
  have e_jets : e.jets = w.jets ∧ e.image = w.image ∧ e.pumps = w.pumps ∧ e.lums = us := by
    rw [e_frame]
    exact ⟨rfl, rfl, rfl, rfl⟩
  obtain ⟨same_jets, same_image, same_pumps, same_lums⟩ := e_jets
  have jets (j : JetId) := And.intro (handed.owners j) (handed.ahead j)
  have drives (p : PumpId) : driveOf e p = _ := (driveOf_of_pumps same_pumps p).trans (handed.drives p)
  rw [← same_jets, ← same_image] at jets
  rw [← same_lums] at lamps
  have e_noted : Noted [.showState, .mode, .pumpFault, .audioStarved] c e := noted.trans (.of_links e_links)
  have e_heard (m : LinkId) : .showState ∈ (e.links[m]).notices ∧ .mode ∈ (e.links[m]).notices := by rw [e_links]; exact w_heard m
  have e_clock : e.clock = c.clock := by rw [e_frame]
  cases restored : e.waterRestored with
  | false =>
    rw [settle_attended (.inr restored) (.inl (by rw [e_run]; nofun)) (by rw [e_mode]; nofun) (by rw [e_mode]; nofun)]
    refine ⟨?_, e_noted.trans (.of_links rfl), e_heard, ⟨e_mode, rfl⟩, jets, drives, lamps, .inl ⟨?_, ?_, e_clock, ?_, ?_⟩⟩
    · rw [e_frame]
    · rw [e_frame]
    · rw [e_frame]
    · rw [e_frame]
    · have waits : ¬∀ j : JetId, 0 < (e.image.jets[j]).demand → (e.jets[j]).state = .opened := by
        rw [← waterRestored_iff, restored]
        nofun
      push Not at waits
      exact waits
  | true =>
    have ended := endRestore_ends e
    have opened := waterRestored_iff.mp restored
    rw [settle_restored e_run restored, settle_passEnded ended e_mode]
    generalize e.endRestore = d at ended
    have frame := ended.frame
    have d_jets : d.jets = e.jets ∧ d.image = e.image ∧ d.pumps = e.pumps ∧ d.lums = e.lums := by
      rw [frame]
      exact ⟨rfl, rfl, rfl, rfl⟩
    obtain ⟨d_jets, d_image, d_pumps, d_lums⟩ := d_jets
    rw [← d_jets, ← d_image] at jets opened
    rw [← d_lums] at lamps
    obtain ⟨value, running⟩ := ended.clock
    refine ⟨?_, e_noted.trans (.trans (ended.noted.mono (by simp)) (.of_links rfl)), fun m => ⟨ended.heard m, (ended.noted m).kept _ (e_heard m).2⟩,
      ⟨e_mode, rfl⟩, jets, fun p => (driveOf_of_pumps d_pumps p).trans (drives p), lamps, .inr ⟨?_, rfl, ?_, running, opened⟩⟩
    · rw [frame, e_frame]
    · rw [frame, e_frame]
    · rw [← e_clock]
      exact value

/-- Settles O25: RELEASE's tests, the restore pass begun, the fountain freed, and the restore timeout. -/
theorem releaseGivesTheFountainBack : Obligations.ReleaseGivesTheFountainBack := by
  refine ⟨fun s l heard => ?_, fun s l heard manual cue => release_frees heard manual cue, fun s free => restoreTimeout_ends free⟩
  have reacts : Requests.Reacts (.release l) s l 18 ruleRelease := Requests.reacts_of_hears rfl rfl heard
  refine ⟨fun dormant => reacts.refuses (if_pos dormant), fun awake other => reacts.refuses ?_, fun manual paused cause => ?_⟩
  · rw [ruleRelease, if_neg awake, if_pos other]
  · have rule : ruleRelease s.chip = (s.chip.settle s.chip.beginRestore).taken := by
      rw [ruleRelease, if_neg (by rw [manual]; nofun), if_neg (not_not_intro manual), if_pos ⟨paused, cause⟩]
    have left := settle_passBegun manual paused s.chip
    generalize s.chip.settle s.chip.beginRestore = d at rule left
    obtain ⟨mode, dormancy⟩ := left.mode
    refine reacts.takes rule (noticed_of_noted left.noted ?_ (by simp)) ⟨?_, mode, dormancy, left.jets,
      fun p => driveOf_iff.mp (left.drives p), left.lamps, left.pass⟩
    · intro n mem m
      obtain ⟨show_, mode_⟩ := left.heard m
      rcases List.mem_cons.mp mem with rfl | mem
      · exact show_
      · rw [List.mem_singleton.mp mem]
        exact mode_
    · show { d with links := (d.reply l 18 .ok .none).links } = { s.chip with
        run := d.run, image := d.image, clock := d.clock, playback := d.playback, lums := d.lums
        pumps := d.pumps, queue := d.queue, joining := d.joining, history := d.history, jets := d.jets
        circ := d.circ, mode := d.mode, links := (d.reply l 18 .ok .none).links }
      have frame := left.frame
      generalize (d.reply l 18 .ok .none).links = links
      rw [frame]

end Sys2Proof.Proofs.ReleaseFountain


/-! PROOF. The pump requests of the panel (O33): each pump of the set has its turn, and the start queue is tested at the end. -/

namespace Sys2Proof.Proofs.ManualPumps

open Sys2Proof Sys2Proof.Machine Sys2Proof.Proofs.StepEffects Sys2Proof.Proofs.Water Sys2Proof.Proofs.Orders Sys2Proof.Proofs.OnePump
open Sys2Proof.Proofs.Arbiter Sys2Proof.Proofs.Halting Sys2Proof.Proofs.Requests Sys2Proof.Proofs.ManualJets Sys2Proof.Proofs.WaterSteps
open Sys2Proof.Proofs.Trips

variable {i : Instr} {s : State} {l : LinkId} {c d e x : Chip} {p q : PumpId} {j : JetId} {set : PumpSet} {kind : Nat}

/-! ## One pump at the end of an event -/

/-- The pump has an entry in the start queue, or one that joins it as the event ends. -/
def Waits (p : PumpId) (c : Chip) : Prop := ∃ x, Waiting c x ∧ x.pump = p

theorem waits_iff_queued : Waits p c ↔ c.queued p = true := queued_iff.symm

/-- What stands aside of every entry of the queue stands aside of the queue's test. -/
theorem testQueue_unwaiting (gone : ∀ x ∈ c.queue, x.pump ≠ p) : Aside p c c.testQueue := by
  refine (testQueue_keeps (P := fun d => Aside p c d ∧ ∀ x ∈ d.queue, x.pump ≠ p) (fun d x grantable ⟨stood, absent⟩ => ?_)
    ⟨.refl p c, gone⟩).1
  have other : p ≠ x.pump := fun same => absent x (Chip.grantable_mem d grantable).1 same.symm
  refine ⟨stood.trans (grant_aside d x other), fun y mem => absent y ?_⟩
  rw [grant_queue] at mem
  exact List.mem_of_mem_filter mem

/-- A pump without an entry stands as the event ends. -/
theorem endEvent_unwaiting (gone : ¬Waits p c) : Aside p c c.endEvent :=
  (collected_aside p c).trans (testQueue_unwaiting (c := collected c) fun x mem of => gone ⟨x, mem, of⟩)

theorem waits_endEvent : Waits p c.endEvent ↔ ∃ x ∈ c.endEvent.queue, x.pump = p :=
  exists_congr fun _ => and_congr_left fun _ => endEvent_waiting c

/-- A pump with an entry still has it as the event ends, or has been granted its start now. -/
theorem endEvent_granted (waits : Waits p c) : Waits p c.endEvent ∨ (c.endEvent.pumps[p]).lastGrant = some c.now := by
  have test : c.endEvent.now = c.now ∧ ((∃ x ∈ c.endEvent.queue, x.pump = p) ∨ (c.endEvent.pumps[p]).lastGrant = some c.now) := by
    refine testQueue_keeps (P := fun d => d.now = c.now ∧ ((∃ x ∈ d.queue, x.pump = p) ∨ (d.pumps[p]).lastGrant = some c.now))
      (c := collected c) (fun d x grantable ⟨now, stood⟩ => ⟨(Chip.grant_water d x).now.trans now, ?_⟩) ⟨rfl, .inl waits⟩
    by_cases own : p = x.pump
    · subst own
      right
      rw [grant_own, driven, ← now]
      split <;> rfl
    · have aside := grant_aside d x own
      rw [aside.record, grant_queue]
      refine stood.imp_left fun ⟨y, mem, of⟩ => ⟨y, List.mem_filter.mpr ⟨mem, ?_⟩, of⟩
      exact decide_eq_true (by rw [of]; exact own)
  exact test.2.imp_left waits_endEvent.mpr

/-! ## One pump's turn -/

/-- Each pump of a set has one turn, and stands before and after it. -/
theorem onPumps_turn {f : PumpId → Chip → Chip} (moves : ∀ q d, WaterMoves noJet anyPump true d (f q d))
    (others : ∀ q d, p ≠ q → Aside p d (f q d)) (named : set.getLsbD p.val = true) (c : Chip) :
    ∃ x, WaterMoves noJet anyPump true c x ∧ Aside p c x ∧
      WaterMoves noJet anyPump true (f p x) (Chip.forEach (pumpsIn set) f c) ∧ Aside p (f p x) (Chip.forEach (pumpsIn set) f c) :=
  forEach_turn (R := WaterMoves noJet anyPump true) .refl (fun _ _ _ => .trans) moves others ((List.nodup_finRange 12).filter _)
    (mem_pumpsIn.mpr named) c

theorem onPumps_moves {f : PumpId → Chip → Chip} (moves : ∀ q d, WaterMoves noJet anyPump true d (f q d)) (c : Chip) :
    WaterMoves noJet anyPump true c (c.onPumps set f) := endEvent_moves (.forEach fun q _ d => moves q d)

theorem onPumps_drive {f : PumpId → Chip → Chip} (told : Intent × Policy → Intent × Policy) (idempotent : ∀ x, told (told x) = told x)
    (step : ∀ p c q, driveOf (f p c) q = if q = p then told (driveOf c p) else driveOf c q) (c : Chip) (p : PumpId) :
    driveOf (c.onPumps set f) p = if set.getLsbD p.val = true then told (driveOf c p) else driveOf c p := by
  rw [Chip.onPumps, endEvent_drive, forEach_drive (fun _ => told) (fun _ => idempotent) step]
  simp only [mem_pumpsIn]

/-! ## PUMP_START -/

/-- A request made of a STOPPED or RESTING pump waits. -/
theorem startRequest_joins (tripped : c.mode.mode ≠ .tripped) (waits : stateOf c p = .stopped ∨ stateOf c p = .resting) (r : Requester) :
    Waits p (c.startRequest p r) := by
  rw [startRequest_waits tripped waits]
  split
  next queued => exact waits_iff_queued.mpr queued
  next => exact ⟨⟨p, r, c.now⟩, by simp [Waiting, (insertEntry_perm _ _).mem_iff], rfl⟩

theorem intentRun_joins (tripped : c.mode.mode ≠ .tripped) (waits : stateOf c p = .stopped ∨ stateOf c p = .resting) (r : Requester) :
    Waits p (c.intentRun p r) ∧ stateOf (c.intentRun p r) p = stateOf c p := by
  have written : Standing p c (c.updPump p fun q => { q with intent := .run }) := updPump_standing rfl rfl
  obtain ⟨m, is, stood, mode⟩ : ∃ m, c.intentRun p r = m.startRequest p r ∧ Standing p c m ∧ m.mode = c.mode := by
    refine ⟨_, rfl, .ite written (written.trans (demandAppears_standing r)), ?_⟩
    split
    · rfl
    · exact (Chip.demandAppears_water _ p r).mode
  rw [is]
  exact ⟨startRequest_joins (by rw [mode]; exact tripped) (by rw [stood.state]; exact waits) r,
    (startRequest_standing r).state.trans stood.state⟩

theorem pumpStart_waits (tripped : c.mode.mode ≠ .tripped) (named : set.getLsbD p.val = true)
    (waits : stateOf c p = .stopped ∨ stateOf c p = .resting) :
    (stateOf c p = .resting → Waits p (c.onPumps set fun p c => c.intentRun p .panel)) ∧
    (Waits p (c.onPumps set fun p c => c.intentRun p .panel) ∨
      ((c.onPumps set fun p c => c.intentRun p .panel).pumps[p]).lastGrant = some c.now) := by
  obtain ⟨x, before, stood, after, aside⟩ := onPumps_turn (f := fun p c => c.intentRun p .panel) (c := c)
    (fun q d => intentRun_moves (c := d) trivial _) (fun q d other => intentRun_aside d other _) named
  have state : stateOf x p = stateOf c p := stood.state
  obtain ⟨joins, same⟩ := intentRun_joins (c := x) (by rw [(waterMoves_water before).mode]; exact tripped) (by rw [state]; exact waits) .panel
  have now := (waterMoves_water before).now
  have turn := (Chip.intentRun_water x p .panel).now
  have later := (waterMoves_water after).now
  unfold Chip.onPumps
  generalize Chip.forEach (pumpsIn set) (fun p c => c.intentRun p .panel) c = d at after aside later
  have still : Waits p d := aside.joined.mpr joins
  have kept : stateOf d p = stateOf c p := aside.state.trans (same.trans state)
  refine ⟨fun resting => ?_, ?_⟩
  · exact (endEvent_aside (by rw [kept, resting]; nofun)).joined.mpr still
  · rw [← now, ← turn, ← later]
    exact endEvent_granted still

/-! ## PUMP_STOP -/

/-- None of the pump's jets has a demand. -/
def DryOn (p : PumpId) (c : Chip) : Prop := ∀ j : JetId, c.pumpOf j = p → (c.jets[j]).demand = 0

theorem dryOn_of_moves (dry : DryOn p c) (h : WaterMoves noJet anyPump true c d) : DryOn p d := fun j own => by
  rw [(orderOf_eq_iff.mp (waterMoves_order h not_false)).2.1]
  exact dry j ((waterMoves_water h).pumpOf j ▸ own)

theorem mem_jetsOf : j ∈ c.jetsOf p ↔ c.pumpOf j = p := by simp [Chip.jetsOf]

theorem hasRunDemand_dryOn (dry : DryOn p c) (stopped : (c.pumps[p]).intent = .stop) : c.hasRunDemand p = false := by
  have no_jet : ((c.jetsOf p).any fun j => (c.jets[j]).wants) = false := List.any_eq_false.mpr fun j mem => by
    rw [Jet.wants, dry j (mem_jetsOf.mp mem)]
    nofun
  have no_flush : c.flushUses p = false := List.any_eq_false.mpr fun j mem => by
    rw [Jet.wantsFlush, dry j (mem_jetsOf.mp mem)]
    nofun
  rw [Chip.hasRunDemand, no_jet, no_flush, stopped, Bool.and_false]
  rfl

/-- The part with the pump's intent STOP. -/
def intentStopped (c : Chip) (p : PumpId) : Chip := c.updPump p fun q => { q with intent := .stop }

theorem intentStopped_own (c : Chip) (p : PumpId) : (intentStopped c p).pumps[p] = { c.pumps[p] with intent := .stop } := updPump_own c p _

theorem intentStop_dryOn (dry : DryOn p c) : c.intentStop p = (intentStopped c p).stopRequest p :=
  if_neg (by
    have none : (intentStopped c p).hasRunDemand p = false :=
      hasRunDemand_dryOn (c := intentStopped c p) dry (by rw [intentStopped_own])
    rw [show (c.updPump p fun q => { q with intent := .stop }).hasRunDemand p = false from none]
    exact Bool.false_ne_true)

/-- What a stop request leaves of the pump, once the event has ended. -/
structure Stops (p : PumpId) (c d : Chip) : Prop where
  waiting : stateOf c p = .stopped ∨ stateOf c p = .resting → ¬Waits p d
  priming : stateOf c p = .priming → stateOf d p = .priming ∧ (d.pumps[p]).stopPending = true
  early   : stateOf c p = .running → c.now < (c.pumps[p]).runMinEnd → stateOf d p = .running ∧ (d.pumps[p]).stopPending = true
  late    : stateOf c p = .running → (c.pumps[p]).runMinEnd ≤ c.now → stateOf d p = if c.lines.drvOk[p] then .resting else .faulted

theorem dequeue_gone (c : Chip) (p : PumpId) : ¬Waits p (c.dequeue p) := by
  rintro ⟨x, waiting, of⟩
  have left : x ∈ (c.queue.filter fun e => decide (e.pump ≠ p)) ++ (c.joining.filter fun e => decide (e.pump ≠ p)) := waiting
  rw [← List.filter_append, List.mem_filter, decide_eq_true_eq] at left
  exact left.2 of

/-- The stop of a pump that is kept up still pends as the event ends. -/
theorem stopRequest_keeps_up (up : stateOf c p = .priming ∨ (stateOf c p = .running ∧ c.now < (c.pumps[p]).runMinEnd))
    (aside : Aside p (c.stopRequest p) d) : stateOf d.endEvent p = stateOf c p ∧ (d.endEvent.pumps[p]).stopPending = true := by
  have record : d.pumps[p] = { c.pumps[p] with idleExpiry := none, stopPending := true } := by
    rw [aside.record, stopRequest_pends up, updPump_own]
  have state : stateOf d p = stateOf c p := by rw [stateOf, record]; rfl
  have stood : Aside p d d.endEvent := endEvent_aside (by rw [state]; rcases up with is | ⟨is, -⟩ <;> rw [is] <;> nofun)
  exact ⟨stood.state.trans state, by rw [stood.record, record]⟩

/-- The pump has stood after its stop request. -/
theorem stopRequest_stops (aside : Aside p (c.stopRequest p) d) : Stops p c d.endEvent := by
  refine ⟨fun waits => ?_, fun priming => ?_, fun running early => ?_, fun running late => ?_⟩
  · rw [stopRequest_waiting waits] at aside
    have gone : ¬Waits p d := fun waiting => dequeue_gone _ p (aside.joined.mp waiting)
    exact fun waiting => gone ((endEvent_unwaiting gone).joined.mp waiting)
  · rw [← priming]
    exact stopRequest_keeps_up (.inl priming) aside
  · rw [← running]
    exact stopRequest_keeps_up (.inr ⟨running, early⟩) aside
  · have rests : stateOf (c.stopRequest p) p = if c.lines.drvOk[p] then .resting else .faulted := by
      rw [stopRequest_rests running late]
      exact (enterResting_leaves _ p).1
    have state := aside.state.trans rests
    exact (endEvent_aside (by rw [state]; split <;> nofun)).state.trans state

theorem pumpStop_stops (dry : DryOn p c) (named : set.getLsbD p.val = true) :
    Stops p c (c.onPumps set fun p c => c.intentStop p) := by
  obtain ⟨x, before, stood, -, aside⟩ := onPumps_turn (f := fun p c => c.intentStop p) (c := c)
    (fun q d => intentStop_moves (c := d) trivial) (fun q d other => intentStop_aside d other) named
  have water := waterMoves_water before
  rw [intentStop_dryOn (dryOn_of_moves dry before)] at aside
  have record := (intentStopped_own x p).trans (by rw [stood.record])
  have stops := stopRequest_stops aside
  have state : stateOf (intentStopped x p) p = stateOf c p := by rw [stateOf, record]; rfl
  have now : (intentStopped x p).now = c.now := water.now
  have lines : (intentStopped x p).lines = c.lines := water.lines
  unfold Chip.onPumps
  generalize Chip.forEach (pumpsIn set) (fun p c => c.intentStop p) c = d at stops
  obtain ⟨waiting, priming, early, late⟩ := stops
  rw [state, now, record] at early
  rw [state, lines, now, record] at late
  rw [state] at waiting priming
  exact ⟨waiting, priming, early, late⟩

/-! ## The requests on a set of pumps (R100) -/

theorem pumpSetValid_iff : pumpSetValid set = true ↔ set ≠ 0 ∧ set.toNat < 4096 := by simp [pumpSetValid]

theorem pumpSetValid_false (h : set = 0 ∨ 4096 ≤ set.toNat) : pumpSetValid set = false := by
  rw [Bool.eq_false_iff, ne_eq, pumpSetValid_iff]
  rintro ⟨named, low⟩
  rcases h with empty | high
  · exact named empty
  · exact absurd low (Nat.not_lt.mpr high)

/-- What the three requests leave: the water moved, the pumps told. -/
theorem onPumps_takes {rule : Rule} {f : PumpId → Chip → Chip} {after : Chip → Prop} (reacts : Reacts i s l kind rule)
    (ruled : rule s.chip = (s.chip.onPumps set f).taken) (moves : ∀ q d, WaterMoves noJet anyPump true d (f q d))
    (is_so : ∀ d, d.pumps = (s.chip.onPumps set f).pumps → d.queue = (s.chip.onPumps set f).queue → after d) :
    Takes i s l kind [] [.pumpFault] fun d => d = { s.chip with
      pumps := d.pumps, queue := d.queue, joining := d.joining, history := d.history, jets := d.jets
      circ := d.circ, links := d.links } ∧ after d := by
  have all := onPumps_moves (set := set) moves s.chip
  generalize s.chip.onPumps set f = d at ruled is_so all
  exact reacts.takes ruled (noticed_pumpFault (waterMoves_noted all)) ⟨reply_water (waterMoves_water all), is_so _ rfl rfl⟩

/-- The tests that PUMP_START, PUMP_STOP and PUMP_POLICY share. -/
theorem pumpRequests_refuse (s : State) (l : LinkId) (set : PumpSet) (policy : Nat) :
     (∀ (i : Instr) (kind : Nat), (i, kind) ∈ [(Instr.pumpStart l set, 23), (.pumpStop l set, 24),
         (.pumpPolicy l set policy, 25)] → s.chip.hears l kind →
       (s.chip.mode.mode = .dormant → Refuses i s l kind .state) ∧
       (s.chip.mode.mode ≠ .dormant → s.chip.mode.mode ≠ .manual → Refuses i s l kind .notOwner) ∧
       (s.chip.mode.mode = .manual → set = 0 ∨ 4096 ≤ set.toNat → Refuses i s l kind .badArg)) := by
  intro i kind mem heard
  have refused {valid : Bool} {act : Chip → Chip} (reacts : Reacts i s l kind (manualStages (true && pumpSetValid set && valid) act)) :
      (s.chip.mode.mode = .dormant → Refuses i s l kind .state) ∧
      (s.chip.mode.mode ≠ .dormant → s.chip.mode.mode ≠ .manual → Refuses i s l kind .notOwner) ∧
      (s.chip.mode.mode = .manual → set = 0 ∨ 4096 ≤ set.toNat → Refuses i s l kind .badArg) :=
    ⟨reacts.refuses_dormant, reacts.refuses_notOwner, fun manual bad =>
      reacts.refuses (manualStages_invalid manual (by rw [pumpSetValid_false bad]; rfl))⟩
  have plain {act : Chip → Chip} (reacts : Reacts i s l kind (manualStages (true && pumpSetValid set) act)) :=
    refused (valid := true) (act := act) (by rw [Bool.and_true]; exact reacts)
  simp only [List.mem_cons, Prod.mk.injEq, List.not_mem_nil, or_false] at mem
  obtain ⟨rfl, rfl⟩ | ⟨rfl, rfl⟩ | ⟨rfl, rfl⟩ := mem
  · exact plain (reacts_of_hears (rule := rulePumpStart set true) rfl rfl heard)
  · exact plain (reacts_of_hears (rule := rulePumpStop set true) rfl rfl heard)
  · exact refused (reacts_of_hears (rule := rulePumpPolicy set policy true) rfl rfl heard)

theorem pumpPolicy_refuses {policy : Nat} (heard : s.chip.hears l 25) (manual : s.chip.mode.mode = .manual) (beyond : 2 ≤ policy) :
    Refuses (.pumpPolicy l set policy) s l 25 .badArg := by
  have reacts : Reacts (.pumpPolicy l set policy) s l 25 (rulePumpPolicy set policy true) := reacts_of_hears rfl rfl heard
  have unknown : policyOf policy = none := by
    unfold policyOf
    split
    · omega
    · omega
    · rfl
  exact reacts.refuses (manualStages_invalid manual (by rw [unknown]; simp))

theorem pumpSet_valid (named : set ≠ 0) (low : set.toNat < 4096) : (true && pumpSetValid set) = true := pumpSetValid_iff.mpr ⟨named, low⟩

theorem pumpStart_takes (heard : s.chip.hears l 23) (manual : s.chip.mode.mode = .manual) (some_pump : set ≠ 0) (low : set.toNat < 4096) :
    Takes (.pumpStart l set) s l 23 [] [.pumpFault] fun d =>
      d = { s.chip with
        pumps := d.pumps, queue := d.queue, joining := d.joining, history := d.history, jets := d.jets
        circ := d.circ, links := d.links } ∧
      ∀ p : PumpId, (d.pumps[p]).policy = (s.chip.pumps[p]).policy ∧
        (d.pumps[p]).intent = (if set.getLsbD p.val = true then .run else (s.chip.pumps[p]).intent) ∧
        (set.getLsbD p.val = true → (s.chip.pumps[p]).state = .resting → ∃ e ∈ d.queue, e.pump = p) ∧
        (set.getLsbD p.val = true → (s.chip.pumps[p]).state = .stopped →
          (∃ e ∈ d.queue, e.pump = p) ∨ (d.pumps[p]).lastGrant = some s.chip.now) := by
  refine onPumps_takes (reacts_of_hears (rule := rulePumpStart set true) rfl rfl heard)
    (manualStages_act manual (pumpSet_valid some_pump low)) (fun q d => intentRun_moves (c := d) trivial _) fun d pumps queue p => ?_
  have told := onPumps_drive (set := set) (f := fun p c => c.intentRun p .panel) (fun x => (.run, x.2)) (fun _ => rfl)
    (fun p c q => intentRun_drive c p q .panel) s.chip p
  have tripped : s.chip.mode.mode ≠ .tripped := by rw [manual]; nofun
  rw [pumps, queue]
  refine ⟨?_, ?_, fun named resting => ?_, fun named stopped => ?_⟩
  · have policy := congrArg Prod.snd told
    split at policy <;> exact policy
  · exact (congrArg Prod.fst told).trans (apply_ite Prod.fst _ _ _)
  · exact waits_endEvent.mp ((pumpStart_waits tripped named (.inr resting)).1 resting)
  · exact (pumpStart_waits tripped named (.inl stopped)).2.imp_left waits_endEvent.mp

theorem pumpStop_takes (heard : s.chip.hears l 24) (manual : s.chip.mode.mode = .manual) (some_pump : set ≠ 0) (low : set.toNat < 4096) :
    Takes (.pumpStop l set) s l 24 [] [.pumpFault] fun d =>
      d = { s.chip with
        pumps := d.pumps, queue := d.queue, joining := d.joining, history := d.history, jets := d.jets
        circ := d.circ, links := d.links } ∧
      ∀ p : PumpId, (d.pumps[p]).policy = (s.chip.pumps[p]).policy ∧
        (d.pumps[p]).intent = (if set.getLsbD p.val = true then .stop else (s.chip.pumps[p]).intent) ∧
        (set.getLsbD p.val = true → (∀ j : JetId, s.chip.pumpOf j = p → (s.chip.jets[j]).demand = 0) →
          ((s.chip.pumps[p]).state = .stopped ∨ (s.chip.pumps[p]).state = .resting →
            ∀ e ∈ d.queue, e.pump ≠ p) ∧
          ((s.chip.pumps[p]).state = .priming → (d.pumps[p]).state = .priming ∧ (d.pumps[p]).stopPending = true) ∧
          ((s.chip.pumps[p]).state = .running → s.chip.now < (s.chip.pumps[p]).runMinEnd →
            (d.pumps[p]).state = .running ∧ (d.pumps[p]).stopPending = true) ∧
          ((s.chip.pumps[p]).state = .running → (s.chip.pumps[p]).runMinEnd ≤ s.chip.now →
            (d.pumps[p]).state = if s.chip.lines.drvOk[p] then .resting else .faulted)) := by
  refine onPumps_takes (reacts_of_hears (rule := rulePumpStop set true) rfl rfl heard)
    (manualStages_act manual (pumpSet_valid some_pump low)) (fun q d => intentStop_moves (c := d) trivial) fun d pumps queue p => ?_
  have told := onPumps_drive (set := set) (f := fun p c => c.intentStop p) (fun x => (.stop, x.2)) (fun _ => rfl)
    (fun p c q => intentStop_drive c p q) s.chip p
  rw [pumps, queue]
  refine ⟨?_, ?_, fun named dry => ?_⟩
  · have policy := congrArg Prod.snd told
    split at policy <;> exact policy
  · exact (congrArg Prod.fst told).trans (apply_ite Prod.fst _ _ _)
  · obtain ⟨waiting, priming, early, late⟩ := pumpStop_stops dry named
    exact ⟨fun waits e mem of => waiting waits (waits_endEvent.mpr ⟨e, mem, of⟩), priming, early, late⟩

theorem pumpPolicy_takes {policy : Nat} (heard : s.chip.hears l 25) (manual : s.chip.mode.mode = .manual) (some_pump : set ≠ 0)
    (low : set.toNat < 4096) (known : policy < 2) :
    Takes (.pumpPolicy l set policy) s l 25 [] [.pumpFault] fun d =>
      d = { s.chip with
        pumps := d.pumps, queue := d.queue, joining := d.joining, history := d.history, jets := d.jets
        circ := d.circ, links := d.links } ∧
      ∀ p : PumpId, (d.pumps[p]).intent = (s.chip.pumps[p]).intent ∧
        (d.pumps[p]).policy =
          (if set.getLsbD p.val = true then (if policy = 0 then .follow else .explicit)
          else (s.chip.pumps[p]).policy) := by
  have is : policyOf policy = some (if policy = 0 then .follow else .explicit) := by
    obtain rfl | rfl : policy = 0 ∨ policy = 1 := by omega
    · rfl
    · rfl
  generalize (if policy = 0 then Policy.follow else .explicit) = named at is ⊢
  refine onPumps_takes (set := set) (f := fun p c => c.setPolicy p named) (reacts_of_hears (rule := rulePumpPolicy set policy true) rfl rfl heard) ?_
    (fun q d => setPolicy_moves (c := d) trivial _) fun d pumps _ p => ?_
  · rw [rulePumpPolicy, manualStages_act manual (by rw [pumpSet_valid some_pump low, is]; rfl), is]
  · have told := onPumps_drive (set := set) (f := fun p c => c.setPolicy p named) (fun x => (x.1, named)) (fun _ => rfl)
      (fun p c q => setPolicy_drive c p q named) s.chip p
    rw [pumps]
    constructor
    · have intent := congrArg Prod.fst told
      split at intent <;> exact intent
    · exact (congrArg Prod.snd told).trans (apply_ite Prod.snd _ _ _)

/-! ## Jets of another pump -/

/-- Entry into a state settles the pump's jets against it. -/
theorem enterState_jet_settles (c : Chip) (q : PumpId) (st : PumpState) (fault : Option PumpFault) (j : JetId) :
    (c.enterState q st fault).jets[j] =
      if c.pumpOf j = q then (c.updPump q fun _ => entered c q st fault).settleJet q c.jets[j] else c.jets[j] := by
  have own : (c.updPump q fun _ => entered c q st fault).jets[j] = c.jets[j] := rfl
  have feeds : (c.updPump q fun _ => entered c q st fault).pumpOf j = c.pumpOf j := rfl
  show ((c.updPump q fun _ => entered c q st fault).followPump q).jets[j] = _
  rw [followPump_jet, own, feeds]

theorem enterState_jet_other (c : Chip) (q : PumpId) (st : PumpState) (fault : Option PumpFault) (other : c.pumpOf j ≠ q) :
    (c.enterState q st fault).jets[j] = c.jets[j] := by
  rw [enterState_jet_settles, if_neg other]

theorem watchDrive_jet_other (c : Chip) (q : PumpId) (other : c.pumpOf j ≠ q) : (c.watchDrive q).jets[j] = c.jets[j] := by
  have faulted : (c.enterFaulted q .drive).jets[j] = c.jets[j] := by
    have feeds : (c.dequeue q).pumpOf j ≠ q := other
    have own : (c.dequeue q).jets[j] = c.jets[j] := rfl
    rw [Chip.enterFaulted, Chip.notify_jets, enterState_jet_other _ _ _ _ feeds, own]
  unfold Chip.watchDrive
  split
  iterate 4
    split
    · rfl
    · exact faulted
  all_goals rfl

theorem countStarted_jets (c : Chip) (x : StartEntry) : (c.countStarted x).jets = c.jets := by
  unfold Chip.countStarted
  split <;> rfl

theorem granted_jet_other (c : Chip) (x : StartEntry) (other : c.pumpOf j ≠ x.pump) : (granted c x).jets[j] = c.jets[j] := by
  have feeds : Chip.pumpOf { c.dequeue x.pump with history := lastEight (c.history ++ [c.now]) } j ≠ x.pump := other
  have own : (Chip.jets { c.dequeue x.pump with history := lastEight (c.history ++ [c.now]) })[j] = c.jets[j] := rfl
  rw [granted, Chip.updPump_jets, enterState_jet_other _ _ _ _ feeds, own]

theorem grant_jet_other (c : Chip) (x : StartEntry) (other : c.pumpOf j ≠ x.pump) : (c.grant x).jets[j] = c.jets[j] := by
  have water := (granted_water c x).trans (Chip.countStarted_water _ x)
  rw [grant_eq, watchDrive_jet_other _ _ (by rw [water.pumpOf]; exact other), countStarted_jets, granted_jet_other c x other]

/-- The jets of a pump that is not STOPPED stand as the event ends. -/
theorem endEvent_jet (own : c.pumpOf j = p) (other : stateOf c p ≠ .stopped) : c.endEvent.jets[j] = c.jets[j] := by
  refine (testQueue_keeps (P := fun d => stateOf d p ≠ .stopped ∧ d.pumpOf j = p ∧ d.jets[j] = c.jets[j]) (c := collected c)
    (fun d x grantable ⟨state, feeds, same⟩ => ?_) ⟨other, own, rfl⟩).2.2
  have aside : p ≠ x.pump := fun e => state (by rw [e]; exact eligible_stopped grantable)
  exact ⟨by rw [(grant_aside d x aside).state]; exact state, by rw [(Chip.grant_water d x).pumpOf, feeds],
    (grant_jet_other d x (by rw [feeds]; exact aside)).trans same⟩

/-! ## CLEAR_PUMP (R98) -/

/-- The pump rests. -/
theorem enterResting_high (high : c.lines.drvOk[p] = true) : c.enterResting p =
    (c.enterState p .resting none).updPump p fun r => { r with restEnd := c.now + (c.limits.pumps[p]).rest * 1000 } :=
  watchDrive_high ((congrArg (fun x : Lines => x.drvOk[p]) ((Chip.enterState_water c p _ _).trans (Chip.updPump_water _ p _)).lines).trans high)

/-- What entry into RESTING leaves of a pump whose drive is healthy. -/
structure Cleared (p : PumpId) (c d : Chip) : Prop where
  record : d.pumps[p] = rested c p
  queue  : d.queue = c.queue
  joining : d.joining = c.joining
  jet    : ∀ j : JetId, c.pumpOf j = p → (c.jets[j]).state ≠ .closed → (d.jets[j]).state = .waiting ∧
    (d.jets[j]).waitCause = some (if c.mode.power = .on then .pumpStarting else .noPower)

theorem enterResting_clears (high : c.lines.drvOk[p] = true) : Cleared p c (c.enterResting p) := by
  refine ⟨?_, ?_, ?_, fun j own flows => ?_⟩
  · rw [enterResting_own, driven, if_pos high]
  · rw [enterResting_high high, Chip.updPump_queue]
    simp [Chip.enterState]
  · rw [enterResting_high high, Chip.updPump_joining]
    simp [Chip.enterState]
  · have rests : ((c.updPump p fun _ => entered c p .resting none).pumps[p]).state = .resting := by rw [updPump_own]; rfl
    have mode : (c.updPump p fun _ => entered c p .resting none).mode = c.mode := rfl
    rw [enterResting_high high, Chip.updPump_jets, enterState_jet_settles, if_pos own]
    generalize c.updPump p (fun _ => entered c p .resting none) = d at rests mode
    rw [Chip.settleJet, if_neg flows, rests, if_neg nofun]
    refine ⟨rfl, ?_⟩
    show some (d.waitCauseOn p) = _
    rw [Chip.waitCauseOn, rests, if_neg nofun, if_neg nofun, mode]
    by_cases on : c.mode.power = .on
    · rw [if_neg (not_not_intro on), if_pos on]
    · rw [if_pos on, if_neg on]

theorem flushUses_iff : c.flushUses p = true ↔ ∃ j : JetId, c.pumpOf j = p ∧ 0 < (c.jets[j]).demand ∧ (c.jets[j]).owner = .flush := by
  simp [Chip.flushUses, Chip.jetsOf, Jet.wantsFlush]

theorem hasRunDemand_iff : c.hasRunDemand p = true ↔ (c.pumps[p]).intent = .run ∨
    ((c.pumps[p]).policy = .follow ∧ ∃ j : JetId, c.pumpOf j = p ∧ 0 < (c.jets[j]).demand ∧ (c.jets[j]).owner ≠ .none) ∨
    c.flushUses p = true := by
  simp [Chip.hasRunDemand, Chip.jetsOf, Jet.wants, or_assoc]

/-- The part told the same, with the same jets fed: run demand and the requester stand (R82, R83). -/
structure ToldSame (p : PumpId) (c d : Chip) : Prop where
  drive : driveOf d p = driveOf c p
  order : ∀ j, orderOf d j = orderOf c j
  feeds : ∀ j, d.pumpOf j = c.pumpOf j
  mode  : d.mode = c.mode

theorem flushUses_told (h : ToldSame p c d) : d.flushUses p = c.flushUses p := by
  refine Bool.eq_iff_iff.mpr (flushUses_iff.trans ((exists_congr fun j => ?_).trans flushUses_iff.symm))
  obtain ⟨owner, demand, -⟩ := orderOf_eq_iff.mp (h.order j)
  rw [h.feeds, owner, demand]

theorem hasRunDemand_told (h : ToldSame p c d) : d.hasRunDemand p = c.hasRunDemand p := by
  have jets : (∃ j : JetId, d.pumpOf j = p ∧ 0 < (d.jets[j]).demand ∧ (d.jets[j]).owner ≠ .none) ↔
      ∃ j : JetId, c.pumpOf j = p ∧ 0 < (c.jets[j]).demand ∧ (c.jets[j]).owner ≠ .none := exists_congr fun j => by
    obtain ⟨owner, demand, -⟩ := orderOf_eq_iff.mp (h.order j)
    rw [h.feeds, owner, demand]
  obtain ⟨intent, policy⟩ := driveOf_iff.mp h.drive
  refine Bool.eq_iff_iff.mpr (hasRunDemand_iff.trans (Iff.trans ?_ hasRunDemand_iff.symm))
  rw [jets, flushUses_told h, intent, policy]

theorem ownRequester_told (h : ToldSame p c d) : d.ownRequester p = c.ownRequester p := by
  have intent : (d.pumps[p]).intent = (c.pumps[p]).intent := congrArg Prod.fst h.drive
  rw [Chip.ownRequester, Chip.ownRequester, flushUses_told h, intent, h.mode]

/-- The cleared pump's start requested, where run demand stands. -/
def restarted (c : Chip) (p : PumpId) : Chip :=
  if c.hasRunDemand p then c.startRequest p (c.ownRequester p) else c

theorem clearPump_is (c : Chip) (p : PumpId) : c.clearPump p = (restarted (c.enterResting p) p).endEvent := rfl

/-- What CLEAR_PUMP leaves. -/
structure Clears (p : PumpId) (c d : Chip) : Prop where
  water  : WaterMoves noJet noPump true c d
  record : d.pumps[p] = rested c p
  joins  : c.hasRunDemand p = true → c.mode.mode ≠ .tripped → Waits p d ∧ (¬Waits p c → Waiting d ⟨p, c.ownRequester p, c.now⟩)
  stays  : c.hasRunDemand p = false → ¬Waits p c → ¬Waits p d
  jet    : ∀ j : JetId, c.pumpOf j = p → (c.jets[j]).state ≠ .closed → (d.jets[j]).state = .waiting ∧
    (d.jets[j]).waitCause = some (if c.mode.power = .on then .pumpStarting else .noPower)

theorem startRequest_jets (c : Chip) (p : PumpId) (r : Requester) : (c.startRequest p r).jets = c.jets := by
  have joins : (if c.queued p then c else { c with joining := insertEntry ⟨p, r, c.now⟩ c.joining }).jets = c.jets := by
    split <;> rfl
  unfold Chip.startRequest
  split
  · rfl
  · split
    exacts [joins, joins, rfl, rfl, rfl, rfl]

theorem restarted_same (c : Chip) (p : PumpId) : (restarted c p).pumps = c.pumps ∧ (restarted c p).jets = c.jets := by
  unfold restarted
  split
  · exact ⟨startRequest_pumps c p _, startRequest_jets c p _⟩
  · exact ⟨rfl, rfl⟩

theorem restarted_moves (c : Chip) (p : PumpId) : WaterMoves noJet noPump true c (restarted c p) :=
  .ite (startRequest_moves c p _) (.refl c)

/-- The request of a pump that has no entry is its entry. -/
theorem startRequest_entry (tripped : c.mode.mode ≠ .tripped) (rests : stateOf c p = .resting) (gone : ¬Waits p c) (r : Requester) :
    Waiting (c.startRequest p r) ⟨p, r, c.now⟩ := by
  rw [startRequest_waits tripped (.inr rests), if_neg fun queued => gone (waits_iff_queued.mpr queued)]
  simp [Waiting, (insertEntry_perm _ _).mem_iff]

theorem clearPump_clears (high : c.lines.drvOk[p] = true) : Clears p c (c.clearPump p) := by
  have cleared := enterResting_clears high
  have moves : WaterMoves noJet noPump true c (c.enterResting p) := enterResting_moves c p
  rw [clearPump_is]
  generalize c.enterResting p = r at cleared moves
  have water := waterMoves_water moves
  have told : ToldSame p c r := ⟨waterMoves_drive moves not_false, fun j => waterMoves_order moves not_false, water.pumpOf, water.mode⟩
  have rests : stateOf r p = .resting := by rw [stateOf, cleared.record]; rfl
  have waits : Waits p r ↔ Waits p c := by
    unfold Waits Waiting
    rw [cleared.queue, cleared.joining]
  obtain ⟨pumps, jets⟩ := restarted_same r p
  have request := restarted_moves r p
  have joins (demand : c.hasRunDemand p = true) : restarted r p = r.startRequest p (c.ownRequester p) := by
    rw [restarted, hasRunDemand_told told, if_pos demand, ownRequester_told told]
  have stays (demand : c.hasRunDemand p = false) : restarted r p = r := by
    rw [restarted, hasRunDemand_told told, if_neg (by rw [demand]; exact Bool.false_ne_true)]
  generalize restarted r p = e at pumps jets request joins stays
  have resting : stateOf e p = .resting := by rw [stateOf, pumps]; exact rests
  have aside : Aside p e e.endEvent := endEvent_aside (by rw [resting]; nofun)
  refine ⟨moves.trans (request.trans (endEvent_moves (.refl e))), by rw [aside.record, pumps, cleared.record],
    fun demand tripped => ?_, fun demand gone => ?_, fun j own flows => ?_⟩
  · have awake : r.mode.mode ≠ .tripped := by rw [water.mode]; exact tripped
    have is := joins demand
    refine ⟨aside.joined.mpr ?_, fun gone => (aside.entries _ rfl).mpr ?_⟩
    · rw [is]
      exact startRequest_joins awake (.inr rests) _
    · rw [is, ← water.now]
      exact startRequest_entry awake rests (fun waiting => gone (waits.mp waiting)) _
  · exact fun waiting => gone (waits.mp (stays demand ▸ aside.joined.mp waiting))
  · have feeds : e.pumpOf j = p := by rw [(waterMoves_water request).pumpOf, water.pumpOf, own]
    rw [endEvent_jet feeds (by rw [resting]; nofun), jets]
    exact cleared.jet j own flows

theorem ruleClearPump_of (p : PumpId) : ruleClearPump p true c =
    if (c.pumps[p]).state ≠ .faulted then c.refuse .state
    else if !c.lines.drvOk[p] then c.refuse .state
    else (c.clearPump p).taken := dif_pos ⟨p.isLt, rfl⟩

/-- Run demand by what CLEAR_PUMP's statement names of it (R82). -/
theorem runDemand_of_flags {byJet byFlush : Bool}
    (jet : byJet = true ↔ ∃ j : JetId, c.pumpOf j = p ∧ 0 < (c.jets[j]).demand ∧ (c.jets[j]).owner ≠ .none)
    (flush : byFlush = true ↔ ∃ j : JetId, c.pumpOf j = p ∧ 0 < (c.jets[j]).demand ∧ (c.jets[j]).owner = .flush) :
    c.flushUses p = byFlush ∧ (c.hasRunDemand p = true ↔
      (c.pumps[p]).intent = .run ∨ ((c.pumps[p]).policy = .follow ∧ byJet = true) ∨ byFlush = true) := by
  have uses : c.flushUses p = byFlush := Bool.eq_iff_iff.mpr (flushUses_iff.trans flush.symm)
  exact ⟨uses, by rw [hasRunDemand_iff, ← jet, uses]⟩

theorem clearPump_takes (heard : s.chip.hears l 26) (faulted : (s.chip.pumps[p]).state = .faulted)
    (high : s.chip.lines.drvOk[p] = true) :
    Takes (.clearPump l p) s l 26 [] [.pumpFault] fun d =>
      d = { s.chip with
        pumps := d.pumps, queue := d.queue, joining := d.joining, history := d.history, jets := d.jets
        circ := d.circ, links := d.links } ∧
      (d.pumps[p]).state = .resting ∧ (d.pumps[p]).faultCause = none ∧ (d.pumps[p]).setpoint = 0 ∧
      (d.pumps[p]).restEnd = s.chip.now + (s.chip.limits.pumps[p]).rest * 1000 ∧
      (d.pumps[p]).intent = (s.chip.pumps[p]).intent ∧ (d.pumps[p]).policy = (s.chip.pumps[p]).policy ∧
      (∀ byJet byFlush : Bool,
        (byJet = true ↔ ∃ j : JetId, s.chip.pumpOf j = p ∧ 0 < (s.chip.jets[j]).demand ∧
          (s.chip.jets[j]).owner ≠ .none) →
        (byFlush = true ↔ ∃ j : JetId, s.chip.pumpOf j = p ∧ 0 < (s.chip.jets[j]).demand ∧
          (s.chip.jets[j]).owner = .flush) →
        ((s.chip.pumps[p]).intent = .run ∨ ((s.chip.pumps[p]).policy = .follow ∧ byJet = true) ∨ byFlush = true →
          s.chip.mode.mode ≠ .tripped →
          (∃ e ∈ d.queue, e.pump = p) ∧
          ((∀ e ∈ s.chip.queue ++ s.chip.joining, e.pump ≠ p) →
            ∃ e ∈ d.queue, e = ⟨p, if byFlush = true then .flush
              else if (s.chip.pumps[p]).intent = .run then
                (if s.chip.mode.mode = .showMode then .showRun else .panel)
              else .follow, s.chip.now⟩)) ∧
        ((s.chip.pumps[p]).intent = .stop → (s.chip.pumps[p]).policy = .explicit ∨ byJet = false → byFlush = false →
          (∀ e ∈ s.chip.queue ++ s.chip.joining, e.pump ≠ p) → ∀ e ∈ d.queue, e.pump ≠ p)) ∧
      (∀ j : JetId, (d.jets[j]).owner = (s.chip.jets[j]).owner ∧ (d.jets[j]).demand = (s.chip.jets[j]).demand ∧
        (s.chip.pumpOf j = p → (s.chip.jets[j]).state ≠ .closed →
          (d.jets[j]).state = .waiting ∧
          (d.jets[j]).waitCause = some (if s.chip.mode.power = .on then .pumpStarting else .noPower))) := by
  have reacts : Reacts (.clearPump l p) s l 26 (ruleClearPump p true) := reacts_of_hears rfl rfl heard
  have ruled : ruleClearPump p true s.chip = (s.chip.clearPump p).taken := by
    rw [ruleClearPump_of, if_neg (not_not_intro faulted), high]
    rfl
  obtain ⟨moves, record, joins, stays, jet⟩ := clearPump_clears high
  have queued : Waits p (s.chip.clearPump p) ↔ ∃ e ∈ (s.chip.clearPump p).queue, e.pump = p := waits_endEvent
  have entry (x : StartEntry) : Waiting (s.chip.clearPump p) x ↔ x ∈ (s.chip.clearPump p).queue := endEvent_waiting _
  generalize s.chip.clearPump p = d at ruled moves record joins stays jet queued entry
  have absent (gone : ∀ e ∈ s.chip.queue ++ s.chip.joining, e.pump ≠ p) : ¬Waits p s.chip := fun ⟨e, mem, of⟩ => gone e mem of
  have own : (d.reply l 26 .ok .none).pumps[p] = rested s.chip p := record
  refine reacts.takes ruled (noticed_pumpFault (waterMoves_noted moves)) ⟨reply_water (waterMoves_water moves),
    by rw [own]; rfl, by rw [own]; rfl, by rw [own]; rfl, by rw [own]; rfl, by rw [own]; rfl, by rw [own]; rfl,
    fun byJet byFlush jets flush => ⟨fun demand tripped => ?_, fun stopped unfollowed unflushed gone e mem of => ?_⟩, fun j => ?_⟩
  · obtain ⟨uses, demand_iff⟩ := runDemand_of_flags jets flush
    obtain ⟨waits, own_entry⟩ := joins (demand_iff.mpr demand) tripped
    refine ⟨queued.mp waits, fun gone => ⟨_, (entry _).mp (own_entry (absent gone)), ?_⟩⟩
    rw [Chip.ownRequester, uses]
  · obtain ⟨-, demand_iff⟩ := runDemand_of_flags jets flush
    have none : s.chip.hasRunDemand p = false := by
      rw [Bool.eq_false_iff, ne_eq, demand_iff, stopped, unflushed]
      rintro (run | ⟨follow, wants⟩ | flushes)
      · cases run
      · rcases unfollowed with explicit | unwanted
        · cases follow.symm.trans explicit
        · cases wants.symm.trans unwanted
      · cases flushes
    exact stays none (absent gone) (queued.mpr ⟨e, mem, of⟩)
  · obtain ⟨owner, demand, -⟩ := orderOf_eq_iff.mp (waterMoves_order (j := j) moves not_false)
    exact ⟨owner, demand, jet j⟩

/-- Settles O33: the shared tests, the three requests on a set of pumps, and CLEAR_PUMP. -/
theorem manualPumpRequests : Obligations.ManualPumpRequests := by
  refine ⟨fun s l set policy => ⟨pumpRequests_refuse s l set policy, pumpPolicy_refuses, fun manual some_pump low =>
    ⟨fun heard => pumpStart_takes heard manual some_pump low, fun heard => pumpStop_takes heard manual some_pump low,
      fun heard known => pumpPolicy_takes heard manual some_pump low known⟩⟩, fun s l heard => ⟨fun n beyond => ?_, fun p =>
    ⟨fun other => ?_, fun faulted low => ?_, fun faulted high => clearPump_takes heard faulted high⟩⟩⟩
  · have reacts : Reacts (.clearPump l n) s l 26 (ruleClearPump n true) := reacts_of_hears rfl rfl heard
    exact reacts.refuses (dif_neg fun ⟨within, _⟩ => absurd within (Nat.not_lt.mpr beyond))
  · have reacts : Reacts (.clearPump l p) s l 26 (ruleClearPump p true) := reacts_of_hears rfl rfl heard
    exact reacts.refuses (by rw [ruleClearPump_of, if_pos other])
  · have reacts : Reacts (.clearPump l p) s l 26 (ruleClearPump p true) := reacts_of_hears rfl rfl heard
    refine reacts.refuses ?_
    rw [ruleClearPump_of, if_neg (not_not_intro faulted), low]
    rfl

end Sys2Proof.Proofs.ManualPumps


/-! PROOF. The zone pointer, the debt and the flushes (O47). -/

namespace Sys2Proof.Proofs.Circulating

open Sys2Proof Sys2Proof.Machine Sys2Proof.Proofs.StepEffects Sys2Proof.Proofs.Water Sys2Proof.Proofs.Orders Sys2Proof.Proofs.Trips
open Sys2Proof.Proofs.Tripped Sys2Proof.Proofs.Settling Sys2Proof.Proofs.Flushing Sys2Proof.Proofs.Links Sys2Proof.Proofs.WaterSteps

variable {s : State} {c d e before : Chip} {j : JetId} {y z start : ZoneId} {f : Flush}

/-! ## The flushable zones (R122) -/

/-- The first member of a list of all eight that passes. -/
theorem find_first {p : Fin 8 → Bool} {n : Fin 8} (passes : p n = true) (before : ∀ m, m < n → p m = false) :
    (List.finRange 8).find? p = some n := by
  rw [List.find?_eq_some_iff_append]
  obtain ⟨ahead, behind, split⟩ := List.append_of_mem (List.mem_finRange n)
  have sorted : (ahead ++ n :: behind).Pairwise (· < ·) := split ▸ List.pairwise_lt_finRange 8
  refine ⟨passes, ahead, behind, split, fun m mem => ?_⟩
  rw [before m ((List.pairwise_append.mp sorted).2.2 m mem n List.mem_cons_self)]
  rfl

theorem find_flushable (first : c.firstFlushable start z) : (zonesFrom start).find? c.flushable = some z := by
  obtain ⟨n, rfl, flushable, before⟩ := first
  rw [zonesFrom, List.find?_map, find_first (p := c.flushable ∘ fun k => start + k) (n := n) flushable before]
  rfl

theorem find_unflushable (none_flushable : ∀ y : ZoneId, c.flushable y = false) : (zonesFrom start).find? c.flushable = none :=
  List.find?_eq_none.mpr fun y _ => by rw [none_flushable y]; exact Bool.false_ne_true

/-- In the cyclic order every zone is met. -/
theorem mem_zonesFrom (start y : ZoneId) : y ∈ zonesFrom start :=
  List.mem_map.mpr ⟨y - start, List.mem_finRange _, by simp⟩

theorem exists_find (flushable : c.flushable y = true) (start : ZoneId) : ∃ z, (zonesFrom start).find? c.flushable = some z := by
  cases found : (zonesFrom start).find? c.flushable with
  | some z => exact ⟨z, rfl⟩
  | none => exact absurd flushable (List.find?_eq_none.mp found y (mem_zonesFrom start y))

theorem zoneAfter_first (first : c.firstFlushable (z + 1) y) : c.zoneAfter z = y := by
  rw [Chip.zoneAfter, find_flushable first]
  rfl

theorem zoneAfter_none (none_flushable : ∀ y : ZoneId, c.flushable y = false) : c.zoneAfter z = z + 1 := by
  rw [Chip.zoneAfter, find_unflushable none_flushable]
  rfl

theorem firstFlushable_self (flushable : c.flushable z = true) : c.firstFlushable z z :=
  ⟨0, by simp, flushable, fun m below => absurd below (Fin.not_lt_zero m)⟩

theorem nextZone_is (next : c.nextZone z = some y) :
    z < y ∧ c.flushable y = true ∧ ∀ x : ZoneId, z < x → x < y → c.flushable x = false := by
  obtain ⟨passes, ahead, behind, split, skipped⟩ := List.find?_eq_some_iff_append.mp next
  rw [Bool.and_eq_true, decide_eq_true_eq] at passes
  refine ⟨passes.1, passes.2, fun x above below => ?_⟩
  have sorted : (ahead ++ y :: behind).Pairwise (· < ·) := split ▸ List.pairwise_lt_finRange 8
  have mem : x ∈ ahead ++ y :: behind := split ▸ List.mem_finRange x
  have skips : x ∈ ahead := by
    rcases List.mem_append.mp mem with earlier | later
    · exact earlier
    · rcases List.mem_cons.mp later with same | later
      · exact absurd below (same ▸ lt_irrefl _)
      · exact absurd ((List.pairwise_cons.mp (List.pairwise_append.mp sorted).2.1).1 x later) (lt_asymm below)
  have not_passed := skipped x skips
  simpa [above] using not_passed

theorem flushable_iff : c.flushable z = true ↔ c.circ.mask.getLsbD z.val = false ∧ ∃ j : JetId, (c.limits.jets[j]).zone = z := by
  have fed : (c.zoneJets z).isEmpty = false ↔ ∃ j : JetId, (c.limits.jets[j]).zone = z := by
    rw [List.isEmpty_eq_false_iff_exists_mem]
    exact exists_congr fun j => mem_zoneJets
  rw [Chip.flushable, Bool.and_eq_true, Bool.not_eq_true', Bool.not_eq_true', fed]
  rfl

theorem flushable_of (mask : d.circ.mask = c.circ.mask) (limits : d.limits = c.limits) (z : ZoneId) : d.flushable z = c.flushable z := by
  rw [Bool.eq_iff_iff, flushable_iff, flushable_iff, mask, limits]

theorem firstFlushable_of (mask : d.circ.mask = c.circ.mask) (limits : d.limits = c.limits) (first : c.firstFlushable start z) :
    d.firstFlushable start z := by
  obtain ⟨n, is, flushable, before⟩ := first
  exact ⟨n, is, (flushable_of mask limits z).trans flushable, fun m below => (flushable_of mask limits _).trans (before m below)⟩

/-! ## A single flush begins (R123) -/

theorem flushDue_of (none_runs : c.circ.flush = none) (debt : 0 < c.circ.debt) (may : c.mayFlush) (flushable : c.flushable z = true) :
    c.flushDue = true := flushDue_iff.mpr ⟨debt, none_runs, may, z, flushable⟩

/-- The pointer on the zone where the flush begins. -/
def pointed (c : Chip) (z : ZoneId) : Chip := { c with circ := { c.circ with pointer := z } }

theorem testFlush_begins (due : c.flushDue = true) (found : (zonesFrom c.circ.pointer).find? c.flushable = some z) :
    c.testFlush = (pointed c z).beginFlush .single z := by
  unfold Chip.testFlush
  rw [if_pos due, found]
  rfl

/-- What a single flush that begins leaves. -/
structure Flushes (z : ZoneId) (c d : Chip) : Prop where
  single : d.singleBegun z
  now    : d.now = c.now
  limits : d.limits = c.limits
  debt   : d.circ.debt = c.circ.debt
  raised : c.mode.mode = .dormant → c.mode.power = .off → d.mode.power = .settling
  shut   : ∀ j : JetId, (c.limits.jets[j]).zone ≠ z → StaysShut j c d

theorem recaused_shut (c : Chip) (m : ModeRecord) (j : JetId) : StaysShut j c (Chip.recauseJets { c with mode := m }) := fun shut => by
  have jet : (Chip.recauseJets { c with mode := m }).jets[j] = FountainMoves.recaused { c with mode := m } j := Vector.getElem_ofFn _
  rw [jet, FountainMoves.recaused]
  exact if_neg (by rw [show (_ : JetState) = .closed from shut]; nofun)

theorem raisePower_shut (c : Chip) (j : JetId) : StaysShut j c c.raisePower := by
  unfold Chip.raisePower
  split
  · exact recaused_shut c _ j
  · exact fun _ => rfl

theorem flushTold_shut (c : Chip) (j : JetId) : StaysShut j c (flushTold c) := by
  have told : StaysShut j c { c with mode := { c.mode with flushRunning := true } } := fun _ => rfl
  unfold flushTold
  dsimp only
  split
  · exact told.trans (raisePower_shut _ j)
  · exact told

theorem beginFlush_shut (c : Chip) (z : ZoneId) (other : (c.limits.jets[j]).zone ≠ z) :
    StaysShut j c ((pointed c z).beginFlush .single z) := by
  have moves := flushWritten_moves (b := true) (pointed c z) .single z
  have closed := waterMoves_closed (j := j) moves other
  have written : StaysShut j (pointed c z) (flushWritten (pointed c z) .single z) := fun shut => closed shut
  rw [beginFlush_eq]
  exact written.trans (flushTold_shut _ j)

theorem beginFlush_flushes (c : Chip) (z : ZoneId) : Flushes z c ((pointed c z).beginFlush .single z) := by
  have calm := beginFlush_calm (pointed c z) .single z
  obtain ⟨⟨f, circ, record⟩, mode, raised, order⟩ := beginFlush_begun (pointed c z) .single z
  have shut (j : JetId) := beginFlush_shut (j := j) c z
  generalize (pointed c z).beginFlush .single z = d at calm circ record mode raised order shut
  have limits : d.limits = c.limits := calm.limits
  have now : d.now = c.now := calm.now
  refine ⟨⟨by rw [circ]; rfl, by rw [mode], ⟨f, by rw [circ], ?_⟩, fun j zone => ?_⟩, now, limits, by rw [circ]; rfl, raised, shut⟩
  · rw [record, now, limits]
    rfl
  · rw [limits] at zone ⊢
    obtain ⟨owner, demand, -⟩ := orderOf_iff.mp ((order j).trans (if_pos zone))
    exact ⟨owner, demand⟩

theorem testFlush_single (none_runs : c.circ.flush = none) (debt : 0 < c.circ.debt) (may : c.mayFlush)
    (first : c.firstFlushable c.circ.pointer z) : Flushes z c c.testFlush := by
  have flushable : c.flushable z = true := by
    obtain ⟨_, _, flushable, _⟩ := first
    exact flushable
  rw [testFlush_begins (flushDue_of none_runs debt may flushable) (find_flushable first)]
  exact beginFlush_flushes c z

/-! ## The tests after an event -/

/-- Where a single flush is due, it begins, and the dormancy timer stops. -/
theorem settle_single (none_runs : c.circ.flush = none) (debt : 0 < c.circ.debt) (may : c.mayFlush)
    (first : c.firstFlushable c.circ.pointer z) (before : Chip) : Flushes z c (Chip.settle before c) := by
  have flushes := testFlush_single none_runs debt may first
  obtain ⟨mode, cue⟩ := may
  have not_restoring : c.run.cue ≠ .restoring := by rcases cue with h | h <;> rw [h] <;> nofun
  have not_ending : c.run.cue ≠ .ending := by rcases cue with h | h <;> rw [h] <;> nofun
  rw [settle_eq, testRestore_stands (.inl not_restoring), testEnding_stands (.inl not_ending)]
  generalize c.testFlush = d at flushes
  obtain ⟨begun, now, limits, debt, raised, shut⟩ := flushes
  have power : d.testPower = d := if_neg fun ⟨_, _, still, _⟩ => by rw [begun.2.1] at still; cases still
  rw [power, testDormancy_eq]
  exact ⟨begun, now, limits, debt, raised, shut⟩

/-- The tests raise no debt, and leave the period. -/
theorem settle_circ (before c : Chip) : ∃ pointer flush, (Chip.settle before c).circ = { c.circ with pointer := pointer, flush := flush } := by
  obtain ⟨-, -, -, -, -, restored⟩ := testRestore_waterSame c
  obtain ⟨-, -, -, -, -, ended⟩ := testEnding_waterSame c.testRestore
  obtain ⟨m, js, power⟩ := testPower_is c.testRestore.testEnding.testFlush
  rw [settle_eq, testDormancy_eq, power]
  dsimp only
  rw [← restored, ← ended]
  generalize c.testRestore.testEnding = d
  unfold Chip.testFlush
  extract_lets z
  split
  · obtain ⟨f, circ, -⟩ := (beginFlush_begun { d with circ := { d.circ with pointer := z } } .single z).circ
    exact ⟨z, some f, circ⟩
  · exact ⟨_, _, rfl⟩

theorem settle_told (before c : Chip) {n : Notice} (heard : ∀ m : LinkId, n ∈ (c.links[m]).notices) (m : LinkId) :
    n ∈ ((Chip.settle before c).links[m]).notices :=
  (FountainMoves.moves_noted (FountainMoves.settle_moves (b := true) c before) m).kept n (heard m)

theorem testRestore_running (c : Chip) : c.testRestore.mode.flushRunning = c.mode.flushRunning := by
  unfold Chip.testRestore
  split
  · rw [(ReleaseFountain.endRestore_ends c).frame]
  · rfl

theorem toMode_running (c : Chip) (m : FountainMode) : (c.toMode m).mode.flushRunning = c.mode.flushRunning := by
  unfold Chip.toMode
  split <;> rfl

theorem completeEnding_running (c : Chip) : c.completeEnding.mode.flushRunning = c.mode.flushRunning := by
  obtain ⟨ps, released, -⟩ := releasePage_is c
  have closed : c.closeShow.mode = c.mode := by
    unfold Chip.closeShow
    rw [released]
    rfl
  have is : c.completeEnding = Chip.toMode c.closeShow.stopClock.darkenShow .standby := rfl
  rw [is, toMode_running, ← closed]
  rfl

theorem testEnding_running (c : Chip) : c.testEnding.mode.flushRunning = c.mode.flushRunning := by
  unfold Chip.testEnding
  split
  · exact completeEnding_running _
  · rfl

/-- What the tests leave where no flush can begin. -/
structure Rests (c d : Chip) : Prop where
  circ    : d.circ = c.circ
  running : d.mode.flushRunning = c.mode.flushRunning
  order   : ∀ j, orderOf d j = orderOf c j
  shut    : ∀ j, StaysShut j c d

theorem testPower_rests (c : Chip) : Rests c c.testPower := by
  unfold Chip.testPower
  split
  · obtain ⟨js, is⟩ := recaused_is c { c.mode with power := .off, settle := none }
    have order := recaused_order c { c.mode with power := .off, settle := none }
    have shut := recaused_shut c { c.mode with power := .off, settle := none }
    rw [is] at order shut
    rw [Chip.dropPower, is]
    exact ⟨rfl, rfl, order, shut⟩
  · exact ⟨rfl, rfl, fun _ => rfl, fun _ _ => rfl⟩

theorem settle_rests (quiet : c.circ.debt = 0 ∨ (∀ y : ZoneId, c.flushable y = false) ∨ c.circ.flush ≠ none) (before : Chip) :
    Rests c (Chip.settle before c) := by
  obtain ⟨-, -, -, -, jets, restored⟩ := testRestore_waterSame c
  obtain ⟨-, -, -, -, jets', ended⟩ := testEnding_waterSame c.testRestore
  have limits : c.testRestore.testEnding.limits = c.limits :=
    (Chip.testEnding_fountain c.testRestore).limits.trans (Chip.testRestore_fountain c).limits
  have running := (testEnding_running c.testRestore).trans (testRestore_running c)
  rw [settle_eq, testDormancy_eq]
  generalize c.testRestore = d at jets restored jets' ended limits running
  generalize d.testEnding = e at jets' ended limits running
  have circ : e.circ = c.circ := ended.trans restored
  have same : e.jets = c.jets := jets'.trans jets
  have still : e.flushDue = false := by
    rw [Bool.eq_false_iff, ne_eq, flushDue_iff, circ]
    rintro ⟨debt, none_runs, -, z, flushable⟩
    rw [flushable_of (c := c) (by rw [circ]) limits] at flushable
    rcases quiet with zero | unflushable | runs
    · omega
    · exact absurd (unflushable z) (by rw [flushable]; nofun)
    · exact runs none_runs
  rw [testFlush_stands still]
  have rests := testPower_rests e
  generalize e.testPower = g at rests
  exact ⟨rests.circ.trans circ, rests.running.trans running, fun j => (rests.order j).trans (orderOf_of_jets same j), fun j shut =>
    (rests.shut j (by rw [same]; exact shut)).trans (by rw [same])⟩

/-! ## A flush ends (R124, R125, R128) -/

/-- A flush is over: its jets released, the record gone, the debt and the pointer as given. -/
structure Over (c : Chip) (debt : Nat) (pointer : ZoneId) (d : Chip) : Prop where
  circ   : d.circ = { c.circ with flush := none, debt := debt, pointer := pointer }
  mode   : d.mode = { c.mode with flushRunning := false }
  run    : d.run = c.run
  limits : d.limits = c.limits
  idle   : ∀ j : JetId, (c.jets[j]).owner = .flush → d.jets[j] = idleJet
  order  : ∀ j : JetId, (c.jets[j]).owner ≠ .flush → orderOf d j = orderOf c j

theorem mem_flushJets : j ∈ c.flushJets ↔ (c.jets[j]).owner = .flush := by simp [Chip.flushJets]

/-- The jets of the flush are idle, and the others are told nothing. -/
theorem releaseJets_jets (c : Chip) :
    (∀ j : JetId, (c.jets[j]).owner = .flush → c.releaseJets.jets[j] = idleJet) ∧
    ∀ j : JetId, (c.jets[j]).owner ≠ .flush → orderOf c.releaseJets j = orderOf c j :=
  ⟨fun j owned => demandWrites_shut _ .none c j (mem_flushJets.mpr owned), fun j other =>
    (demandWrites_order _ .none 0 c j).trans (if_neg (mt mem_flushJets.mp other))⟩

theorem releaseStarted_moves (c : Chip) (started : Vector Bool 12) : WaterMoves noJet noPump true c (c.releaseStarted started) :=
  .forEach fun p _ d => stopUnlessDemanded_moves d p

theorem releaseJets_moves (c : Chip) : WaterMoves anyJet noPump true c c.releaseJets := demandWrites_moves _ _ _ fun _ _ => trivial

theorem closeFlush_over (c : Chip) (f : Flush) : Over c c.circ.debt c.circ.pointer (c.closeFlush f) := by
  have writes := releaseJets_moves c
  obtain ⟨idle, order⟩ := releaseJets_jets c
  unfold Chip.closeFlush
  generalize c.releaseJets = d at writes idle order
  have stops := releaseStarted_moves d f.started
  generalize d.releaseStarted f.started = e at stops
  have ends : WaterMoves noJet noPump true e.dropFlush e.dropFlush.endEvent := endEvent_moves (.refl _)
  have after := flushStands_none (waterMoves_flush ends) rfl
  have last := waterMoves_water ends
  have water := (waterMoves_water writes).trans (waterMoves_water stops)
  have circ : e.circ = { c.circ with flush := e.circ.flush } := by
    obtain ⟨g, first, -⟩ := waterMoves_flush writes
    obtain ⟨h, second, -⟩ := waterMoves_flush stops
    rw [second, first]
  generalize e.dropFlush.endEvent = w at ends after last
  refine ⟨?_, ?_, last.run.trans water.run, last.limits.trans water.limits, fun j owned => ?_, fun j other => ?_⟩
  · rw [after]
    show { e.circ with flush := none } = _
    rw [circ]
  · rw [last.mode]
    show { e.mode with flushRunning := false } = _
    rw [water.mode]
  · have shut : (d.jets[j]).state = .closed := by rw [idle j owned]
    have stopped := waterMoves_closed (j := j) stops not_false shut
    have ended := waterMoves_closed (j := j) ends not_false (by show (e.jets[j]).state = _; rw [stopped]; exact shut)
    exact ended.trans (stopped.trans (idle j owned))
  · have told : orderOf w j = orderOf e j := waterMoves_order (c := e.dropFlush) ends not_false
    rw [told, waterMoves_order stops not_false, order j other]

/-- The next flush begins at once where the debt stands. -/
theorem Over.begins {debt : Nat} {pointer : ZoneId} (h : Over c debt pointer d) (owing : 0 < debt) (may : c.mayFlush)
    (first : c.firstFlushable pointer z) (before : Chip) :
    (Chip.settle before d).singleBegun z ∧ (Chip.settle before d).limits = c.limits ∧
      ∀ j : JetId, (c.jets[j]).owner = .flush → (c.limits.jets[j]).zone ≠ z → (Chip.settle before d).jets[j] = idleJet := by
  have at_ : d.circ.pointer = pointer := by rw [h.circ]
  have flushes : Flushes z d (Chip.settle before d) := by
    refine settle_single (by rw [h.circ]) (by rw [h.circ]; exact owing) ?_ ?_ before
    · rw [Chip.mayFlush, h.mode, h.run]
      exact may
    · rw [at_]
      exact firstFlushable_of (by rw [h.circ]) h.limits first
  refine ⟨flushes.single, flushes.limits.trans h.limits, fun j owned other => ?_⟩
  have idle := h.idle j owned
  exact (flushes.shut j (by rw [h.limits]; exact other) (by rw [idle])).trans idle

/-- No flush begins where no debt stands or no zone is flushable. -/
theorem Over.rests {debt : Nat} {pointer : ZoneId} (h : Over c debt pointer d)
    (quiet : debt = 0 ∨ ∀ y : ZoneId, c.flushable y = false) (before : Chip) :
    (Chip.settle before d).circ = { c.circ with flush := none, debt := debt, pointer := pointer } ∧
    (Chip.settle before d).mode.flushRunning = false ∧
    (∀ j : JetId, (c.jets[j]).owner = .flush → (Chip.settle before d).jets[j] = idleJet) ∧
    ∀ j : JetId, (c.jets[j]).owner ≠ .flush → orderOf (Chip.settle before d) j = orderOf c j := by
  have still : d.circ.debt = 0 ∨ (∀ y : ZoneId, d.flushable y = false) ∨ d.circ.flush ≠ none := by
    refine quiet.imp (fun paid => ?_) fun unflushable => .inl fun y => ?_
    · rw [h.circ]
      exact paid
    · rw [flushable_of (by rw [h.circ]) h.limits]
      exact unflushable y
  obtain ⟨circ, running, order, shut⟩ := settle_rests still before
  refine ⟨circ.trans h.circ, running.trans (by rw [h.mode]), fun j owned => ?_, fun j other => (order j).trans (h.order j other)⟩
  have idle := h.idle j owned
  exact (shut j (by rw [idle])).trans idle

/-! ## The events (R121, R124, R125, R128) -/

theorem endFlush_over (c : Chip) (f : Flush) : Over c (c.circ.debt - 1) (c.zoneAfter f.zone) (c.endFlush f) := by
  have ended := closeFlush_over c f
  unfold Chip.endFlush
  generalize c.closeFlush f = d at ended
  obtain ⟨circ, mode, run, limits, idle, order⟩ := ended
  have after : d.payDebt.zoneAfter f.zone = c.zoneAfter f.zone := by
    have same : d.payDebt.flushable = c.flushable := funext fun z => flushable_of (by show d.circ.mask = _; rw [circ]) limits z
    rw [Chip.zoneAfter, Chip.zoneAfter, same]
  refine ⟨?_, mode, run, limits, idle, order⟩
  show { d.circ with debt := d.circ.debt - 1, pointer := d.payDebt.zoneAfter f.zone } = _
  rw [after, circ]

theorem stallFlush_over (c : Chip) (f : Flush) :
    Over c c.circ.debt (if f.mode = .single then c.zoneAfter f.zone else c.circ.pointer) (c.stallFlush f) := by
  have ended := closeFlush_over c f
  unfold Chip.stallFlush
  generalize c.closeFlush f = d at ended
  obtain ⟨circ, mode, run, limits, idle, order⟩ := ended
  dsimp only
  split
  · have after : d.zoneAfter f.zone = c.zoneAfter f.zone := by
      have same : d.flushable = c.flushable := funext fun z => flushable_of (by rw [circ]) limits z
      rw [Chip.zoneAfter, Chip.zoneAfter, same]
    refine ⟨?_, mode, run, limits, idle, order⟩
    show { d.circ with pointer := d.zoneAfter f.zone } = _
    rw [after, circ]
  · exact ⟨circ, mode, run, limits, idle, order⟩

theorem zoneDone_over (c : Chip) (f : Flush) (last : c.nextZone f.zone = none) : Over c 0 0 (c.zoneDone f) := by
  have ended := closeFlush_over c f
  unfold Chip.zoneDone
  rw [last]
  dsimp only
  generalize c.closeFlush f = d at ended
  obtain ⟨circ, mode, run, limits, idle, order⟩ := ended
  refine ⟨?_, mode, run, limits, idle, order⟩
  show { d.circ with debt := 0, pointer := 0 } = _
  rw [circ]

/-- The record of the next zone of a FLUSH_ALL run. -/
def nextRecord (c : Chip) (f : Flush) (z : ZoneId) : Flush := { f with zone := z, start := c.now, openTime := 0, dryTime := 0 }

/-- A FLUSH_ALL run has gone on to its next zone. -/
structure GoesOn (c : Chip) (f : Flush) (z : ZoneId) (d : Chip) : Prop where
  circ  : ∃ g : Flush, d.circ = { c.circ with flush := some g } ∧
    (g.mode, g.zone, g.start, g.height, g.duration, g.openTime) = (f.mode, z, c.now, f.height, f.duration, 0)
  order : ∀ j : JetId, (c.limits.jets[j]).zone = z → orderOf d j = (.flush, f.height, none)
  now   : d.now = c.now

theorem zoneDone_goesOn (next : c.nextZone f.zone = some z) : GoesOn c f z (c.zoneDone f) := by
  have writes := releaseJets_moves c
  unfold Chip.zoneDone
  rw [next]
  dsimp only
  generalize c.releaseJets = d at writes
  have circ : { d.circ with flush := some (nextRecord c f z) } = { c.circ with flush := some (nextRecord c f z) } := by
    obtain ⟨g, is, -⟩ := waterMoves_flush writes
    rw [is]
  have begun : WaterMoves anyJet noPump true { d with circ := { d.circ with flush := some (nextRecord c f z) } }
      (Chip.demandWrites { d with circ := { d.circ with flush := some (nextRecord c f z) } } (c.zoneJets z) .flush f.height) :=
    demandWrites_moves _ _ _ fun _ _ => trivial
  have order (j : JetId) := demandWrites_order (c.zoneJets z) .flush f.height
    { d with circ := { d.circ with flush := some (nextRecord c f z) } } j
  show GoesOn c f z (Chip.endEvent (Chip.releaseStarted (Chip.demandWrites
    { d with circ := { d.circ with flush := some (nextRecord c f z) } } (c.zoneJets z) .flush f.height) f.started))
  generalize Chip.demandWrites { d with circ := { d.circ with flush := some (nextRecord c f z) } } (c.zoneJets z) .flush f.height = e
    at begun order
  have ends : WaterMoves noJet noPump true e (e.releaseStarted f.started).endEvent := endEvent_moves (releaseStarted_moves e f.started)
  generalize (e.releaseStarted f.started).endEvent = w at ends
  refine ⟨?_, fun j zone => ?_, (waterMoves_water ends).now.trans ((waterMoves_water begun).now.trans (waterMoves_water writes).now)⟩
  · obtain ⟨g, first, keeps⟩ := (waterMoves_flush begun).trans (waterMoves_flush ends)
    obtain ⟨same, -⟩ := keeps (nextRecord c f z)
    refine ⟨g (nextRecord c f z), first.trans ?_, ?_⟩
    · rw [circ]
      rfl
    · rw [same]
      rfl
  · rw [waterMoves_order ends not_false, order, if_pos (mem_zoneJets.mpr zone)]

/-! ### The expiries -/

theorem flushReached_none (none_runs : c.circ.flush = none) : c.flushReached = c ∧ c.zoneReached = c ∧ c.stallReached = c := by
  unfold Chip.flushReached Chip.zoneReached Chip.stallReached
  rw [none_runs]
  exact ⟨rfl, rfl, rfl⟩

theorem flushReached_other (runs : c.circ.flush = some f) (other : f.mode ≠ .single) : c.flushReached = c := by
  unfold Chip.flushReached
  rw [runs]
  exact if_neg fun h => other h.1

theorem zoneReached_other (runs : c.circ.flush = some f) (other : f.mode ≠ .all) : c.zoneReached = c := by
  unfold Chip.zoneReached
  rw [runs]
  exact if_neg fun h => other h.1

theorem openTimeReaches_open (flowing : c.flushOpen = true) (f : Flush) : c.openTimeReaches f = true := by
  rw [Chip.openTimeReaches, flowing, Bool.true_or]

theorem flushReached_ends (runs : c.circ.flush = some f) (single : f.mode = .single) (flowing : c.flushOpen = true) :
    c.flushReached = c.settle ((c.advance (f.duration * 1000 - f.openTime)).endFlush f) := by
  unfold Chip.flushReached
  rw [runs]
  exact if_pos ⟨single, openTimeReaches_open flowing f⟩

theorem zoneReached_done (runs : c.circ.flush = some f) (all : f.mode = .all) (flowing : c.flushOpen = true) :
    c.zoneReached = c.settle ((c.advance (f.duration * 1000 - f.openTime)).zoneDone f) := by
  unfold Chip.zoneReached
  rw [runs]
  exact if_pos ⟨all, openTimeReaches_open flowing f⟩

theorem stallReached_stalls (runs : c.circ.flush = some f) (dry : c.flushOpen = false) :
    c.stallReached = c.settle ((c.advance (stallLimit - f.dryTime)).stallFlush f) := by
  unfold Chip.stallReached
  rw [runs, dry]
  rfl

theorem advance_flushable (c : Chip) (k : Nat) : (c.advance k).flushable = c.flushable := funext fun z => flushable_of rfl rfl z

theorem advance_zoneAfter (c : Chip) (k : Nat) (z : ZoneId) : (c.advance k).zoneAfter z = c.zoneAfter z := by
  rw [Chip.zoneAfter, Chip.zoneAfter, advance_flushable]

theorem advance_nextZone (c : Chip) (k : Nat) (z : ZoneId) : (c.advance k).nextZone z = c.nextZone z := by
  rw [Chip.nextZone, Chip.nextZone, advance_flushable]

/-! ### The statement's parts -/

theorem zones_found (c : Chip) (z : ZoneId) :
    ((∀ y : ZoneId, c.flushable y = false) → c.zoneAfter z = z + 1) ∧
    (∀ n : Fin 8, c.flushable (z + 1 + n) = true → (∀ m : Fin 8, m < n → c.flushable (z + 1 + m) = false) →
      c.zoneAfter z = z + 1 + n) ∧
    (∀ y : ZoneId, c.nextZone z = some y →
      z < y ∧ c.flushable y = true ∧ ∀ x : ZoneId, z < x → x < y → c.flushable x = false) ∧
    (c.flushable z = true ↔ c.circ.mask.getLsbD z.val = false ∧ ∃ j : JetId, (c.limits.jets[j]).zone = z) :=
  ⟨zoneAfter_none, fun n flushable before => zoneAfter_first ⟨n, rfl, flushable, before⟩, fun _ => nextZone_is, flushable_iff⟩

theorem testFlush_tests (c : Chip) :
    (c.circ.flush ≠ none ∨ c.circ.debt = 0 ∨ (c.mode.mode ≠ .dormant ∧ c.mode.mode ≠ .standby) ∨
       (c.run.cue ≠ .idle ∧ c.run.cue ≠ .cued) → c.testFlush = c) ∧
     (c.circ.flush = none → ∀ f : Flush, (c.testFlush).circ.flush = some f →
       c.flushable f.zone = true ∧ f.mode = .single ∧ (c.testFlush).circ.pointer = f.zone ∧
       (c.testFlush).circ.debt = c.circ.debt ∧ (c.testFlush).mode.flushRunning = true) ∧
     (c.circ.flush = none → 0 < c.circ.debt → c.mayFlush → ∀ z : ZoneId, c.firstFlushable c.circ.pointer z →
       (c.testFlush).singleBegun z ∧ (c.testFlush).now = c.now ∧ (c.testFlush).limits = c.limits ∧
       (c.testFlush).circ.debt = c.circ.debt ∧
       (c.mode.mode = .dormant → c.mode.power = .off → (c.testFlush).mode.power = .settling)) := by
  refine ⟨fun h => testFlush_stands ?_, fun none_runs f begun => ?_, fun none_runs debt may z first => ?_⟩
  · rw [Bool.eq_false_iff, ne_eq, flushDue_iff]
    rintro ⟨debt, none_runs, ⟨mode, cue⟩, -⟩
    rcases h with runs | zero | ⟨dormant, standby⟩ | ⟨idle, cued⟩
    · exact runs none_runs
    · omega
    · exact mode.elim dormant standby
    · exact cue.elim idle cued
  · by_cases due : c.flushDue = true
    · obtain ⟨-, -, -, y, flushable⟩ := flushDue_iff.mp due
      obtain ⟨z, found⟩ := exists_find flushable c.circ.pointer
      have flushes := beginFlush_flushes c z
      rw [← testFlush_begins due found] at flushes
      generalize c.testFlush = d at begun flushes
      obtain ⟨pointer, running, ⟨g, record, fields⟩, -⟩ := flushes.single
      obtain rfl : f = g := Option.some.inj (begun.symm.trans record)
      simp only [Prod.mk.injEq] at fields
      obtain ⟨mode, zone, -⟩ := fields
      rw [zone]
      exact ⟨List.find?_some found, mode, pointer, flushes.debt, running⟩
    · rw [testFlush_stands (Bool.eq_false_iff.mpr due), none_runs] at begun
      cases begun
  · obtain ⟨begun, now, limits, debt, raised, -⟩ := testFlush_single none_runs debt may first
    exact ⟨begun, now, limits, debt, raised⟩

theorem periodExpiry_is (c : Chip) : ∃ ls, c.periodExpiry = { c with
      circ := { c.circ with debt := min 8 (c.circ.debt + 1), periodTimer := 0, period := c.limits.site.period }, links := ls } ∧
    (7 ≤ c.circ.debt → ∀ m : LinkId, .flushOverdue ∈ (c.periodExpiry.links[m]).notices) := by
  unfold Chip.periodExpiry
  dsimp only
  split
  · exact ⟨_, rfl, fun _ => notify_heard _ _⟩
  next few => exact ⟨c.links, rfl, fun many => absurd many few⟩

theorem period_expires (free : s.chip.resetHeld = false) : ∃ d : Chip, exec .flushPeriodExpiry s = .next { s with chip := d } ∧
    d.circ.debt = (if s.chip.circ.debt < 8 then s.chip.circ.debt + 1 else 8) ∧ d.circ.periodTimer = 0 ∧
    d.circ.period = s.chip.limits.site.period ∧
    (7 ≤ s.chip.circ.debt → ∀ m : LinkId, .flushOverdue ∈ (d.links[m]).notices) ∧
    (s.chip.circ.flush = none → s.chip.mayFlush → ∀ z : ZoneId, s.chip.firstFlushable s.chip.circ.pointer z →
      d.singleBegun z ∧ d.limits = s.chip.limits) := by
  have run : exec .flushPeriodExpiry s = .next { s with chip := s.chip.periodReached } := event_next (f := Chip.periodReached) rfl free rfl
  unfold Chip.periodReached at run
  obtain ⟨ls, is, overdue⟩ := periodExpiry_is (s.chip.advance (s.chip.circ.period * 1000 - s.chip.circ.periodTimer))
  have passed : (s.chip.advance (s.chip.circ.period * 1000 - s.chip.circ.periodTimer)).circ.debt = s.chip.circ.debt ∧
      (s.chip.circ.flush = none → (s.chip.advance (s.chip.circ.period * 1000 - s.chip.circ.periodTimer)).circ.flush = none) ∧
      (s.chip.advance (s.chip.circ.period * 1000 - s.chip.circ.periodTimer)).circ.pointer = s.chip.circ.pointer ∧
      (s.chip.advance (s.chip.circ.period * 1000 - s.chip.circ.periodTimer)).circ.mask = s.chip.circ.mask ∧
      (s.chip.advance (s.chip.circ.period * 1000 - s.chip.circ.periodTimer)).limits = s.chip.limits ∧
      (s.chip.advance (s.chip.circ.period * 1000 - s.chip.circ.periodTimer)).mode = s.chip.mode ∧
      (s.chip.advance (s.chip.circ.period * 1000 - s.chip.circ.periodTimer)).run = s.chip.run :=
    ⟨rfl, fun none_runs => by show s.chip.circ.flush.map _ = none; rw [none_runs]; rfl, rfl, rfl, rfl, rfl, rfl⟩
  generalize s.chip.advance (s.chip.circ.period * 1000 - s.chip.circ.periodTimer) = a at run is overdue passed
  obtain ⟨debt, still, pointer, mask, limits, mode, cue⟩ := passed
  generalize a.periodExpiry = e at run is overdue
  obtain ⟨p, g, circ⟩ := settle_circ s.chip e
  refine ⟨_, run, ?_, ?_, ?_, fun many => settle_told _ _ (overdue (by rw [debt]; exact many)), fun none_runs may z first => ?_⟩
  · rw [circ, is]
    show min 8 (a.circ.debt + 1) = _
    rw [debt]
    split <;> omega
  · rw [circ, is]
  · rw [circ, is]
    show a.limits.site.period = _
    rw [limits]
  · have flushes : Flushes z e (s.chip.settle e) := by
      refine settle_single (by rw [is]; exact still none_runs) ?_ ?_ ?_ s.chip
      · rw [is]
        show 0 < min 8 (a.circ.debt + 1)
        omega
      · rw [is, Chip.mayFlush]
        show (a.mode.mode = _ ∨ a.mode.mode = _) ∧ (a.run.cue = _ ∨ a.run.cue = _)
        rw [mode, cue]
        exact may
      · have at_ : e.circ.pointer = s.chip.circ.pointer := by rw [is]; exact pointer
        rw [at_]
        exact firstFlushable_of (by rw [is]; exact mask) (by rw [is]; exact limits) first
    exact ⟨flushes.single, flushes.limits.trans (by rw [is]; exact limits)⟩

/-- The end of a single flush, with the flush that follows it, or none. -/
theorem single_ends (free : s.chip.resetHeld = false) (runs : s.chip.circ.flush = some f) (single : f.mode = .single)
    (flowing : s.chip.flushOpen = true) :
    ∃ d : Chip, exec .flushEnd s = .next { s with chip := d } ∧ d.circ.debt = s.chip.circ.debt - 1 ∧
      (2 ≤ s.chip.circ.debt → s.chip.mayFlush → ∀ z : ZoneId, s.chip.firstFlushable (f.zone + 1) z →
        d.singleBegun z ∧ d.limits = s.chip.limits ∧
        ∀ j : JetId, (s.chip.jets[j]).owner = .flush → (s.chip.limits.jets[j]).zone ≠ z → d.jets[j] = idleJet) ∧
      (s.chip.circ.debt ≤ 1 ∨ (∀ y : ZoneId, s.chip.flushable y = false) → d.circ.flush = none ∧ d.mode.flushRunning = false ∧
        d.circ.pointer = s.chip.zoneAfter f.zone ∧
        ∀ j : JetId,
          ((s.chip.jets[j]).owner = .flush → d.jets[j] = idleJet) ∧
          ((s.chip.jets[j]).owner ≠ .flush →
            (d.jets[j]).owner = (s.chip.jets[j]).owner ∧ (d.jets[j]).demand = (s.chip.jets[j]).demand)) := by
  have run : exec .flushEnd s = .next { s with chip := _ } :=
    event_next (f := Chip.flushReached) rfl free (flushReached_ends runs single flowing)
  have ended := endFlush_over (s.chip.advance (f.duration * 1000 - f.openTime)) f
  rw [advance_zoneAfter] at ended
  generalize (s.chip.advance (f.duration * 1000 - f.openTime)).endFlush f = e at run ended
  refine ⟨_, run, ?_, fun owing may z first => ?_, fun quiet => ?_⟩
  · obtain ⟨p, g, circ⟩ := settle_circ s.chip e
    rw [circ, ended.circ]
    rfl
  · have next := zoneAfter_first first
    obtain ⟨-, -, flushable, -⟩ := first
    rw [next] at ended
    exact ended.begins (by show 0 < s.chip.circ.debt - 1; omega) may (firstFlushable_of rfl rfl (firstFlushable_self flushable)) s.chip
  · obtain ⟨circ, running, idle, order⟩ := ended.rests (quiet.imp (fun few => by show s.chip.circ.debt - 1 = 0; omega)
      fun unflushable y => by rw [advance_flushable]; exact unflushable y) s.chip
    refine ⟨by rw [circ], running, by rw [circ], fun j => ⟨idle j, fun other => ?_⟩⟩
    obtain ⟨owner, demand, -⟩ := orderOf_eq_iff.mp (order j other)
    exact ⟨owner, demand⟩

theorem stallFlush_told (c : Chip) (f : Flush) (m : LinkId) : .flushStalled ∈ ((c.stallFlush f).links[m]).notices := notify_heard _ _ m

theorem flush_stalls (free : s.chip.resetHeld = false) (runs : s.chip.circ.flush = some f) (dry : s.chip.flushOpen = false) :
    ∃ d : Chip, exec .flushStall s = .next { s with chip := d } ∧ d.circ.debt = s.chip.circ.debt ∧
      (∀ m : LinkId, .flushStalled ∈ (d.links[m]).notices) ∧
      (0 < s.chip.circ.debt → s.chip.mayFlush → ∀ z : ZoneId,
        s.chip.firstFlushable (if f.mode = .single then f.zone + 1 else s.chip.circ.pointer) z →
        d.singleBegun z ∧ d.limits = s.chip.limits ∧
        ∀ j : JetId, (s.chip.jets[j]).owner = .flush → (s.chip.limits.jets[j]).zone ≠ z → d.jets[j] = idleJet) ∧
      (s.chip.circ.debt = 0 ∨ (∀ y : ZoneId, s.chip.flushable y = false) → d.circ.flush = none ∧ d.mode.flushRunning = false ∧
        d.circ.pointer = (if f.mode = .single then s.chip.zoneAfter f.zone else s.chip.circ.pointer) ∧
        ∀ j : JetId, (s.chip.jets[j]).owner = .flush → d.jets[j] = idleJet) := by
  have run : exec .flushStall s = .next { s with chip := _ } :=
    event_next (f := Chip.stallReached) rfl free (stallReached_stalls runs dry)
  have ended := stallFlush_over (s.chip.advance (stallLimit - f.dryTime)) f
  have told := stallFlush_told (s.chip.advance (stallLimit - f.dryTime)) f
  rw [advance_zoneAfter, show (s.chip.advance (stallLimit - f.dryTime)).circ.pointer = s.chip.circ.pointer from rfl] at ended
  generalize (s.chip.advance (stallLimit - f.dryTime)).stallFlush f = e at run ended told
  refine ⟨_, run, ?_, settle_told _ _ told, fun owing may z first => ?_, fun quiet => ?_⟩
  · obtain ⟨p, g, circ⟩ := settle_circ s.chip e
    rw [circ, ended.circ]
    rfl
  · refine ended.begins owing may (firstFlushable_of rfl rfl ?_) s.chip
    split at first
    next single =>
      have next := zoneAfter_first first
      obtain ⟨-, -, flushable, -⟩ := first
      rw [if_pos single, next]
      exact firstFlushable_self flushable
    next all =>
      rw [if_neg all]
      exact first
  · obtain ⟨circ, running, idle, -⟩ := ended.rests (quiet.imp id fun unflushable y => by rw [advance_flushable]; exact unflushable y) s.chip
    exact ⟨by rw [circ], running, by rw [circ], idle⟩

theorem run_goes_on (free : s.chip.resetHeld = false) (runs : s.chip.circ.flush = some f) (all : f.mode = .all)
    (flowing : s.chip.flushOpen = true) :
    ∃ d : Chip, exec .flushAllZoneDone s = .next { s with chip := d } ∧
      (∀ z : ZoneId, s.chip.nextZone f.zone = some z →
        d.circ.debt = s.chip.circ.debt ∧ d.circ.pointer = s.chip.circ.pointer ∧
        (∃ g : Flush, d.circ.flush = some g ∧
          (g.mode, g.zone, g.start, g.height, g.duration, g.openTime) =
            (.all, z, d.now, f.height, f.duration, 0)) ∧
        ∀ j : JetId, (s.chip.limits.jets[j]).zone = z →
          (d.jets[j]).owner = .flush ∧ (d.jets[j]).demand = f.height) ∧
      (s.chip.nextZone f.zone = none →
        d.circ.debt = 0 ∧ d.circ.pointer = 0 ∧ d.circ.flush = none ∧ d.mode.flushRunning = false ∧
        ∀ j : JetId, (s.chip.jets[j]).owner = .flush → d.jets[j] = idleJet) := by
  have run : exec .flushAllZoneDone s = .next { s with chip := _ } :=
    event_next (f := Chip.zoneReached) rfl free (zoneReached_done runs all flowing)
  refine ⟨_, run, fun z next => ?_, fun last => ?_⟩
  · rw [← advance_nextZone s.chip (f.duration * 1000 - f.openTime)] at next
    have on := zoneDone_goesOn next
    have zones : (s.chip.advance (f.duration * 1000 - f.openTime)).limits = s.chip.limits := rfl
    have circ : (s.chip.advance (f.duration * 1000 - f.openTime)).circ.debt = s.chip.circ.debt ∧
        (s.chip.advance (f.duration * 1000 - f.openTime)).circ.pointer = s.chip.circ.pointer := ⟨rfl, rfl⟩
    generalize s.chip.advance (f.duration * 1000 - f.openTime) = a at on zones circ
    generalize a.zoneDone f = e at on
    obtain ⟨⟨g, record, fields⟩, order, now⟩ := on
    have rests := settle_rests (c := e) (.inr (.inr (by rw [record]; nofun))) s.chip
    have settled := (Chip.settle_fountain e s.chip).now
    generalize s.chip.settle e = d at rests settled
    rw [all] at fields
    refine ⟨?_, ?_, ⟨g, ?_, ?_⟩, fun j zone => ?_⟩
    · rw [rests.circ, record]
      exact circ.1
    · rw [rests.circ, record]
      exact circ.2
    · rw [rests.circ, record]
    · rw [fields, settled, now]
    · obtain ⟨owner, demand, -⟩ := orderOf_iff.mp ((rests.order j).trans (order j (by rw [zones]; exact zone)))
      exact ⟨owner, demand⟩
  · rw [← advance_nextZone s.chip (f.duration * 1000 - f.openTime)] at last
    have ended := zoneDone_over _ f last
    generalize (s.chip.advance (f.duration * 1000 - f.openTime)).zoneDone f = e at ended
    obtain ⟨circ, running, idle, -⟩ := ended.rests (.inl rfl) s.chip
    exact ⟨by rw [circ], by rw [circ], by rw [circ], running, idle⟩

/-- Settles O47: the zones found, CIR's test, the period, and the ends of a flush. -/
theorem flushesAndCirculation : Obligations.FlushesAndCirculation := by
  refine ⟨⟨zones_found, testFlush_tests⟩, fun s free => ⟨period_expires free, fun none_runs => ?_, fun f runs =>
    ⟨fun single flowing => ⟨?_, single_ends free runs single flowing⟩, flush_stalls free runs,
      fun all flowing => ⟨?_, run_goes_on free runs all flowing⟩⟩⟩⟩
  · obtain ⟨ended, done, stalled⟩ := flushReached_none none_runs
    exact ⟨event_next (f := Chip.flushReached) rfl free ended, event_next (f := Chip.zoneReached) rfl free done,
      event_next (f := Chip.stallReached) rfl free stalled⟩
  · exact event_next (f := Chip.zoneReached) rfl free (zoneReached_other runs (by rw [single]; nofun))
  · exact event_next (f := Chip.flushReached) rfl free (flushReached_other runs (by rw [all]; nofun))

end Sys2Proof.Proofs.Circulating


/-! PROOF. A pump that runs, and a pump that has faulted, through the tests that follow an event (R89, R90, R107 to R109, R123). -/

namespace Sys2Proof.Proofs.PumpEvents

open Sys2Proof Sys2Proof.Machine Sys2Proof.Proofs.StepEffects Sys2Proof.Proofs.Water Sys2Proof.Proofs.Orders Sys2Proof.Proofs.OnePump
open Sys2Proof.Proofs.Settling Sys2Proof.Proofs.Flushing Sys2Proof.Proofs.Arbiter Sys2Proof.Proofs.ManualPumps Sys2Proof.Proofs.Circulating

variable {s : State} {c d e before : Chip} {p q : PumpId} {j k : JetId}

/-! ## The tests where no flush begins -/

theorem recaused_state (c : Chip) (m : ModeRecord) (j : JetId) : ((Chip.recauseJets { c with mode := m }).jets[j]).state = (c.jets[j]).state := by
  have jet : (Chip.recauseJets { c with mode := m }).jets[j] = FountainMoves.recaused { c with mode := m } j := Vector.getElem_ofFn _
  rw [jet, FountainMoves.recaused]
  split <;> rfl

/-- A change of the power, by MOD's test or for a flush, changes no jet's state. -/
theorem testPower_states (c : Chip) (j : JetId) : (c.testPower.jets[j]).state = (c.jets[j]).state := by
  unfold Chip.testPower
  split
  · exact recaused_state c _ j
  · rfl

theorem flushTold_states (c : Chip) (j : JetId) : ((flushTold c).jets[j]).state = (c.jets[j]).state := by
  unfold flushTold
  dsimp only
  split
  · unfold Chip.raisePower
    split
    · exact recaused_state { c with mode := { c.mode with flushRunning := true } } _ j
    · rfl
  · rfl

/-- The pumps, the queue, the lines, the table and the time are the same, and each jet is in its state. -/
structure Undisturbed (c d : Chip) : Prop where
  starts : StartsSame c d
  states : ∀ j : JetId, (d.jets[j]).state = (c.jets[j]).state

theorem undisturbed_of (water : c.waterSame d) (only : c.FountainOnly d) : Undisturbed c d := by
  refine ⟨startsSame_of water only, fun j => ?_⟩
  obtain ⟨-, -, -, -, jets, -⟩ := water
  rw [jets]

/-- What the beginning of a flush keeps, the tests after an event keep, if it is about the pumps, the queue and the jets' states. -/
theorem settle_keeps_states {P : Chip → Prop} (same : ∀ c d, Undisturbed c d → P c → P d)
    (flush : ∀ (c : Chip) z, P c → P (flushWritten c .single z)) (h : P c) : P (Chip.settle before c) := by
  have restored := same _ _ (undisturbed_of (testRestore_waterSame c) (Chip.testRestore_fountain c)) h
  have ended := same _ _ (undisturbed_of (testEnding_waterSame c.testRestore) (Chip.testEnding_fountain c.testRestore)) restored
  rw [settle_eq, testDormancy_eq]
  generalize c.testRestore.testEnding = d at ended
  have flushed : P d.testFlush := by
    unfold Chip.testFlush
    extract_lets z
    split
    · rw [beginFlush_eq]
      have pointed := same d { d with circ := { d.circ with pointer := z } } ⟨⟨rfl, rfl, rfl, rfl, rfl, rfl⟩, fun _ => rfl⟩ ended
      have written := flush _ z pointed
      generalize flushWritten _ _ _ = e at written
      have states := flushTold_states e
      obtain ⟨m, js, told, -⟩ := flushTold_is e
      rw [told] at states ⊢
      exact same e _ ⟨⟨rfl, rfl, rfl, rfl, rfl, rfl⟩, states⟩ written
    · exact ended
  generalize d.testFlush = e at flushed
  have states := testPower_states e
  obtain ⟨m, js, power⟩ := testPower_is e
  rw [power] at states ⊢
  exact same e _ ⟨⟨rfl, rfl, rfl, rfl, rfl, rfl⟩, states⟩ flushed

/-- Without debt the tests leave the pumps, the queue and the jets' states. -/
theorem settle_undisturbed (paid : c.circ.debt = 0) (before : Chip) : Undisturbed c (Chip.settle before c) := by
  have restored := testRestore_waterSame c
  have ended := testEnding_waterSame c.testRestore
  have first := undisturbed_of restored (Chip.testRestore_fountain c)
  have second := undisturbed_of ended (Chip.testEnding_fountain c.testRestore)
  have circ : c.testRestore.testEnding.circ = c.circ := by
    obtain ⟨-, -, -, -, -, is⟩ := waterSame_trans restored ended
    exact is
  rw [settle_eq, testDormancy_eq]
  generalize c.testRestore = d at first second circ
  generalize d.testEnding = e at second circ
  rw [testFlush_stands (not_flushDue_of_debt (by rw [circ]; exact paid))]
  have states := testPower_states e
  obtain ⟨m, js, power⟩ := testPower_is e
  rw [power] at states ⊢
  obtain ⟨⟨pumps, queue, joining, lines, limits, now⟩, kept⟩ := first
  obtain ⟨⟨pumps', queue', joining', lines', limits', now'⟩, kept'⟩ := second
  exact ⟨⟨pumps'.trans pumps, queue'.trans queue, joining'.trans joining, lines'.trans lines, limits'.trans limits, now'.trans now⟩,
    fun j => (states j).trans ((kept' j).trans (kept j))⟩

/-! ## A running pump -/

/-- From `c` to `d` the pump has run on, and its open jets have stayed open. -/
structure RunsOn (p : PumpId) (c d : Chip) : Prop where
  state    : stateOf d p = .running
  setpoint : (d.pumps[p]).setpoint = (c.pumps[p]).setpoint
  granted  : (d.pumps[p]).lastGrant = (c.pumps[p]).lastGrant
  limits   : d.limits = c.limits
  jets     : ∀ j : JetId, c.pumpOf j = p → (c.jets[j]).state = .opened → (d.jets[j]).state = .opened

namespace RunsOn

theorem refl (running : stateOf c p = .running) : RunsOn p c c := ⟨running, rfl, rfl, rfl, fun _ _ is => is⟩

theorem trans (h : RunsOn p c d) (k : RunsOn p d e) : RunsOn p c e where
  state := k.state
  setpoint := k.setpoint.trans h.setpoint
  granted := k.granted.trans h.granted
  limits := k.limits.trans h.limits
  jets j own is := k.jets j (by rw [Chip.pumpOf, h.limits]; exact own) (h.jets j own is)

theorem of_undisturbed (running : stateOf c p = .running) (h : Undisturbed c d) : RunsOn p c d where
  state := by rw [stateOf, h.starts.pumps]; exact running
  setpoint := by rw [h.starts.pumps]
  granted := by rw [h.starts.pumps]
  limits := h.starts.limits
  jets j _ is := (h.states j).trans is

end RunsOn

theorem demandWritten_runsOn (running : stateOf c p = .running) {demand : Nat} (flows : demand ≠ 0) (owner : Owner) (burstEnd : Option Nat)
    (k : JetId) : RunsOn p c (demandWritten c owner demand burstEnd k) := by
  have pumps := demandWritten_pumps c owner demand burstEnd k
  refine ⟨by rw [stateOf, pumps]; exact running, by rw [pumps], by rw [pumps], (Chip.wetFlush_water _).limits, fun j own is => ?_⟩
  rw [demandWritten_jet]
  split
  next same =>
    subst same own
    have runs : (c.pumps[c.pumpOf j]).state = .running := running
    rw [jetWritten, if_neg flows, Chip.settleJet, runs, is]
    rfl
  next => exact is

theorem demandAppears_runsOn (running : stateOf c p = .running) (q : PumpId) (r : Requester) : RunsOn p c (c.demandAppears q r) := by
  have jets : (c.demandAppears q r).jets = c.jets := by
    unfold Chip.demandAppears
    split
    exacts [startRequest_jets c q r, startRequest_jets c q r, rfl, rfl, rfl, rfl]
  have record : stateOf (c.demandAppears q r) p = stateOf c p ∧ ((c.demandAppears q r).pumps[p]).setpoint = (c.pumps[p]).setpoint ∧
      ((c.demandAppears q r).pumps[p]).lastGrant = (c.pumps[p]).lastGrant := by
    by_cases same : p = q
    · subst same
      have appears : c.demandAppears p r = c.updPump p fun q => { q with stopPending := false, idleExpiry := none } := by
        unfold Chip.demandAppears
        rw [show (c.pumps[p]).state = .running from running]
      rw [appears, stateOf, updPump_own]
      exact ⟨rfl, rfl, rfl⟩
    · have aside := demandAppears_aside c same r
      exact ⟨aside.state, by rw [aside.record], by rw [aside.record]⟩
  exact ⟨record.1.trans running, record.2.1, record.2.2, (Chip.demandAppears_water c q r).limits, fun j _ is => by rw [jets]; exact is⟩

/-- A flush that writes a jet gives its pump run demand. -/
theorem flushWrite_demands {demand : Nat} (flows : demand ≠ 0) (burstEnd : Option Nat) (k : JetId) :
    (demandWritten c .flush demand burstEnd k).hasRunDemand (c.pumpOf k) = true := by
  have order := orderOf_iff.mp ((demandWritten_order c .flush demand burstEnd k k).trans (if_pos rfl))
  obtain ⟨owner, written, -⟩ := order
  have feeds : (demandWritten c .flush demand burstEnd k).pumpOf k = c.pumpOf k := by
    have limits : (demandWritten c .flush demand burstEnd k).limits = c.limits := (Chip.wetFlush_water _).limits
    rw [Chip.pumpOf, limits]
    rfl
  exact hasRunDemand_iff.mpr (.inr (.inr (flushUses_iff.mpr ⟨k, feeds, by rw [written]; exact Nat.pos_of_ne_zero flows, owner⟩)))

theorem flushWrite_runsOn (running : stateOf c p = .running) {demand : Nat} (flows : demand ≠ 0) (burstEnd : Option Nat) (k : JetId) :
    RunsOn p c (c.demandWrite .flush demand burstEnd k) := by
  have written := demandWritten_runsOn running flows .flush burstEnd k
  rw [demandWrite_eq, if_pos (flushWrite_demands flows burstEnd k)]
  split
  · exact written
  · exact written.trans (demandAppears_runsOn written.state _ _)

theorem endEvent_runsOn (running : stateOf c p = .running) : RunsOn p c c.endEvent := by
  have other : stateOf c p ≠ .stopped := by rw [running]; nofun
  have aside := endEvent_aside other
  exact ⟨aside.state.trans running, by rw [aside.record], by rw [aside.record], (Chip.endEvent_water c).limits, fun j own is => by
    rw [endEvent_jet own other]; exact is⟩

theorem flushWritten_runsOn (running : stateOf c p = .running) (flows : c.limits.site.flushHeight ≠ 0) (z : ZoneId) :
    RunsOn p c (flushWritten c .single z) := by
  have begun : RunsOn p c { c with circ := { c.circ with flush := some (flushRecord c .single z) } } :=
    ⟨running, rfl, rfl, rfl, fun _ _ is => is⟩
  have written : RunsOn p c (Chip.demandWrites { c with circ := { c.circ with flush := some (flushRecord c .single z) } } (c.zoneJets z)
      .flush c.limits.site.flushHeight) :=
    Chip.forEach_keeps (P := RunsOn p c) (c.zoneJets z) (fun k _ d on => on.trans (flushWrite_runsOn on.state flows none k)) begun
  exact written.trans (endEvent_runsOn written.state)

/-- A pump that runs runs on through the tests, where a flush would have a height. -/
theorem settle_runsOn (running : stateOf c p = .running) (flows : c.limits.site.flushHeight ≠ 0) : RunsOn p c (Chip.settle before c) :=
  settle_keeps_states (P := RunsOn p c) (fun _ _ same on => on.trans (.of_undisturbed on.state same))
    (fun d z on => on.trans (flushWritten_runsOn on.state (by rw [on.limits]; exact flows) z)) (.refl running)

/-! ## A faulted pump -/

/-- The pump's record is that of a fault, and it has no entry. -/
def Lost (p : PumpId) (r : Pump) (c : Chip) : Prop := c.pumps[p] = r ∧ ¬Waits p c

section Lost

variable {r : Pump} (fault : r.state = .faulted) (expired : r.idleExpiry = none)

theorem Lost.aside (h : Lost p r c) (aside : Aside p c d) : Lost p r d :=
  ⟨aside.record.trans h.1, fun waits => h.2 (aside.joined.mp waits)⟩

include fault

theorem Lost.state (h : Lost p r c) : stateOf c p = .faulted := by rw [stateOf, h.1]; exact fault

theorem demandAppears_lost (h : Lost p r c) (q : PumpId) (x : Requester) : Lost p r (c.demandAppears q x) := by
  by_cases same : p = q
  · subst same
    have stands : c.demandAppears p x = c := by
      unfold Chip.demandAppears
      rw [show (c.pumps[p]).state = .faulted from h.state fault]
    rw [stands]
    exact h
  · exact h.aside (demandAppears_aside c same x)

include expired

theorem stopRequest_lost (h : Lost p r c) (q : PumpId) : Lost p r (c.stopRequest q) := by
  by_cases same : p = q
  · subst same
    rw [stopRequest_down (.inl (h.state fault))]
    refine ⟨?_, h.2⟩
    rw [updPump_own, h.1, ← expired]
  · exact h.aside (stopRequest_aside c same)

theorem idleOut_lost (h : Lost p r c) (q : PumpId) : Lost p r (c.idleOut q) := by
  by_cases same : p = q
  · subst same
    have down : (c.pumps[p]).state.up = false := by rw [show (c.pumps[p]).state = .faulted from h.state fault]; rfl
    have is : c.idleOut p = c.stopRequest p := if_neg (by rw [down]; exact Bool.false_ne_true)
    rw [is]
    exact stopRequest_lost fault expired h p
  · exact h.aside (idleOut_aside c same)

theorem demandLost_lost (h : Lost p r c) (q : PumpId) (was : Owner) : Lost p r (c.demandLost q was) := by
  unfold Chip.demandLost
  split
  · split
    · exact h
    · split
      · exact idleOut_lost fault expired h q
      · exact stopRequest_lost fault expired h q
  · exact idleOut_lost fault expired h q

theorem demandWrite_lost (h : Lost p r c) (owner : Owner) (demand : Nat) (burstEnd : Option Nat) (k : JetId) :
    Lost p r (c.demandWrite owner demand burstEnd k) := by
  have written : Lost p r (demandWritten c owner demand burstEnd k) :=
    h.aside (.of_same (by rw [demandWritten_pumps]) (by simp [demandWritten]) (by simp [demandWritten]))
  rw [demandWrite_eq]
  split
  · split
    · exact written
    · exact demandAppears_lost fault written _ _
  · split
    · exact demandLost_lost fault expired written _ _
    · exact written

theorem flushWritten_lost (h : Lost p r c) (z : ZoneId) : Lost p r (flushWritten c .single z) := by
  have begun : Lost p r { c with circ := { c.circ with flush := some (flushRecord c .single z) } } := h.aside (.of_same rfl rfl rfl)
  have written : Lost p r (Chip.demandWrites { c with circ := { c.circ with flush := some (flushRecord c .single z) } } (c.zoneJets z)
      .flush c.limits.site.flushHeight) :=
    Chip.forEach_keeps (P := Lost p r) (c.zoneJets z) (fun k _ d lost => demandWrite_lost fault expired lost _ _ none k) begun
  exact written.aside (endEvent_aside (by rw [written.state fault]; nofun))

/-- A pump that has faulted stays so through the tests. -/
theorem settle_lost (h : Lost p r c) : Lost p r (Chip.settle before c) :=
  settle_keeps_states (P := Lost p r) (fun _ _ same lost => lost.aside (.of_same (by rw [same.starts.pumps]) same.starts.queue same.starts.joining))
    (fun _ z lost => flushWritten_lost fault expired lost z) h

end Lost

end Sys2Proof.Proofs.PumpEvents


/-! PROOF. The events that take a pump up and down (O44; R89 to R97). -/

namespace Sys2Proof.Proofs.PumpEvents

open Sys2Proof Sys2Proof.Machine Sys2Proof.Proofs.StepEffects Sys2Proof.Proofs.Water Sys2Proof.Proofs.OnePump
open Sys2Proof.Proofs.Settling Sys2Proof.Proofs.Arbiter Sys2Proof.Proofs.ManualPumps Sys2Proof.Proofs.Circulating
open Sys2Proof.Proofs.Links Sys2Proof.Proofs.Sensing

variable {s : State} {c d e before : Chip} {p q : PumpId} {j k : JetId}

theorem flushStands_debt (h : FlushStands c d) : d.circ.debt = c.circ.debt := by
  obtain ⟨f, circ, -⟩ := h
  rw [circ]

/-! ## Entry into RUNNING (R89, R93) -/

theorem enterRunning_stays (stays : (c.pumps[p]).stopPending = false ∨ c.now < (c.pumps[p]).runMinEnd) :
    c.enterRunning p = c.enterState p .running none := by
  have record := enterState_own c p .running none
  have now := (Chip.enterState_water c p .running none).now
  unfold Chip.enterRunning
  dsimp only
  generalize c.enterState p .running none = d at record now
  refine if_neg fun ⟨pends, late⟩ => ?_
  rw [record] at pends late
  rw [now] at late
  rcases stays with free | early
  · exact Bool.false_ne_true (free.symm.trans pends)
  · exact absurd late (Nat.not_le_of_lt early)

theorem enterRunning_rests (pends : (c.pumps[p]).stopPending = true) (late : (c.pumps[p]).runMinEnd ≤ c.now) :
    c.enterRunning p = (c.enterState p .running none).enterResting p := by
  have record := enterState_own c p .running none
  have now := (Chip.enterState_water c p .running none).now
  unfold Chip.enterRunning
  dsimp only
  generalize c.enterState p .running none = d at record now
  exact if_pos ⟨by rw [record]; exact pends, by rw [record, now]; exact late⟩

/-- A waiting jet opens as its pump enters RUNNING. -/
theorem enterState_opens (own : c.pumpOf j = p) (waits : (c.jets[j]).state = .waiting) :
    ((c.enterState p .running none).jets[j]).state = .opened := by
  have runs : ((c.updPump p fun _ => entered c p .running none).pumps[p]).state = .running := by rw [updPump_own]; rfl
  rw [enterState_jet_settles, if_pos own, Chip.settleJet, if_neg (by rw [waits]; nofun), if_pos runs]

/-- The pump has come up from `c` to `d`: it runs, and the jets that waited are open. -/
structure Proven (p : PumpId) (c d : Chip) : Prop where
  state    : stateOf d p = .running
  setpoint : (d.pumps[p]).setpoint = (c.pumps[p]).setpoint
  granted  : (d.pumps[p]).lastGrant = (c.pumps[p]).lastGrant
  limits   : d.limits = c.limits
  jets     : ∀ j : JetId, c.pumpOf j = p → (c.jets[j]).state = .waiting → (d.jets[j]).state = .opened

theorem enterState_proven (c : Chip) (p : PumpId) : Proven p c (c.enterState p .running none) := by
  have record := enterState_own c p .running none
  exact ⟨by rw [stateOf, record]; rfl, by rw [record]; rfl, by rw [record]; rfl, (Chip.enterState_water c p _ _).limits, fun _ => enterState_opens⟩

theorem Proven.runsOn (h : Proven p c d) (k : RunsOn p d e) : Proven p c e where
  state := k.state
  setpoint := k.setpoint.trans h.setpoint
  granted := k.granted.trans h.granted
  limits := k.limits.trans h.limits
  jets j own waits := k.jets j (by rw [Chip.pumpOf, h.limits]; exact own) (h.jets j own waits)

/-- With no stop pending the pump runs through the tests, whether or not a flush begins. -/
theorem settle_proven (free : (c.pumps[p]).stopPending = false) (kept : c.tableKept) : Proven p c (Chip.settle before (c.enterRunning p)) := by
  have proven := enterState_proven c p
  obtain ⟨-, -, site, -⟩ := kept
  obtain ⟨-, -, -, -, -, -, -, -, -, -, -, -, -, -, height, -⟩ := site
  rw [enterRunning_stays (.inl free)]
  exact proven.runsOn (settle_runsOn proven.state (by rw [proven.limits]; exact Nat.ne_of_gt height))

/-! ## Entry into RESTING (R93, R96) -/

/-- The pump rests, or has faulted on its drive. -/
structure AtRest (p : PumpId) (c d : Chip) : Prop where
  state : (d.pumps[p]).state = if c.lines.drvOk[p] then .resting else .faulted
  free  : (d.pumps[p]).stopPending = false
  idle  : (d.pumps[p]).idleExpiry = none
  off   : (d.pumps[p]).setpoint = 0
  now   : d.now = c.now
  rest  : c.lines.drvOk[p] = true → (d.pumps[p]).restEnd = c.now + (c.limits.pumps[p]).rest * 1000

theorem settle_atRest (paid : c.circ.debt = 0) (before : Chip) : AtRest p c (Chip.settle before (c.enterResting p)) := by
  have moves : WaterMoves noJet anyPump true c (c.enterResting p) := enterResting_moves c p
  have same := (settle_undisturbed (c := c.enterResting p) ((flushStands_debt (waterMoves_flush moves)).trans paid) before).starts
  obtain ⟨state, setpoint, idle, free⟩ := enterResting_leaves c p
  have now := (Chip.enterResting_water c p).now
  refine ⟨by rw [same.pumps, state], by rw [same.pumps, free], by rw [same.pumps, idle], by rw [same.pumps, setpoint],
    same.now.trans now, fun high => ?_⟩
  rw [same.pumps, enterResting_own, driven, if_pos high]
  rfl

/-- A PRIMING pump with a stop pending proves its pressure. -/
theorem settle_pending (pends : (c.pumps[p]).stopPending = true) (paid : c.circ.debt = 0) (before : Chip) :
    (Chip.settle before (c.enterRunning p)).now = c.now ∧
    ((c.pumps[p]).runMinEnd ≤ c.now → AtRest p c (Chip.settle before (c.enterRunning p))) ∧
    (c.now < (c.pumps[p]).runMinEnd → Proven p c (Chip.settle before (c.enterRunning p)) ∧
      ((Chip.settle before (c.enterRunning p)).pumps[p]).stopPending = true) := by
  have proven := enterState_proven c p
  have water := Chip.enterState_water c p .running none
  have debt := (flushStands_debt (.enterState c p .running none)).trans paid
  have late (le : (c.pumps[p]).runMinEnd ≤ c.now) : AtRest p c (Chip.settle before (c.enterRunning p)) := by
    obtain ⟨state, free, idle, off, now, rest⟩ := settle_atRest (p := p) debt before
    rw [enterRunning_rests pends le]
    rw [water.lines, water.now, water.limits] at rest
    exact ⟨by rw [state, water.lines], free, idle, off, now.trans water.now, rest⟩
  have early (lt : c.now < (c.pumps[p]).runMinEnd) : Undisturbed (c.enterState p .running none) (Chip.settle before (c.enterRunning p)) := by
    rw [enterRunning_stays (.inr lt)]
    exact settle_undisturbed debt before
  refine ⟨?_, late, fun lt => ⟨proven.runsOn (.of_undisturbed proven.state (early lt)), ?_⟩⟩
  · rcases Nat.lt_or_ge c.now (c.pumps[p]).runMinEnd with lt | le
    · exact (early lt).starts.now.trans water.now
    · exact (late le).now
  · rw [(early lt).starts.pumps, enterState_own]
    exact pends

/-! ## PRESS_OK_RISE, PRIME_MIN_EXPIRY, PRIME_TIMEOUT -/

/-- PRESS_OK of a pump has risen. -/
def pressed (c : Chip) (p : PumpId) : Chip := { c with lines := { c.lines with pressOk := c.lines.pressOk.set p true } }

/-- The level of PRESS_OK after its edge. -/
def pressLevel (c : Chip) (p : PumpId) (high : Bool) : Chip := { c with lines := { c.lines with pressOk := c.lines.pressOk.set p high } }

theorem pressOkRise_eq (free : c.resetHeld = false) (high : Bool) :
    c.pressOkRise p high = pressLevel (Chip.pressureProven p (pressed c p)) p high := by
  rw [Chip.pressOkRise, Chip.event_free (by exact free)]
  rfl

theorem pressLevel_lines (same : d.lines = (pressed c p).lines) (high : Bool) :
    (pressLevel d p high).lines = { c.lines with pressOk := c.lines.pressOk.set p high } := by
  show { d.lines with pressOk := d.lines.pressOk.set p high } = _
  rw [same]
  show { c.lines with pressOk := (c.lines.pressOk.set p true).set p high } = _
  rw [Vector.set_set]

theorem pressOkRise_early (free : s.chip.resetHeld = false) (high : Bool)
    (early : (s.chip.pumps[p]).state ≠ .priming ∨ s.chip.now < (s.chip.pumps[p]).primeMinEnd) :
    exec (.pressOkRise p high) s = .next { s with chip := pressLevel s.chip p high } := by
  refine act_next (f := Chip.pressOkRise p high) rfl ?_
  have stands : Chip.pressureProven p (pressed s.chip p) = pressed s.chip p :=
    if_neg fun ⟨primes, due⟩ => early.elim (fun no => no primes) fun lt => absurd due (Nat.not_le_of_lt lt)
  rw [pressOkRise_eq free, stands]
  generalize s.chip = c
  show { c with lines := (pressLevel (pressed c p) p high).lines } = _
  rw [pressLevel_lines rfl]
  rfl

theorem pressOkRise_due (free : s.chip.resetHeld = false) (high : Bool) (primes : (s.chip.pumps[p]).state = .priming)
    (due : (s.chip.pumps[p]).primeMinEnd ≤ s.chip.now) : exec (.pressOkRise p high) s =
      .next { s with chip := pressLevel (Chip.settle (pressed s.chip p) ((pressed s.chip p).enterRunning p)) p high } := by
  refine act_next (f := Chip.pressOkRise p high) rfl ?_
  have proven : Chip.pressureProven p (pressed s.chip p) = Chip.settle (pressed s.chip p) ((pressed s.chip p).enterRunning p) :=
    if_pos ⟨primes, due⟩
  rw [pressOkRise_eq free, proven]

theorem primeMinExpiry_high (free : s.chip.resetHeld = false) (primes : (s.chip.pumps[p]).state = .priming)
    (high : s.chip.lines.pressOk[p] = true) : exec (.primeMinExpiry p) s =
      .next { s with chip := s.chip.settle ((s.chip.reach (s.chip.pumps[p]).primeMinEnd).enterRunning p) } := by
  refine event_next (f := Chip.primeMinExpiry p) rfl free ?_
  rw [Chip.primeMinExpiry, if_pos primes]
  exact if_pos high

theorem enterFaulted_lost (c : Chip) (p : PumpId) (cause : PumpFault) :
    Lost p (faulted c.pumps[p] c.now cause) (c.enterFaulted p cause) := by
  refine ⟨enterFaulted_own c p cause, fun ⟨x, waiting, of⟩ => dequeue_gone c p ⟨x, ?_, of⟩⟩
  have queue : (c.enterFaulted p cause).queue = (c.dequeue p).queue := by simp [Chip.enterFaulted, Chip.enterState]
  have joining : (c.enterFaulted p cause).joining = (c.dequeue p).joining := by simp [Chip.enterFaulted, Chip.enterState]
  rw [Waiting, queue, joining] at waiting
  exact waiting

/-- What a fault leaves of a pump, in the tests that follow it too. -/
structure FaultedBy (p : PumpId) (cause : PumpFault) (c d : Chip) : Prop where
  record : d.pumps[p] = faulted c.pumps[p] c.now cause
  queue  : ∀ x ∈ d.queue, x.pump ≠ p
  now    : d.now = c.now
  lines  : d.lines = c.lines
  told   : ∀ m : LinkId, .pumpFault ∈ (d.links[m]).notices

theorem settle_faulted (c : Chip) (p : PumpId) (cause : PumpFault) (before : Chip) :
    FaultedBy p cause c (Chip.settle before (c.enterFaulted p cause)) := by
  have heard : ∀ m : LinkId, .pumpFault ∈ ((c.enterFaulted p cause).links[m]).notices := notify_heard _ _
  have lost := settle_lost (before := before) rfl rfl (enterFaulted_lost c p cause)
  have water := Chip.enterFaulted_water c p cause
  have only := Chip.settle_fountain (c.enterFaulted p cause) before
  obtain ⟨record, gone⟩ := lost
  exact ⟨record, fun x mem of => gone ⟨x, List.mem_append_left _ mem, of⟩, only.now.trans water.now, only.lines.trans water.lines,
    settle_told before _ heard⟩

end Sys2Proof.Proofs.PumpEvents


/-! PROOF. The idle expiry, the end of the rest and a drive fault; the events of the pumps (O44; R92 to R97). -/

namespace Sys2Proof.Proofs.PumpEvents

open Sys2Proof Sys2Proof.Machine Sys2Proof.Proofs.StepEffects Sys2Proof.Proofs.Water Sys2Proof.Proofs.OnePump
open Sys2Proof.Proofs.Settling Sys2Proof.Proofs.Arbiter Sys2Proof.Proofs.ManualPumps Sys2Proof.Proofs.Circulating
open Sys2Proof.Proofs.Links Sys2Proof.Proofs.Sensing

variable {s : State} {c d e before : Chip} {p q : PumpId} {j k : JetId}

/-! ## IDLE_EXPIRY (R95) -/

/-- A stop request ends the idle time, whatever the pump's state. -/
theorem stopRequest_idle (c : Chip) (p : PumpId) : ((c.stopRequest p).pumps[p]).idleExpiry = none := by
  have pends (up : (c.pumps[p]).state = .priming ∨ ((c.pumps[p]).state = .running ∧ c.now < (c.pumps[p]).runMinEnd)) :
      ((c.stopRequest p).pumps[p]).idleExpiry = none := by rw [stopRequest_pends up, updPump_own]
  have down (rests : (c.pumps[p]).state = .stopped ∨ (c.pumps[p]).state = .resting) :
      ((c.stopRequest p).pumps[p]).idleExpiry = none := by
    have left : ∀ d : Chip, (d.dequeue p).pumps = d.pumps := fun _ => rfl
    rw [stopRequest_waiting rests, left, updPump_own]
  have out (gone : (c.pumps[p]).state = .faulted ∨ (c.pumps[p]).state = .outOfService) :
      ((c.stopRequest p).pumps[p]).idleExpiry = none := by rw [stopRequest_down gone, updPump_own]
  cases state : (c.pumps[p]).state with
  | stopped => exact down (.inl state)
  | resting => exact down (.inr state)
  | priming => exact pends (.inl state)
  | running =>
    rcases Nat.lt_or_ge c.now (c.pumps[p]).runMinEnd with early | late
    · exact pends (.inr ⟨state, early⟩)
    · rw [stopRequest_rests state late]
      exact (enterResting_leaves _ p).2.2.1
  | faulted => exact out (.inl state)
  | outOfService => exact out (.inr state)

/-- What a stop request at the idle expiry leaves of a pump. -/
theorem settle_stopped (paid : c.circ.debt = 0) (before : Chip) :
    (Chip.settle before (c.stopRequest p)).now = c.now ∧ ((Chip.settle before (c.stopRequest p)).pumps[p]).idleExpiry = none ∧
    (stateOf c p = .priming ∨ (stateOf c p = .running ∧ c.now < (c.pumps[p]).runMinEnd) →
      stateOf (Chip.settle before (c.stopRequest p)) p = stateOf c p ∧
      ((Chip.settle before (c.stopRequest p)).pumps[p]).stopPending = true) ∧
    (stateOf c p = .running → (c.pumps[p]).runMinEnd ≤ c.now →
      stateOf (Chip.settle before (c.stopRequest p)) p = if c.lines.drvOk[p] then .resting else .faulted) := by
  have moves : WaterMoves noJet anyPump true c (c.stopRequest p) := stopRequest_moves c p
  have same := (settle_undisturbed ((flushStands_debt (waterMoves_flush moves)).trans paid) before).starts
  refine ⟨same.now.trans (Chip.stopRequest_water c p).now, by rw [same.pumps]; exact stopRequest_idle c p, fun up => ?_, fun running late => ?_⟩
  · rw [stateOf, same.pumps, stopRequest_pends up, updPump_own]
    exact ⟨rfl, rfl⟩
  · have leaves := (enterResting_leaves (c.updPump p fun q => { q with idleExpiry := none }) p).1
    rw [stateOf, same.pumps, stopRequest_rests running late]
    exact leaves

/-! ## REST_END (R96) -/

/-- The pump is STOPPED, its entry waiting where one was due, or it has been granted its start at this moment. -/
def Returns (p : PumpId) (now : Nat) (due : Prop) (c : Chip) : Prop :=
  c.lines.drvOk[p] = true ∧ c.now = now ∧
    ((stateOf c p = .stopped ∧ (due → Waits p c)) ∨ (stateOf c p = .priming ∧ (c.pumps[p]).lastGrant = some now))

theorem testQueue_returns {now : Nat} {due : Prop} (h : Returns p now due c) : Returns p now due c.testQueue := by
  refine testQueue_keeps (P := Returns p now due) (fun c x grantable ⟨high, at_now, stood⟩ => ?_) h
  have water := Chip.grant_water c x
  refine ⟨by rw [water.lines]; exact high, water.now.trans at_now, ?_⟩
  by_cases own : p = x.pump
  · subst own
    rw [stateOf, grant_own, driven, if_pos high, ← at_now]
    exact .inr ⟨rfl, rfl⟩
  · have aside := grant_aside c x own
    rw [aside.state, aside.record]
    exact stood.imp_left (And.imp_right fun joined is => aside.joined.mpr (joined is))

theorem enterStopped_faulted (low : c.lines.drvOk[p] = false) :
    ((c.enterStopped p).pumps[p]).faultCause = some .drive ∧ stateOf (c.enterStopped p) p = .faulted ∧
    ∀ m : LinkId, .pumpFault ∈ ((c.enterStopped p).links[m]).notices := by
  have stopped : stateOf (c.enterState p .stopped none) p = .stopped := by rw [stateOf, enterState_own]; rfl
  have faulted : (c.enterState p .stopped none).watchDrive p = (c.enterState p .stopped none).enterFaulted p .drive :=
    watchDrive_low (by rw [Watched, stopped]; exact ⟨nofun, nofun⟩) (by rw [(Chip.enterState_water c p _ _).lines]; exact low)
  have record := enterFaulted_own (c.enterState p .stopped none) p .drive
  have told : ∀ m : LinkId, .pumpFault ∈ (((c.enterState p .stopped none).enterFaulted p .drive).links[m]).notices := notify_heard _ _
  have stays : c.enterStopped p = (c.enterState p .stopped none).enterFaulted p .drive := by
    unfold Chip.enterStopped
    rw [faulted]
    generalize (c.enterState p .stopped none).enterFaulted p .drive = d at record
    exact if_neg fun ⟨state, _⟩ => by rw [record] at state; exact nomatch state
  rw [stays, stateOf, record]
  exact ⟨rfl, rfl, told⟩

theorem enterStopped_returns (high : c.lines.drvOk[p] = true) :
    Returns p c.now ((c.pumps[p]).intent = .run ∧ c.mode.mode ≠ .tripped) (c.enterStopped p) := by
  have water := Chip.enterState_water c p .stopped none
  have record := enterState_own c p .stopped none
  have stopped : stateOf (c.enterState p .stopped none) p = .stopped := by rw [stateOf, record]; rfl
  have intent : ((c.enterState p .stopped none).pumps[p]).intent = (c.pumps[p]).intent := by rw [record]; rfl
  have drive : (c.enterState p .stopped none).lines.drvOk[p] = true := by rw [water.lines]; exact high
  have mode := water.mode
  have now := water.now
  unfold Chip.enterStopped
  rw [watchDrive_high drive]
  generalize c.enterState p .stopped none = d at stopped intent drive mode now
  dsimp only
  split
  next =>
    have asked := Chip.startRequest_water d p (d.ownRequester p)
    refine ⟨by rw [asked.lines]; exact drive, asked.now.trans now, .inl ⟨?_, fun ⟨_, tripped⟩ => ?_⟩⟩
    · exact (startRequest_standing (p := p) (c := d) (q := p) (d.ownRequester p)).state.trans stopped
    · exact startRequest_joins (by rw [mode]; exact tripped) (.inl stopped) _
  next no =>
    exact ⟨drive, now, .inl ⟨stopped, fun ⟨run, _⟩ => absurd ⟨stopped, hasRunDemand_iff.mpr (.inl (intent.trans run))⟩ no⟩⟩

theorem endEvent_returns {now : Nat} {due : Prop} (h : Returns p now due c) : Returns p now due c.endEvent := by
  obtain ⟨drive, at_now, stood⟩ := h
  have aside := collected_aside p c
  refine testQueue_returns (c := collected c) ⟨drive, at_now, ?_⟩
  rw [aside.state, aside.record]
  exact stood.imp_left (And.imp_right fun joined is => aside.joined.mpr (joined is))

theorem restOver_faulted (low : c.lines.drvOk[p] = false) :
    stateOf (c.enterStopped p).endEvent p = .faulted ∧ ((c.enterStopped p).endEvent.pumps[p]).faultCause = some .drive ∧
    ∀ m : LinkId, .pumpFault ∈ (((c.enterStopped p).endEvent).links[m]).notices := by
  obtain ⟨cause, state, told⟩ := enterStopped_faulted (p := p) low
  have aside : Aside p (c.enterStopped p) (c.enterStopped p).endEvent := endEvent_aside (by rw [state]; nofun)
  have ends : WaterMoves noJet anyPump true (c.enterStopped p) (c.enterStopped p).endEvent := endEvent_moves (.refl _)
  exact ⟨aside.state.trans state, by rw [aside.record]; exact cause, fun m => Noted.keeps (waterMoves_noted ends) told m⟩

/-! ## DRV_OK_FALL (R97) -/

/-- DRV_OK of a pump has fallen. -/
def driveFell (c : Chip) (p : PumpId) : Chip := { c with lines := { c.lines with drvOk := c.lines.drvOk.set p false } }

/-- The level of DRV_OK after its edge. -/
def driveLevel (c : Chip) (p : PumpId) (high : Bool) : Chip := { c with lines := { c.lines with drvOk := c.lines.drvOk.set p high } }

theorem drvOkFall_eq (free : c.resetHeld = false) (high : Bool) :
    c.drvOkFall p high = driveLevel (Chip.settle (driveFell c p) ((driveFell c p).watchDrive p)) p high := by
  rw [Chip.drvOkFall, Chip.event_free (by exact free)]
  rfl

theorem driveLevel_lines (same : d.lines = (driveFell c p).lines) (high : Bool) :
    (driveLevel d p high).lines = { c.lines with drvOk := c.lines.drvOk.set p high } := by
  show { d.lines with drvOk := d.lines.drvOk.set p high } = _
  rw [same]
  show { c.lines with drvOk := (c.lines.drvOk.set p false).set p high } = _
  rw [Vector.set_set]

theorem driveFell_low (c : Chip) (p : PumpId) : (driveFell c p).lines.drvOk[p] = false := Vector.getElem_set_self _

/-! ## The obligation -/

section Parts

variable (free : s.chip.resetHeld = false)
include free

theorem pressOkRise_runs (high : Bool) (primes : (s.chip.pumps[p]).state = .priming) (due : (s.chip.pumps[p]).primeMinEnd ≤ s.chip.now)
    (none_pends : (s.chip.pumps[p]).stopPending = false) (kept : s.chip.tableKept) :
    ∃ d : Chip, exec (.pressOkRise p high) s = .next { s with chip := d } ∧ Proven p s.chip d ∧
      d.lines = { s.chip.lines with pressOk := s.chip.lines.pressOk.set p high } := by
  have proven : Proven p (pressed s.chip p) (Chip.settle (pressed s.chip p) ((pressed s.chip p).enterRunning p)) :=
    settle_proven none_pends kept
  have lines := (Chip.settle_fountain ((pressed s.chip p).enterRunning p) (pressed s.chip p)).lines.trans
    (Chip.enterRunning_water (pressed s.chip p) p).lines
  refine ⟨_, pressOkRise_due free high primes due, ?_, pressLevel_lines lines high⟩
  generalize Chip.settle _ _ = d at proven
  obtain ⟨state, setpoint, granted, limits, jets⟩ := proven
  exact ⟨state, setpoint, granted, limits, jets⟩

theorem primeMinExpiry_runs (primes : (s.chip.pumps[p]).state = .priming) (high : s.chip.lines.pressOk[p] = true)
    (none_pends : (s.chip.pumps[p]).stopPending = false) (kept : s.chip.tableKept) :
    ∃ d : Chip, exec (.primeMinExpiry p) s = .next { s with chip := d } ∧ Proven p s.chip d ∧
      d.now = max s.chip.now (s.chip.pumps[p]).primeMinEnd := by
  have proven : Proven p (s.chip.reach (s.chip.pumps[p]).primeMinEnd)
    (Chip.settle s.chip ((s.chip.reach (s.chip.pumps[p]).primeMinEnd).enterRunning p)) := settle_proven none_pends kept
  have now := (Chip.settle_fountain ((s.chip.reach (s.chip.pumps[p]).primeMinEnd).enterRunning p) s.chip).now.trans
    ((Chip.enterRunning_water (s.chip.reach (s.chip.pumps[p]).primeMinEnd) p).now.trans (Chip.reach_now _ _))
  obtain ⟨state, setpoint, granted, limits, jets⟩ := proven
  exact ⟨_, primeMinExpiry_high free primes high, ⟨state, setpoint, granted, limits, jets⟩, now⟩

theorem primeTimeout_faults (primes : (s.chip.pumps[p]).state = .priming) :
    ∃ d : Chip, exec (.primeTimeout p) s = .next { s with chip := d } ∧
      FaultedBy p .primeTimeout (s.chip.reach (s.chip.pumps[p]).primeMaxEnd) d :=
  ⟨_, event_next (f := Chip.primeTimeout p) rfl free (if_pos primes), settle_faulted _ p _ _⟩

theorem primed_out (not_priming : (s.chip.pumps[p]).state ≠ .priming) :
    exec (.primeMinExpiry p) s = .next s ∧ exec (.primeTimeout p) s = .next s :=
  ⟨event_next (f := Chip.primeMinExpiry p) rfl free (if_neg not_priming), event_next (f := Chip.primeTimeout p) rfl free (if_neg not_priming)⟩

theorem primeMinExpiry_low (primes : (s.chip.pumps[p]).state = .priming) (low : s.chip.lines.pressOk[p] = false) :
    exec (.primeMinExpiry p) s = .next { s with chip := s.chip.reach (s.chip.pumps[p]).primeMinEnd } := by
  refine event_next (f := Chip.primeMinExpiry p) rfl free ?_
  rw [Chip.primeMinExpiry, if_pos primes]
  exact if_neg (by rw [low]; exact Bool.false_ne_true)

end Parts

end Sys2Proof.Proofs.PumpEvents


/-! PROOF. The events that take a pump up and down, one by one (O44; R89 to R97). -/

namespace Sys2Proof.Proofs.PumpEvents

open Sys2Proof Sys2Proof.Machine Sys2Proof.Proofs.StepEffects Sys2Proof.Proofs.Water Sys2Proof.Proofs.OnePump
open Sys2Proof.Proofs.Settling Sys2Proof.Proofs.Arbiter Sys2Proof.Proofs.ManualPumps Sys2Proof.Proofs.Circulating
open Sys2Proof.Proofs.Links Sys2Proof.Proofs.Sensing

variable {s : State} {c d e before : Chip} {p q : PumpId} {j k : JetId}

/-- A PRIMING pump with a stop pending that proves its pressure: the two events that can bring the proof. -/
theorem proven_pending (free : s.chip.resetHeld = false) (paid : s.chip.circ.debt = 0) (primes : (s.chip.pumps[p]).state = .priming)
    (pends : (s.chip.pumps[p]).stopPending = true) {i : Instr}
    (proof : ((s.chip.pumps[p]).primeMinEnd ≤ s.chip.now ∧ ∃ high : Bool, i = .pressOkRise p high) ∨
      (s.chip.lines.pressOk[p] = true ∧ i = .primeMinExpiry p)) :
    ∃ d : Chip, exec i s = .next { s with chip := d } ∧ d.now = max s.chip.now (s.chip.pumps[p]).primeMinEnd ∧
      ((s.chip.pumps[p]).runMinEnd ≤ d.now →
        (d.pumps[p]).state = (if s.chip.lines.drvOk[p] then .resting else .faulted) ∧
        (d.pumps[p]).stopPending = false ∧ (d.pumps[p]).setpoint = 0 ∧
        (s.chip.lines.drvOk[p] = true → (d.pumps[p]).restEnd = d.now + (s.chip.limits.pumps[p]).rest * 1000)) ∧
      (d.now < (s.chip.pumps[p]).runMinEnd →
        (d.pumps[p]).state = .running ∧ (d.pumps[p]).stopPending = true ∧
        (d.pumps[p]).setpoint = (s.chip.pumps[p]).setpoint ∧
        ∀ j : JetId, s.chip.pumpOf j = p → (s.chip.jets[j]).state = .waiting → (d.jets[j]).state = .opened) := by
  rcases proof with ⟨due, high, rfl⟩ | ⟨high, rfl⟩
  · obtain ⟨now, late, early⟩ := settle_pending (c := pressed s.chip p) pends paid (pressed s.chip p)
    have here : (pressed s.chip p).now = s.chip.now := rfl
    refine ⟨_, pressOkRise_due free high primes due, ?_⟩
    generalize Chip.settle _ _ = d at now late early
    have at_now : (pressLevel d p high).now = s.chip.now := now
    rw [at_now]
    refine ⟨(Nat.max_eq_left due).symm, fun le => ?_, fun lt => ?_⟩
    · obtain ⟨state, none_pends, -, off, -, rest⟩ := late le
      exact ⟨state, none_pends, off, rest⟩
    · obtain ⟨⟨state, setpoint, -, -, jets⟩, still⟩ := early lt
      exact ⟨state, still, setpoint, jets⟩
  · obtain ⟨now, late, early⟩ := settle_pending (c := s.chip.reach (s.chip.pumps[p]).primeMinEnd) pends paid s.chip
    refine ⟨_, primeMinExpiry_high free primes high, ?_⟩
    generalize Chip.settle _ _ = d at now late early
    rw [now]
    refine ⟨Chip.reach_now _ _, fun le => ?_, fun lt => ?_⟩
    · obtain ⟨state, none_pends, -, off, -, rest⟩ := late le
      exact ⟨state, none_pends, off, rest⟩
    · obtain ⟨⟨state, setpoint, -, -, jets⟩, still⟩ := early lt
      exact ⟨state, still, setpoint, jets⟩

theorem runMinExpiry_stands (free : s.chip.resetHeld = false)
    (none_due : (s.chip.pumps[p]).state ≠ .running ∨ (s.chip.pumps[p]).stopPending = false) : exec (.runMinExpiry p) s = .next s :=
  event_next (f := Chip.runMinExpiry p) rfl free
    (if_neg fun ⟨running, pends⟩ => none_due.elim (fun no => no running) fun no => Bool.false_ne_true (no.symm.trans pends))

theorem runMinExpiry_rests (free : s.chip.resetHeld = false) (paid : s.chip.circ.debt = 0) (running : (s.chip.pumps[p]).state = .running)
    (pends : (s.chip.pumps[p]).stopPending = true) : ∃ d : Chip, exec (.runMinExpiry p) s = .next { s with chip := d } ∧
      AtRest p (s.chip.reach (s.chip.pumps[p]).runMinEnd) d :=
  ⟨_, event_next (f := Chip.runMinExpiry p) rfl free (if_pos ⟨running, pends⟩), settle_atRest (c := s.chip.reach (s.chip.pumps[p]).runMinEnd) paid s.chip⟩

theorem idleExpiry_stands (free : s.chip.resetHeld = false) (unset : (s.chip.pumps[p]).idleExpiry = none) :
    exec (.idleExpiry p) s = .next s :=
  event_next (f := Chip.idleReached p) rfl free (by rw [Chip.idleReached, unset])

theorem idleExpiry_stops (free : s.chip.resetHeld = false) (paid : s.chip.circ.debt = 0) {t : Nat}
    (expiry : (s.chip.pumps[p]).idleExpiry = some t) :
    ∃ d : Chip, exec (.idleExpiry p) s = .next { s with chip := d } ∧ d.now = max s.chip.now t ∧
      (d.pumps[p]).idleExpiry = none ∧
      ((s.chip.pumps[p]).state = .priming → (d.pumps[p]).state = .priming ∧ (d.pumps[p]).stopPending = true) ∧
      ((s.chip.pumps[p]).state = .running → d.now < (s.chip.pumps[p]).runMinEnd →
        (d.pumps[p]).state = .running ∧ (d.pumps[p]).stopPending = true) ∧
      ((s.chip.pumps[p]).state = .running → (s.chip.pumps[p]).runMinEnd ≤ d.now →
        (d.pumps[p]).state = if s.chip.lines.drvOk[p] then .resting else .faulted) := by
  obtain ⟨now, idle, up, late⟩ := settle_stopped (c := s.chip.reach t) (p := p) paid s.chip
  have runs : exec (.idleExpiry p) s = .next { s with chip := s.chip.settle ((s.chip.reach t).stopRequest p) } :=
    event_next (f := Chip.idleReached p) rfl free (by rw [Chip.idleReached, expiry])
  refine ⟨_, runs, now.trans (Chip.reach_now _ _), idle, fun priming => ?_, fun running early => ?_, fun running le => ?_⟩
  · obtain ⟨state, pends⟩ := up (.inl priming)
    exact ⟨state.trans priming, pends⟩
  · rw [now] at early
    obtain ⟨state, pends⟩ := up (.inr ⟨running, early⟩)
    exact ⟨state.trans running, pends⟩
  · rw [now] at le
    exact late running le

theorem restEnd_stands (free : s.chip.resetHeld = false) (up : (s.chip.pumps[p]).state ≠ .resting) : exec (.restEnd p) s = .next s :=
  event_next (f := Chip.restOver p) rfl free (if_neg up)

theorem restEnd_returns (free : s.chip.resetHeld = false) (rests : (s.chip.pumps[p]).state = .resting) :
    ∃ d : Chip, exec (.restEnd p) s = .next { s with chip := d } ∧ d.now = max s.chip.now (s.chip.pumps[p]).restEnd ∧
      (s.chip.lines.drvOk[p] = false →
        (d.pumps[p]).state = .faulted ∧ (d.pumps[p]).faultCause = some .drive ∧ ∀ m : LinkId, .pumpFault ∈ (d.links[m]).notices) ∧
      (s.chip.lines.drvOk[p] = true →
        ((d.pumps[p]).state = .stopped ∧
          ((s.chip.pumps[p]).intent = .run → s.chip.mode.mode ≠ .tripped → ∃ e ∈ d.queue, e.pump = p)) ∨
        ((d.pumps[p]).state = .priming ∧ (d.pumps[p]).lastGrant = some d.now)) := by
  have now := (Chip.endEvent_water ((s.chip.reach (s.chip.pumps[p]).restEnd).enterStopped p)).now.trans
    (Chip.enterStopped_water (s.chip.reach (s.chip.pumps[p]).restEnd) p).now
  refine ⟨_, event_next (f := Chip.restOver p) rfl free (if_pos rests), now.trans (Chip.reach_now _ _), fun low => restOver_faulted low,
    fun high => ?_⟩
  obtain ⟨-, at_now, stood⟩ := endEvent_returns (enterStopped_returns (c := s.chip.reach (s.chip.pumps[p]).restEnd) (p := p) high)
  rw [at_now]
  exact stood.imp_left (And.imp_right fun joined run untripped => waits_endEvent.mp (joined ⟨run, untripped⟩))

theorem drvOkFall_runs (free : s.chip.resetHeld = false) (high : Bool) : exec (.drvOkFall p high) s = .next { s with
      chip := driveLevel (Chip.settle (driveFell s.chip p) ((driveFell s.chip p).watchDrive p)) p high } :=
  act_next (f := Chip.drvOkFall p high) rfl (drvOkFall_eq free high)

/-- A pump that is out of service or has faulted already is left as it stands. -/
theorem drvOkFall_unwatched (free : s.chip.resetHeld = false) (paid : s.chip.circ.debt = 0) (high : Bool)
    (out : (s.chip.pumps[p]).state = .outOfService ∨ (s.chip.pumps[p]).state = .faulted) :
    ∃ d : Chip, exec (.drvOkFall p high) s = .next { s with chip := d } ∧
      d.lines = { s.chip.lines with drvOk := s.chip.lines.drvOk.set p high } ∧ d.pumps[p] = s.chip.pumps[p] := by
  have stands : (driveFell s.chip p).watchDrive p = driveFell s.chip p := watchDrive_unwatched (c := driveFell s.chip p) out
  have same := (settle_undisturbed (c := driveFell s.chip p) paid (driveFell s.chip p)).starts
  refine ⟨_, drvOkFall_runs free high, ?_⟩
  rw [stands]
  generalize Chip.settle _ _ = d at same
  have pump : (driveLevel d p high).pumps[p] = d.pumps[p] := rfl
  refine ⟨driveLevel_lines same.lines high, ?_⟩
  rw [pump, same.pumps]
  rfl

theorem drvOkFall_faults (free : s.chip.resetHeld = false) (high : Bool) (watched : Watched s.chip p) :
    ∃ d : Chip, exec (.drvOkFall p high) s = .next { s with chip := d } ∧
      d.lines = { s.chip.lines with drvOk := s.chip.lines.drvOk.set p high } ∧
      d.pumps[p] = faulted s.chip.pumps[p] s.chip.now .drive ∧ (∀ e ∈ d.queue, e.pump ≠ p) ∧
      ∀ m : LinkId, .pumpFault ∈ (d.links[m]).notices := by
  have falls : (driveFell s.chip p).watchDrive p = (driveFell s.chip p).enterFaulted p .drive :=
    watchDrive_low (c := driveFell s.chip p) watched (driveFell_low _ _)
  obtain ⟨record, gone, -, lines, told⟩ := settle_faulted (driveFell s.chip p) p .drive (driveFell s.chip p)
  refine ⟨_, drvOkFall_runs free high, ?_⟩
  rw [falls]
  generalize Chip.settle _ _ = d at record gone lines told
  exact ⟨driveLevel_lines lines high, record, gone, told⟩

/-- Settles O44. -/
theorem pumpsStartAndStop : Obligations.PumpsStartAndStop := by
  unfold Obligations.PumpsStartAndStop
  refine ⟨fun s p free => ⟨fun high => ⟨pressOkRise_early free high, fun primes due none_pends kept => ?_⟩, primed_out free,
      fun primes => ⟨primeMinExpiry_low free primes, fun high none_pends kept => ?_, ?_⟩⟩,
    fun s p free paid => ⟨fun primes pends i proof => proven_pending free paid primes pends proof, runMinExpiry_stands free,
      fun running pends => ?_, idleExpiry_stands free, fun t => idleExpiry_stops free paid, restEnd_stands free, restEnd_returns free,
      fun high => ?_⟩⟩
  · obtain ⟨d, runs, ⟨state, setpoint, granted, limits, jets⟩, lines⟩ := pressOkRise_runs free high primes due none_pends kept
    exact ⟨d, runs, state, setpoint, granted, lines, limits, jets⟩
  · obtain ⟨d, runs, proven, now⟩ := primeMinExpiry_runs free primes high none_pends kept
    exact ⟨d, runs, proven.state, now, proven.jets⟩
  · obtain ⟨d, runs, record, queue, now, -, told⟩ := primeTimeout_faults free primes
    exact ⟨d, runs, by rw [record]; rfl, queue, now.trans (Chip.reach_now _ _), told⟩
  · obtain ⟨d, runs, state, none_pends, -, off, now, rest⟩ := runMinExpiry_rests free paid running pends
    exact ⟨d, runs, state, none_pends, off, now.trans (Chip.reach_now _ _), fun high => by rw [rest high, now]; rfl⟩
  · by_cases out : (s.chip.pumps[p]).state = .outOfService ∨ (s.chip.pumps[p]).state = .faulted
    · obtain ⟨d, runs, lines, same⟩ := drvOkFall_unwatched free paid high out
      exact ⟨d, runs, lines, by rw [same], by rw [same], by rw [same], fun _ => same,
        fun well serves => absurd out (not_or.mpr ⟨serves, well⟩)⟩
    · obtain ⟨d, runs, lines, record, queue, told⟩ := drvOkFall_faults free high (not_or.mp out)
      exact ⟨d, runs, lines, by rw [record]; rfl, by rw [record]; rfl, by rw [record]; rfl, fun is => absurd is.symm out,
        fun _ _ => ⟨by rw [record]; rfl, queue, told⟩⟩

end Sys2Proof.Proofs.PumpEvents


/-! PROOF. A gust, the hold swap and the end of a hold (O18; R50 to R54, R148). -/

namespace Sys2Proof.Proofs.WindHold

open Sys2Proof Sys2Proof.Machine Sys2Proof.Proofs.StepEffects Sys2Proof.Proofs.Water Sys2Proof.Proofs.Orders
open Sys2Proof.Proofs.Settling Sys2Proof.Proofs.DueSteps Sys2Proof.Proofs.WaterSteps Sys2Proof.Proofs.Sensing Sys2Proof.Proofs.Links

variable {s : State} {c d e before : Chip} {i n : StepIndex} {k : PageId} {raw : RawStep} {due : Nat} {j : JetId}

/-! ## The hold swap (R50) -/

/-- The show as the hold swap leaves it, before a hold step executes. -/
def swapped (c : Chip) (i : StepIndex) : Chip :=
  Chip.notify (Chip.notify { c with run := { c.run with
    cue := .holding
    shadow := some c.run.counters
    holdEntry := some c.clock.value
    holdDue := some (c.clock.value + stepDelay (c.stepAt i)) } } .showState) .hold

theorem holdSwap_eq (c : Chip) (i : StepIndex) : c.holdSwap i = (swapped c i).runSteps := rfl

theorem swapped_noted (c : Chip) (i : StepIndex) : Noted [.showState, .hold] c (swapped c i) :=
  .trans (.trans (.of_links rfl) (.notify (by simp) _)) (.notify (by simp) _)

theorem swapped_heard (c : Chip) (i : StepIndex) {x : Notice} (mem : x ∈ [Notice.showState, .hold]) (m : LinkId) :
    x ∈ ((swapped c i).links[m]).notices := by
  rcases List.mem_pair.mp mem with rfl | rfl
  · exact Noted.keeps (Noted.notify (may := [.hold]) (by simp) _) (notify_heard _ _) m
  · exact notify_heard _ _ m

/-- The hold cursor stands on a step due later: nothing executes. -/
theorem runCursors_holding (cue : c.run.cue = .holding) (ahead : ∀ m ∈ c.run.holdDue, c.clock.value < m) (fuel : Nat) :
    Chip.runCursors fuel c = c := by
  cases fuel with
  | zero => rfl
  | succ n =>
    unfold Chip.runCursors
    rw [cue]
    dsimp only
    split
    next due _ is => exact if_neg (Nat.not_le.mpr (ahead _ is))
    next => rfl

/-- A hold step due now executes, and the next is due later. -/
theorem runSteps_hold (cue : c.run.cue = .holding) (cursor : c.run.holdCursor = some i) (isDue : c.run.holdDue = some c.clock.value)
    (next_cue : (c.executeHold i c.clock.value).run.cue = .holding)
    (ahead : ∀ m ∈ (c.executeHold i c.clock.value).run.holdDue, (c.executeHold i c.clock.value).clock.value < m) :
    c.runSteps = c.executeHold i c.clock.value := by
  have active : c.activeDue = c.clock.value := by rw [Chip.activeDue, if_pos cue, isDue]; rfl
  have fuel : stepBound c.clock.value c.clock.value = 1023 + 1 := by rw [stepBound]; omega
  rw [Chip.runSteps, active, fuel, Chip.runCursors, cue, cursor, isDue]
  dsimp only
  rw [if_pos le_rfl, runCursors_holding next_cue ahead]

theorem stepActs_always (always : stepByte raw 1 = 0) : c.stepActs raw = true := by
  have condition : stepCondition raw = some .always := by
    unfold stepCondition
    exact if_pos always
  rw [Chip.stepActs, condition]

/-- A JET step under the hold cursor: its effect, and the cursor on the next index. -/
theorem executeHold_jet (live : c.run.livePage = some k) (is : stepKind (c.pages[k]).steps[i] = some .jet)
    (always : stepByte (c.pages[k]).steps[i] 1 = 0) (next : n.val = i.val + 1) : c.executeHold i due =
      (c.stepEffect (c.pages[k]).steps[i] due).placeHold n (due + stepDelay (c.pages[k]).steps[n]) := by
  have at_step := stepAt_live live i
  have acts : c.stepActs (c.stepAt i) = true := by rw [at_step]; exact stepActs_always always
  have go : c.arrival i due (c.stepActs (c.stepAt i)) true = .arrive n (due + stepDelay (c.pages[k]).steps[n]) := by
    rw [acts, arrival_falls (by rw [at_step]; exact is) (.inr (.inl rfl)), fallFrom_next live next]
  rw [executeHold_arrive go, if_pos acts, at_step]

theorem imageJets_pumps (c : Chip) (js : List JetId) (demand : Nat) (burstEnd : Option Nat) :
    (c.imageJets js demand burstEnd).image.pumps = c.image.pumps := by
  obtain ⟨jets, is⟩ : ∃ jets, c.imageJets js demand burstEnd = { c with image := { c.image with jets := jets } } := ⟨_, rfl⟩
  rw [is]

theorem jetStep_imagePumps (is : stepKind raw = some .jet) : (c.stepEffect raw due).image.pumps = c.image.pumps := by
  rw [stepEffect_jet is, ((Chip.demandWrites_water _ _ _ _).trans (Chip.endEvent_water _)).image, imageJets_pumps]

/-! ## A gust at the close of the gate (R148) -/

/-- The part at the close of the gate, the gust noticed. -/
def gusty (c : Chip) : Chip := (gateClosed c).notify .gust

theorem gusty_noted (c : Chip) : Noted [.gust] c (gusty c) := .trans (.of_links rfl) (.notify (by simp) _)

section Gust

variable (free : s.chip.resetHeld = false)
  (strong : s.chip.limits.site.gust ≤ min 999 (s.chip.sense.pulses * s.chip.limits.site.windScale / 16))
  (fresh : ∀ u : Nat, s.chip.sense.previous = some u → u < s.chip.limits.site.gust)
include free strong fresh

theorem windGateClose_gust : exec .windGateClose s = .next { s with chip := Chip.settle s.chip (gusty s.chip).gustToShow } := by
  refine event_next (f := Chip.closeGate) rfl free ?_
  rw [closeGate_eq, if_pos ((gustNow_iff s.chip).mpr ⟨strong, fresh⟩)]
  rfl

theorem windGateClose_swap (running : s.chip.run.cue = .running) (armed : s.chip.run.holdCursor = some i) :
    exec .windGateClose s = .next { s with chip := Chip.settle s.chip (swapped (gusty s.chip) i).runSteps } := by
  have swap : (gusty s.chip).gustToShow = (swapped (gusty s.chip) i).runSteps := by
    rw [Chip.gustToShow, show (gusty s.chip).run.cue = .running from running, show (gusty s.chip).run.holdCursor = some i from armed]
    rfl
  rw [windGateClose_gust free strong fresh, swap]

end Gust

/-- With the first hold step due later the swap itself is all. -/
theorem settle_swapped (mode : c.mode.mode = .showMode) (live : c.run.livePage = some k)
    (delayed : 0 < stepDelay (c.pages[k]).steps[i]) (before : Chip) :
    Chip.settle before (swapped (gusty c) i).runSteps =
      { swapped (gusty c) i with mode := { c.mode with dormancy := none } } := by
  have later : ∀ m ∈ (swapped (gusty c) i).run.holdDue, (swapped (gusty c) i).clock.value < m := by
    intro m mem
    have is : c.clock.value + stepDelay ((gusty c).stepAt i) = m := Option.some.inj mem
    rw [stepAt_live (c := gusty c) live] at is
    rw [← is]
    exact Nat.lt_add_of_pos_right delayed
  rw [Chip.runSteps, runCursors_holding rfl later]
  exact settle_attended (c := swapped (gusty c) i) (.inl nofun) (.inl nofun) (by rw [show (swapped (gusty c) i).mode.mode = _ from mode]; nofun)
    (by rw [show (swapped (gusty c) i).mode.mode = _ from mode]; nofun)

theorem flows_run (h : Flows c d) : d.run = c.run := by rw [h.frame]
theorem flows_clock (h : Flows c d) : d.clock = c.clock := by rw [h.frame]
theorem flows_mode (h : Flows c d) : d.mode = c.mode := by rw [h.frame]

/-- The first hold step, a JET step due at the swap, executes, and no other. -/
theorem runSteps_swapped (live : c.run.livePage = some k) (armed : c.run.holdCursor = some i) (next : n.val = i.val + 1)
    (at_once : stepDelay (c.pages[k]).steps[i] = 0) (always : stepByte (c.pages[k]).steps[i] 1 = 0)
    (is : stepKind (c.pages[k]).steps[i] = some .jet) (later : 0 < stepDelay (c.pages[k]).steps[n]) :
    (swapped (gusty c) i).runSteps = ((swapped (gusty c) i).stepEffect (c.pages[k]).steps[i] c.clock.value).placeHold n
      (c.clock.value + stepDelay (c.pages[k]).steps[n]) := by
  have clock : (swapped (gusty c) i).clock = c.clock := rfl
  have cue : (swapped (gusty c) i).run.cue = .holding := rfl
  have executes : (swapped (gusty c) i).executeHold i c.clock.value = ((swapped (gusty c) i).stepEffect (c.pages[k]).steps[i]
      c.clock.value).placeHold n (c.clock.value + stepDelay (c.pages[k]).steps[n]) :=
    executeHold_jet (c := swapped (gusty c) i) live is always next
  have isDue : (swapped (gusty c) i).run.holdDue = some (swapped (gusty c) i).clock.value := by
    show some (c.clock.value + stepDelay ((gusty c).stepAt i)) = some c.clock.value
    rw [stepAt_live (c := gusty c) live]
    exact congrArg some (by rw [show stepDelay ((gusty c).pages[k]).steps[i] = 0 from at_once]; rfl)
  have flows := jetStep_flows (c := swapped (gusty c) i) (due := c.clock.value) is
  have flowed_cue := congrArg ShowRecord.cue (flows_run flows)
  have flowed_clock := flows_clock flows
  rw [← executes]
  refine runSteps_hold cue armed isDue ?_ fun m mem => ?_
  · rw [clock, executes]
    exact flowed_cue
  · rw [clock, executes] at mem ⊢
    generalize (swapped (gusty c) i).stepEffect (c.pages[k]).steps[i] c.clock.value = d at mem flowed_clock
    have is : c.clock.value + stepDelay (c.pages[k]).steps[n] = m := Option.some.inj mem
    rw [← is]
    show d.clock.value < _
    rw [flowed_clock]
    exact Nat.lt_add_of_pos_right later

end Sys2Proof.Proofs.WindHold


/-! PROOF. A gust at the close of the gate, and RESUME under the hold cursor (O18; R50, R51, R53, R54, R148). -/

namespace Sys2Proof.Proofs.WindHold

open Sys2Proof Sys2Proof.Machine Sys2Proof.Proofs.StepEffects Sys2Proof.Proofs.Water Sys2Proof.Proofs.Orders
open Sys2Proof.Proofs.Settling Sys2Proof.Proofs.DueSteps Sys2Proof.Proofs.WaterSteps Sys2Proof.Proofs.EndingShow
open Sys2Proof.Proofs.ReleaseFountain

variable {s : State} {c d e before : Chip} {i n : StepIndex} {k : PageId} {raw : RawStep} {due : Nat} {j : JetId}

/-! ## The swap as the command leaves it -/

theorem swap_noted (c : Chip) (i : StepIndex) : Noted [.gust, .showState, .hold] c (swapped (gusty c) i) :=
  .trans ((gusty_noted c).mono (by simp)) ((swapped_noted (gusty c) i).mono (by simp))

theorem swap_heard (c : Chip) (i : StepIndex) {x : Notice} (mem : x ∈ [Notice.gust, .showState, .hold]) (m : LinkId) :
    x ∈ ((swapped (gusty c) i).links[m]).notices := by
  rcases List.mem_cons.mp mem with rfl | mem
  · exact Noted.keeps (swapped_noted (gusty c) i) (notify_heard _ _) m
  · exact swapped_heard (gusty c) i mem m

/-- What the swap leaves where the first hold step, a JET step due at once, has executed. -/
structure HoldBegun (c : Chip) (k : PageId) (i n : StepIndex) (d : Chip) : Prop where
  run : d.run = { c.run with
    cue := .holding
    shadow := some c.run.counters
    holdEntry := some c.clock.value
    holdCursor := some n
    holdDue := some (c.clock.value + stepDelay (c.pages[k]).steps[n]) }
  pumps : d.image.pumps = c.image.pumps
  pages : d.pages = c.pages
  clock : d.clock = c.clock
  playback : d.playback = c.playback
  lamps : d.showLayer = c.showLayer
  on  : ∀ j : JetId, (stepJets (c.pages[k]).steps[i]).getLsbD j.val = true →
    d.image.jets[j] = ⟨stepDemand (c.pages[k]).steps[i], none⟩ ∧ orderOf d j = (.showRun, stepDemand (c.pages[k]).steps[i], none)
  off : ∀ j : JetId, (stepJets (c.pages[k]).steps[i]).getLsbD j.val = false →
    d.image.jets[j] = c.image.jets[j] ∧ orderOf d j = orderOf c j
  noticed : c.noticed d [.gust, .showState, .hold] [.pumpFault]

theorem settle_holdBegun (mode : c.mode.mode = .showMode) (live : c.run.livePage = some k) (armed : c.run.holdCursor = some i)
    (next : n.val = i.val + 1) (at_once : stepDelay (c.pages[k]).steps[i] = 0) (always : stepByte (c.pages[k]).steps[i] 1 = 0)
    (is : stepKind (c.pages[k]).steps[i] = some .jet) (later : 0 < stepDelay (c.pages[k]).steps[n]) (before : Chip) :
    HoldBegun c k i n (Chip.settle before (swapped (gusty c) i).runSteps) := by
  have flows := jetStep_flows (c := swapped (gusty c) i) (due := c.clock.value) is
  have pumps := jetStep_imagePumps (c := swapped (gusty c) i) (due := c.clock.value) is
  have writes (j : JetId) := jetStep_writes (c := swapped (gusty c) i) (due := c.clock.value) is j
  rw [runSteps_swapped live armed next at_once always is later]
  generalize (swapped (gusty c) i).stepEffect (c.pages[k]).steps[i] c.clock.value = d at flows pumps writes
  have run : d.run = (swapped (gusty c) i).run := flows_run flows
  have flowed_mode := flows_mode flows
  have d_mode : d.mode = c.mode := flowed_mode
  have settled := settle_attended (before := before) (c := d.placeHold n (c.clock.value + stepDelay (c.pages[k]).steps[n]))
    (.inl (by rw [show (Chip.run (d.placeHold _ _)).cue = d.run.cue from rfl, run]; nofun))
    (.inl (by rw [show (Chip.run (d.placeHold _ _)).cue = d.run.cue from rfl, run]; nofun))
    (by rw [show Chip.mode (d.placeHold _ _) = d.mode from rfl, d_mode, mode]; nofun)
    (by rw [show Chip.mode (d.placeHold _ _) = d.mode from rfl, d_mode, mode]; nofun)
  rw [settled]
  obtain ⟨frame, noted⟩ := flows
  refine ⟨?_, pumps, by rw [frame]; rfl, by rw [frame]; rfl, by rw [frame]; rfl, by rw [frame]; rfl, fun j mem => ?_, fun j out => ?_, ?_⟩
  · exact congrArg (fun r : ShowRecord => { r with
      holdCursor := some n, holdDue := some (c.clock.value + stepDelay (c.pages[k]).steps[n]) }) run
  · obtain ⟨image, order, -⟩ := (writes j).1 mem
    exact ⟨image, order⟩
  · exact (writes j).2 out
  · have told : Noted [.gust, .showState, .hold, .pumpFault] c d := ((swap_noted c i).mono (by simp)).trans (noted.mono (by simp))
    have heard : ∀ x ∈ [Notice.gust, .showState, .hold], ∀ m : LinkId, x ∈ (d.links[m]).notices :=
      fun x mem m => Noted.keeps noted (swap_heard c i mem) m
    exact noticed_of_noted (told.trans (.of_links rfl)) heard (by simp)

/-! ## A gust without a swap (R51) -/

/-- Outside RESTORING and ENDING that would complete, the tests change the water, the power, the flush and the timer alone. -/
theorem settle_calm_of (restore : c.run.cue ≠ .restoring ∨ c.waterRestored = false)
    (ending : c.run.cue ≠ .ending ∨ c.pumpsDown = false ∨ c.lampsDark = false) (before : Chip) : Calm c (Chip.settle before c) := by
  rw [settle_eq, testRestore_stands restore, testEnding_stands ending]
  exact ((testFlush_calm c).trans (testPower_calm _)).trans (testDormancy_calm _ before)

theorem not_waterRestored (h : ∃ j : JetId, 0 < (c.image.jets[j]).demand ∧ (c.jets[j]).state ≠ .opened) : c.waterRestored = false := by
  obtain ⟨j, flows, shut⟩ := h
  rw [Bool.eq_false_iff, ne_eq, waterRestored_iff]
  exact fun restored => shut (restored j flows)

theorem not_lampsDark (h : ∃ n : Fin 128, c.outputs[n] ≠ 0) : c.lampsDark = false := by
  obtain ⟨n, lit⟩ := h
  rw [Bool.eq_false_iff, ne_eq, lampsDark_iff]
  intro dark
  rw [dark] at lit
  exact lit (Vector.getElem_replicate _)

/-- The show states in which a gust makes no swap and no test completes. -/
def Unswapped (c : Chip) : Prop :=
  c.run.cue = .idle ∨ c.run.cue = .cued ∨ c.run.cue = .paused ∨ c.run.cue = .holding ∨
    (c.run.cue = .running ∧ c.run.holdCursor = none) ∨
    (c.run.cue = .restoring ∧ ∃ j : JetId, 0 < (c.image.jets[j]).demand ∧ (c.jets[j]).state ≠ .opened) ∨
    (c.run.cue = .ending ∧ ((∃ p : PumpId, (c.pumps[p]).state.up = true) ∨ ∃ n : Fin 128, c.outputs[n] ≠ 0))

theorem gustToShow_stands (h : c.run.cue ≠ .running ∨ c.run.holdCursor = none) : c.gustToShow = c := by
  unfold Chip.gustToShow
  split
  next running cursor => exact h.elim (absurd running) fun unarmed => nomatch unarmed.symm.trans cursor
  next => rfl

theorem settle_unswapped (h : Unswapped c) (before : Chip) : c.gustToShow = c ∧ Calm c (Chip.settle before c) := by
  rcases h with cue | cue | cue | cue | ⟨cue, unarmed⟩ | ⟨cue, dry⟩ | ⟨cue, up⟩
  iterate 4 exact ⟨gustToShow_stands (.inl (by rw [cue]; nofun)),
    settle_calm_of (.inl (by rw [cue]; nofun)) (.inl (by rw [cue]; nofun)) before⟩
  · exact ⟨gustToShow_stands (.inr unarmed), settle_calm_of (.inl (by rw [cue]; nofun)) (.inl (by rw [cue]; nofun)) before⟩
  · exact ⟨gustToShow_stands (.inl (by rw [cue]; nofun)),
      settle_calm_of (.inr (not_waterRestored dry)) (.inl (by rw [cue]; nofun)) before⟩
  · exact ⟨gustToShow_stands (.inl (by rw [cue]; nofun)), settle_calm_of (.inl (by rw [cue]; nofun))
      (.inr (up.imp not_pumpsDown_iff.mpr not_lampsDark)) before⟩

/-! ## The end of a hold (R53, R54) -/

/-- The show as RESUME leaves it, before the catch-up. -/
def unheld (c : Chip) (i : StepIndex) : Chip :=
  Chip.notify { c with run := { c.run with
    cue := .running
    counters := c.run.shadow.getD c.run.counters
    shadow := none
    holdCursor := if h : i.val + 1 < 1024 then some ⟨i.val + 1, h⟩ else none
    holdDue := none
    holdEntry := none } } .showState

/-- With the frozen step still to come the catch-up executes nothing and hands nothing over. -/
theorem catchUp_ahead {m : Nat} (cue : c.run.cue = .running) (isDue : c.run.mainDue = some m) (ahead : c.clock.value < m) :
    c.catchUp = c.endEvent := by
  have fuel : stepBound (c.run.mainDue.getD c.clock.value) c.clock.value = 0 := by
    rw [isDue, stepBound, Option.getD_some]
    omega
  unfold Chip.catchUp
  rw [fuel]
  have written : Chip.catchUpRun 0 c Written.nothing = (c, Written.nothing) := rfl
  dsimp only
  rw [written, if_neg (by rw [cue]; nofun), Chip.handOver]
  simp [Written.nothing, Chip.forEach]

theorem executeHold_resume (live : c.run.livePage = some k) (is : stepKind (c.pages[k]).steps[i] = some .resume)
    (acts : c.stepActs (c.pages[k]).steps[i] = true) {m : Nat} (isDue : c.run.mainDue = some m) (ahead : c.clock.value < m) :
    c.executeHold i due = (unheld c i).endEvent := by
  have at_step := stepAt_live live i
  have go : c.arrival i due (c.stepActs (c.stepAt i)) true = .resumed := by
    rw [at_step, acts]
    exact arrival_resume (by rw [at_step]; exact is)
  rw [executeHold_resumed go, at_step, if_pos acts, stepEffect_moves is (by simp)]
  exact catchUp_ahead (c := unheld c i) rfl isDue ahead

/-- What the end of a hold leaves. -/
theorem executeHold_ends (live : c.run.livePage = some k) (is : stepKind (c.pages[k]).steps[i] = some .resume)
    (acts : c.stepActs (c.pages[k]).steps[i] = true) {saved : Vector Nat 4} (shadow : c.run.shadow = some saved) {m : Nat}
    (isDue : c.run.mainDue = some m) (ahead : c.clock.value < m) : ∃ d : Chip, d = c.executeHold i due ∧
      d = { c with
        run := { c.run with
          cue := .running, counters := saved, shadow := none, holdCursor := d.run.holdCursor, holdDue := none
          holdEntry := none }
        pumps := d.pumps, queue := d.queue, joining := d.joining, history := d.history, jets := d.jets
        circ := d.circ, links := d.links } ∧
      (∀ n : StepIndex, n.val = i.val + 1 → d.run.holdCursor = some n) ∧ (i.val = 1023 → d.run.holdCursor = none) ∧
      c.noticed d [.showState] [.pumpFault] := by
  have ends : WaterMoves noJet anyPump true (unheld c i) (unheld c i).endEvent := endEvent_moves (.refl _)
  have water := (waterMoves_water ends).1
  have run := (waterMoves_water ends).run
  have noted := waterMoves_noted ends
  have told : Noted [.showState, .pumpFault] c (unheld c i) := .trans (.of_links rfl) (.notify (by simp) _)
  have counters : (unheld c i).run.counters = saved := by
    show c.run.shadow.getD c.run.counters = saved
    rw [shadow]
    rfl
  refine ⟨_, rfl, ?_⟩
  rw [executeHold_resume live is acts isDue ahead]
  generalize (unheld c i).endEvent = d at water run noted
  refine ⟨?_, fun n next => ?_, fun last => ?_, ?_⟩
  · rw [run, ← counters]
    exact water
  · have inside : i.val + 1 < 1024 := next ▸ n.isLt
    rw [run]
    exact (dif_pos inside).trans (congrArg some (Fin.ext next.symm))
  · rw [run]
    exact dif_neg (by omega)
  · exact noticed_of_noted (told.trans (noted.mono (by simp)))
      (fun x mem l => Noted.keeps noted (fun l => by rw [List.mem_singleton.mp mem]; exact notify_heard _ _ l) l) (by simp)

/-- Settles O18: the gust by what it finds of the show, and RESUME under the hold cursor. -/
theorem gustsHoldAndResumeEndsIt : Obligations.GustsHoldAndResumeEndsIt := by
  unfold Obligations.GustsHoldAndResumeEndsIt
  refine ⟨fun s free strong fresh => ⟨?_, ?_, ?_⟩, fun c i due k live is acts saved shadow m isDue ahead =>
    executeHold_ends live is acts shadow isDue ahead⟩
  · intro running mode k live i armed delayed
    refine ⟨_, windGateClose_swap free strong fresh running armed, ?_⟩
    rw [settle_swapped mode live delayed]
    refine ⟨noticed_of_noted ((swap_noted s.chip i).trans (.of_links rfl)) (fun x mem m => swap_heard s.chip i mem m) (by simp), ?_⟩
    have step := stepAt_live (c := gusty s.chip) live i
    have delay : stepDelay ((gusty s.chip).stepAt i) = stepDelay (s.chip.pages[k]).steps[i] := congrArg stepDelay step
    rw [← delay]
    rfl
  · intro running mode k live i n armed next at_once always is later
    obtain ⟨run, pumps, pages, clock, playback, lamps, on, off, noticed⟩ :=
      settle_holdBegun mode live armed next at_once always is later s.chip
    refine ⟨_, windGateClose_swap free strong fresh running armed, noticed, run, pumps, pages, clock, playback, lamps, fun j =>
      ⟨fun mem => ?_, fun out => ?_⟩⟩
    · obtain ⟨image, order⟩ := on j mem
      exact ⟨image, orderOf_iff.mp order⟩
    · obtain ⟨image, order⟩ := off j out
      exact ⟨image, orderOf_eq_iff.mp order⟩
  · intro quiet
    have unswapped : Unswapped (gusty s.chip) := quiet
    obtain ⟨stands, calm⟩ := settle_unswapped unswapped s.chip
    refine ⟨_, windGateClose_gust free strong fresh, ?_⟩
    rw [stands]
    generalize Chip.settle _ _ = d at calm
    have lamps : d.showLayer = (gusty s.chip).showLayer := by rw [calm.frame]
    have told : Noted [.gust, .pumpFault] s.chip d := ((gusty_noted s.chip).mono (by simp)).trans (calm.noted.mono (by simp))
    exact ⟨noticed_of_noted told (fun x mem m => Noted.keeps calm.noted (fun m => by
      rw [List.mem_singleton.mp mem]; exact notify_heard _ _ m) m) (by simp),
      calm.run, calm.image, calm.pages, calm.clock, calm.playback, lamps, calm.modeIs⟩

end Sys2Proof.Proofs.WindHold
